-- ==== Sys2Proof/Word.lean ====
section
/-! DEFINITION. The unit that travels on the part's serial lines. -/

namespace Sys2Proof

/-- A byte of the host line or of a card reader line (R162, R47). -/
abbrev Byte := BitVec 8

end Sys2Proof
end

