-- ==== Sys2Proof/Config.lean ====
section
/-! DEFINITION. What the part fixes once (capacities, widths of counters, periods), and its free values. -/

namespace Sys2Proof.Config

/-- The journal holds at most 512 records (R149). -/
def journalCapacity : Nat := 512
/-- The journal guard: records plus reservations at most 510 (R154). -/
def journalGuard : Nat := 510
/-- The free count at which JOURNAL-LOW is posted (R160). -/
def journalLow : Nat := 32
/-- The receive queue holds up to 4 frames (R163). -/
def receiveQueueCapacity : Nat := 4
/-- A reader port holds up to 4 waiting indicator frames (R48). -/
def indicatorCapacity : Nat := 4
/-- An in-path list holds at most 8 entries (R7). -/
def pathCapacity : Nat := 8
/-- An in-doubt list holds up to 16 sheets (R110). -/
def doubtCapacity : Nat := 16
/-- The account table has 4,096 slots (R124). -/
def slotCount : Nat := 4096
/-- The largest account figure, in cents (R124). -/
def maxCents : Nat := 9999999
/-- The largest identity (R124). -/
def maxIdentity : Nat := 9999999999
/-- The length of a scrub visit, in milliseconds (R131). -/
def scrubPeriod : Nat := 250
/-- The largest body of a host frame: a length byte of 241 counts the kind as well (R162). -/
def maxBody : Nat := 240
/-- 2^16: sheet numbers, jam serials, auth references and periods wrap here. -/
def wrap16 : Nat := 65536
/-- 2^32: serials and stamps wrap here. -/
def wrap32 : Nat := 4294967296
/-- Where the 32-bit counts saturate (R73, R110). -/
def top32 : Nat := 4294967295
/-- Meters count modulo 100,000,000 (R20). -/
def meterModulus : Nat := 100000000

/-- FREE VALUE (log 13): the damage that account content suffers while time passes (R132), for each
use of the model's counter: nothing, or a slot number and whether the damage can be corrected. The
spec says only that damage happens and that most of it is correctable. -/
opaque memoryDamage : Nat → Option (Nat × Bool)

end Sys2Proof.Config
end

