-- ==== Sys2Proof/Syntax.lean ====
section
/-! DEFINITION. The commands: one constructor of `Instr` for each row of spec/opcode_table.json. -/

namespace Sys2Proof

/-- A station 1 to 8, counted from 0 (00, "Numbering"). -/
abbrev StationId := Fin 8

/-- A sheet kind 0 to 7 (00, "Sheets and kinds"). -/
abbrev Kind := Fin 8

/-- The eight copier inputs of a station (01, "Copier input lines"). -/
inductive Line where
  | feed | deliver | colour | large | duplex | jam | ready | stopped
  deriving DecidableEq, Repr

/-- The two idle timers of a station (R39). -/
inductive TimerId where
  | a | b
  deriving DecidableEq, Repr

/-- The contents of a CARD frame (03, "The card reader line"; R189). A token's first received byte is
its least significant one (log 23). -/
inductive Card where
  | campus (identity : BitVec 40)
  | bank (token : BitVec 128)
  deriving DecidableEq, Repr

/-- The 28 bytes of a profile as SET-PROFILE carries them, in the order of R35 (R36, R188). -/
structure ProfileFields where
  plan : Byte
  presetHold : BitVec 32
  minOpening : BitVec 32
  allowance : Byte
  basis : Byte
  walkInRate : Byte
  transitLimit : Byte
  purgeWindow : Byte
  authTimeout : Byte
  pauseAck : Byte
  pulseWindow : Byte
  levelWindow : Byte
  sessionA : Byte
  sessionB : Byte
  idleA : Byte
  idleB : Byte
  linkCard : Byte
  linkFeed : Byte
  linkDeliver : Byte
  linkReadyRise : Byte
  linkHost : Byte
  autoStart : Byte
  deriving DecidableEq, Repr

/-- The commands. The first 34 are the host requests, each with the fields of its body as they travel
(R187, R188); the others are the events of the lines, timers, readers and supply. A `station : Byte` is
a station number the host sends, in or out of range; a `StationId` is the station an event happens at.
`pieces` says how much of the restart that the command begins is made before the next command is taken:
all of it, or so many of its pieces (R180; log 15). -/
inductive Instr where
  | getStatus
  | setTime (stamp : BitVec 32)
  | setPeriodAlarm (presence : Byte) (stamp : Option (BitVec 32))
  | turnPeriod
  | setDevice (mask : BitVec 16)
  | reset
  | clearAll
  | takeNotice
  | setProfile (station : Byte) (profile : ProfileFields)
  | readProfile (station : Byte)
  | startStation (station : Byte)
  | stopStation (station : Byte)
  | wakeStation (station : Byte)
  | readStation (station : Byte)
  | readJam (station : Byte)
  | readMeters (station : Byte)
  | openSession (station : Byte) (amount : BitVec 32) (hostRef : BitVec 32)
  | endSession (station : Byte)
  | readSession (station : Byte)
  | readAuth (station : Byte)
  | authResult (station : Byte) (authRef : BitVec 16) (amount : BitVec 32)
  | loadPlan (plan : Byte) (fields : List (BitVec 16))
  | amendPlan (plan : Byte) (mask : BitVec 16) (values : List (BitVec 16))
  | readPlan (plan : Byte)
  | quote (plan rate tier kind : Byte)
  | loadAccount (slot : BitVec 16) (identity : BitVec 40) (kind state rate : Byte)
      (figures : List (BitVec 32))
  | readAccount (slot : BitVec 16)
  | findAccount (identity : BitVec 40)
  | topup (slot : BitVec 16) (amount : BitVec 32)
  | setLimit (slot : BitVec 16) (limit : BitVec 32)
  | setAccountState (slot : BitVec 16) (state : Byte)
  | deleteAccount (slot : BitVec 16)
  | readJournal
  | releaseJournal (serial : BitVec 32)
  | hostFrameComplete (kind : Byte) (body : List Byte) (check : BitVec 16)
  | hostFrameGapTimeout
  | requestTaken
  | replySent (pieces : Option Nat)
  | rawLevelChange (station : StationId) (line : Line) (level : Bool)
  | lineLevelRecognized (station : StationId) (line : Line) (level : Bool)
  | feed (station : StationId)
  | delivery (station : StationId)
  | jamRise (station : StationId)
  | jamFall (station : StationId)
  | readyRise (station : StationId)
  | readyFall (station : StationId)
  | stoppedRise (station : StationId)
  | transitExpiry (station : StationId)
  | idleTimerExpiry (station : StationId) (timer : TimerId)
  | authTimerExpiry (station : StationId)
  | pauseAckExpiry (station : StationId)
  | purgeWindowExpiry (station : StationId)
  | scrubVisit
  | timeBaseTick
  | periodAlarmDue
  | cardFrame (station : StationId) (card : Card)
  | endFrame (station : StationId)
  | malformedFrame (station : StationId)
  | readerGapTimeout (station : StationId)
  | indicatorFrameSent (station : StationId)
  | pfailAsserted
  | supplyFailure (vbatHolds : Bool)
  | supplyReturn (pieces : Option Nat)
  | resetPinAsserted
  | resetPinDeasserted (pieces : Option Nat)
  | hostStartByte
  | hostBadLengthByte (length : Byte)
  | readerStartByte (station : StationId)
  | readerIdleResume (station : StationId)
  deriving DecidableEq, Repr

end Sys2Proof
end

