-- ==== Sys2Proof/WellFormed.lean ====
section
/-! DEFINITION. Which commands can be sent at all: a term whose operands fit the form the spec gives the
command. A request that does not fit is answered BAD-LENGTH (R187); the other ill-formed terms stand for
nothing that can arrive. -/

namespace Sys2Proof

/-- How many of the 15 plan fields an AMEND-PLAN mask names: bits 0 to 14 (R188). -/
def namedFields (mask : BitVec 16) : Nat :=
  (List.range 15).countP fun k => mask.getLsbD k

/-- The operands fit the command's form: lists of the stated length (R187, R188), a frame body of at most
240 bytes and a bad length byte that is bad (R162), an identity in range (R47). -/
def Instr.wellFormed : Instr → Bool
  | .setPeriodAlarm presence stamp => (presence == 0) == stamp.isNone
  | .loadPlan _ fields => fields.length == 15
  | .amendPlan _ mask values => values.length == namedFields mask
  | .loadAccount _ _ kind _ _ figures =>
      if kind = 1 then figures.length == 1
      else if kind = 2 then figures.length == 2
      else figures.length == 1 || figures.length == 2
  | .hostFrameComplete _ body _ => decide (body.length ≤ Config.maxBody)
  | .hostBadLengthByte length => decide (length.toNat = 0 ∨ 241 < length.toNat)
  | .cardFrame _ (.campus identity) => decide (identity.toNat ≤ Config.maxIdentity)
  | _ => true

end Sys2Proof
end

