-- ==== Sys2Proof/Decode.lean ====
section
/-! DEFINITION. The byte forms of commands: request frames of the host line (R187, R188) and reader
frames (R189), read and written. No row of spec/opcode_table.json gives bits, so `decodeTableWord` reads
none. -/

namespace Sys2Proof

/-! ### Numbers on the lines (R188): least significant byte first -/

/-- The `w` low bytes of `n`, least significant first. -/
def leBytes : Nat → Nat → List Byte
  | 0, _ => []
  | w + 1, n => BitVec.ofNat 8 n :: leBytes w (n / 256)

/-- The number a run of bytes carries, least significant first. -/
def leNat : List Byte → Nat
  | [] => 0
  | b :: bs => b.toNat + 256 * leNat bs

/-- The `w`-byte number at offset `k` of a body, as `n` bits. -/
def field (n : Nat) (body : List Byte) (k w : Nat) : BitVec n :=
  BitVec.ofNat n (leNat ((body.drop k).take w))

/-- The byte at offset `k` of a body. -/
def byteAt (body : List Byte) (k : Nat) : Byte := body.getD k 0

/-- The bytes of a field of `w` bytes. -/
def bytesOf {n : Nat} (w : Nat) (x : BitVec n) : List Byte := leBytes w x.toNat

/-- A run of 2-byte numbers. -/
def words16 : List Byte → List (BitVec 16)
  | lo :: hi :: rest => BitVec.ofNat 16 (leNat [lo, hi]) :: words16 rest
  | _ => []

/-- A run of 4-byte numbers. -/
def words32 : List Byte → List (BitVec 32)
  | b0 :: b1 :: b2 :: b3 :: rest => BitVec.ofNat 32 (leNat [b0, b1, b2, b3]) :: words32 rest
  | _ => []

/-! ### The frame check (R187) -/

/-- One bit of the CRC division by 0x1021, most significant bit first. -/
def crcBit (crc : BitVec 16) : BitVec 16 :=
  if crc.msb then (crc <<< 1) ^^^ 0x1021#16 else crc <<< 1

/-- The CRC register after one more byte. -/
def crcByte (crc : BitVec 16) (b : Byte) : BitVec 16 :=
  let x := crc ^^^ (b.setWidth 16 <<< 8)
  crcBit (crcBit (crcBit (crcBit (crcBit (crcBit (crcBit (crcBit x)))))))

/-- CRC-16, polynomial 0x1021, initial 0xFFFF, nothing reflected, no final value (R187). -/
def crc16 (bytes : List Byte) : BitVec 16 := bytes.foldl crcByte 0xFFFF#16

/-- The check of a host frame: over the length byte, the kind byte and the body (R187). -/
def frameCheck (kind : Byte) (body : List Byte) : BitVec 16 :=
  crc16 (BitVec.ofNat 8 (body.length + 1) :: kind :: body)

/-- A whole host frame as it travels: start, length, kind, body, CRC high byte first (09 "Frames"). -/
def frameBytes (kind : Byte) (body : List Byte) : List Byte :=
  let crc := frameCheck kind body
  0xC5#8 :: BitVec.ofNat 8 (body.length + 1) :: kind :: body ++
    [crc.extractLsb' 8 8, crc.extractLsb' 0 8]

/-! ### Requests -/

/-- The kind code of a request (R187); absent for a command that is no request. -/
def requestCode : Instr → Option Byte
  | .getStatus => some 0x01
  | .setTime _ => some 0x02
  | .setPeriodAlarm _ _ => some 0x03
  | .turnPeriod => some 0x04
  | .setDevice _ => some 0x05
  | .reset => some 0x06
  | .clearAll => some 0x07
  | .takeNotice => some 0x08
  | .setProfile _ _ => some 0x10
  | .readProfile _ => some 0x11
  | .startStation _ => some 0x12
  | .stopStation _ => some 0x13
  | .wakeStation _ => some 0x14
  | .readStation _ => some 0x15
  | .readJam _ => some 0x16
  | .readMeters _ => some 0x17
  | .openSession _ _ _ => some 0x20
  | .endSession _ => some 0x21
  | .readSession _ => some 0x22
  | .readAuth _ => some 0x23
  | .authResult _ _ _ => some 0x24
  | .loadPlan _ _ => some 0x30
  | .amendPlan _ _ _ => some 0x31
  | .readPlan _ => some 0x32
  | .quote _ _ _ _ => some 0x33
  | .loadAccount _ _ _ _ _ _ => some 0x40
  | .readAccount _ => some 0x41
  | .findAccount _ => some 0x42
  | .topup _ _ => some 0x43
  | .setLimit _ _ => some 0x44
  | .setAccountState _ _ => some 0x45
  | .deleteAccount _ => some 0x46
  | .readJournal => some 0x50
  | .releaseJournal _ => some 0x51
  | _ => none

/-- The 28 bytes of a profile in the order of R35. -/
def profileBytes (p : ProfileFields) : List Byte :=
  [p.plan] ++ bytesOf 4 p.presetHold ++ bytesOf 4 p.minOpening ++
    [p.allowance, p.basis, p.walkInRate, p.transitLimit, p.purgeWindow, p.authTimeout, p.pauseAck,
     p.pulseWindow, p.levelWindow, p.sessionA, p.sessionB, p.idleA, p.idleB,
     p.linkCard, p.linkFeed, p.linkDeliver, p.linkReadyRise, p.linkHost, p.autoStart]

/-- The body of a request (R187, R188): the fields its owning rule names, in that rule's order. -/
def requestBody : Instr → List Byte
  | .setTime stamp => bytesOf 4 stamp
  | .setPeriodAlarm presence stamp => presence :: (stamp.map (bytesOf 4)).getD []
  | .setDevice mask => bytesOf 2 mask
  | .setProfile station p => station :: profileBytes p
  | .readProfile station => [station]
  | .startStation station => [station]
  | .stopStation station => [station]
  | .wakeStation station => [station]
  | .readStation station => [station]
  | .readJam station => [station]
  | .readMeters station => [station]
  | .openSession station amount hostRef => station :: bytesOf 4 amount ++ bytesOf 4 hostRef
  | .endSession station => [station]
  | .readSession station => [station]
  | .readAuth station => [station]
  | .authResult station authRef amount => station :: bytesOf 2 authRef ++ bytesOf 4 amount
  | .loadPlan plan fields => plan :: fields.flatMap (bytesOf 2)
  | .amendPlan plan mask values => plan :: bytesOf 2 mask ++ values.flatMap (bytesOf 2)
  | .readPlan plan => [plan]
  | .quote plan rate tier kind => [plan, rate, tier, kind]
  | .loadAccount slot identity kind state rate figures =>
      bytesOf 2 slot ++ bytesOf 5 identity ++ [kind, state, rate] ++ figures.flatMap (bytesOf 4)
  | .readAccount slot => bytesOf 2 slot
  | .findAccount identity => bytesOf 5 identity
  | .topup slot amount => bytesOf 2 slot ++ bytesOf 4 amount
  | .setLimit slot limit => bytesOf 2 slot ++ bytesOf 4 limit
  | .setAccountState slot state => bytesOf 2 slot ++ [state]
  | .deleteAccount slot => bytesOf 2 slot
  | .releaseJournal serial => bytesOf 4 serial
  | _ => []

/-- The body length fits the form of the kind (R187). Where a field governs the form it is read: the
presence byte of SET-PERIOD-ALARM, above 1 taken as 1 (R188; log 20), the mask of AMEND-PLAN and the
account kind of LOAD-ACCOUNT, which outside its codes takes either of its lengths (R164). -/
def bodyFits (kind : Byte) (body : List Byte) : Bool :=
  match kind.toNat with
  | 0x02 => body.length == 4
  | 0x03 => if byteAt body 0 = 0 then body.length == 1 else body.length == 5
  | 0x05 => body.length == 2
  | 0x10 => body.length == 29
  | 0x11 => body.length == 1
  | 0x12 => body.length == 1
  | 0x13 => body.length == 1
  | 0x14 => body.length == 1
  | 0x15 => body.length == 1
  | 0x16 => body.length == 1
  | 0x17 => body.length == 1
  | 0x20 => body.length == 9
  | 0x21 => body.length == 1
  | 0x22 => body.length == 1
  | 0x23 => body.length == 1
  | 0x24 => body.length == 7
  | 0x30 => body.length == 31
  | 0x31 => body.length == 3 + 2 * namedFields (field 16 body 1 2)
  | 0x32 => body.length == 1
  | 0x33 => body.length == 4
  | 0x40 =>
      if byteAt body 7 = 1 then body.length == 14
      else if byteAt body 7 = 2 then body.length == 18
      else body.length == 14 || body.length == 18
  | 0x41 => body.length == 2
  | 0x42 => body.length == 5
  | 0x43 => body.length == 6
  | 0x44 => body.length == 6
  | 0x45 => body.length == 3
  | 0x46 => body.length == 2
  | 0x51 => body.length == 4
  | _ => body.length == 0

/-- The profile at offset 1 of a SET-PROFILE body. -/
def profileAt (body : List Byte) : ProfileFields where
  plan := byteAt body 1
  presetHold := field 32 body 2 4
  minOpening := field 32 body 6 4
  allowance := byteAt body 10
  basis := byteAt body 11
  walkInRate := byteAt body 12
  transitLimit := byteAt body 13
  purgeWindow := byteAt body 14
  authTimeout := byteAt body 15
  pauseAck := byteAt body 16
  pulseWindow := byteAt body 17
  levelWindow := byteAt body 18
  sessionA := byteAt body 19
  sessionB := byteAt body 20
  idleA := byteAt body 21
  idleB := byteAt body 22
  linkCard := byteAt body 23
  linkFeed := byteAt body 24
  linkDeliver := byteAt body 25
  linkReadyRise := byteAt body 26
  linkHost := byteAt body 27
  autoStart := byteAt body 28

/-- The request that a kind byte and a body of fitting length carry; none where the kind byte names no
request (R164 step 2, R187). -/
def requestFields (kind : Byte) (body : List Byte) : Option Instr :=
  let station := byteAt body 0
  match kind.toNat with
  | 0x01 => some .getStatus
  | 0x02 => some (.setTime (field 32 body 0 4))
  | 0x03 => some (.setPeriodAlarm station (if station = 0 then none else some (field 32 body 1 4)))
  | 0x04 => some .turnPeriod
  | 0x05 => some (.setDevice (field 16 body 0 2))
  | 0x06 => some .reset
  | 0x07 => some .clearAll
  | 0x08 => some .takeNotice
  | 0x10 => some (.setProfile station (profileAt body))
  | 0x11 => some (.readProfile station)
  | 0x12 => some (.startStation station)
  | 0x13 => some (.stopStation station)
  | 0x14 => some (.wakeStation station)
  | 0x15 => some (.readStation station)
  | 0x16 => some (.readJam station)
  | 0x17 => some (.readMeters station)
  | 0x20 => some (.openSession station (field 32 body 1 4) (field 32 body 5 4))
  | 0x21 => some (.endSession station)
  | 0x22 => some (.readSession station)
  | 0x23 => some (.readAuth station)
  | 0x24 => some (.authResult station (field 16 body 1 2) (field 32 body 3 4))
  | 0x30 => some (.loadPlan station (words16 (body.drop 1)))
  | 0x31 => some (.amendPlan station (field 16 body 1 2) (words16 (body.drop 3)))
  | 0x32 => some (.readPlan station)
  | 0x33 => some (.quote station (byteAt body 1) (byteAt body 2) (byteAt body 3))
  | 0x40 => some (.loadAccount (field 16 body 0 2) (field 40 body 2 5) (byteAt body 7) (byteAt body 8)
      (byteAt body 9) (words32 (body.drop 10)))
  | 0x41 => some (.readAccount (field 16 body 0 2))
  | 0x42 => some (.findAccount (field 40 body 0 5))
  | 0x43 => some (.topup (field 16 body 0 2) (field 32 body 2 4))
  | 0x44 => some (.setLimit (field 16 body 0 2) (field 32 body 2 4))
  | 0x45 => some (.setAccountState (field 16 body 0 2) (byteAt body 2))
  | 0x46 => some (.deleteAccount (field 16 body 0 2))
  | 0x50 => some .readJournal
  | 0x51 => some (.releaseJournal (field 32 body 0 4))
  | _ => none

/-- What checks 2 and 3 of R164 make of a good frame. -/
inductive Parsed where
  | unknownKind
  | badLength
  | request (r : Instr)
  deriving DecidableEq, Repr

/-- Checks 2 and 3 of R164 on a good frame. -/
def parseRequest (kind : Byte) (body : List Byte) : Parsed :=
  match requestFields kind body with
  | none => .unknownKind
  | some r => if bodyFits kind body then .request r else .badLength

/-! ### Card reader frames (R47, R189) -/

/-- The exclusive-or of a run of bytes. -/
def xorBytes (bytes : List Byte) : Byte := bytes.foldl (· ^^^ ·) 0

/-- A whole reader frame in either direction, given the bytes from its kind byte to before its end byte:
start byte, those, end byte, check byte (R189). -/
def readerFrameBytes (contents : List Byte) : List Byte :=
  0xA5#8 :: contents ++ [0x5A#8, xorBytes (contents ++ [0x5A#8])]

/-- The bytes of a received CARD or END frame before its end byte; empty for other commands. -/
def readerContents : Instr → List Byte
  | .cardFrame _ (.campus identity) => [0x31#8, 0x01#8] ++ bytesOf 5 identity
  | .cardFrame _ (.bank token) => [0x31#8, 0x02#8] ++ bytesOf 16 token
  | .endFrame _ => [0x32#8]
  | _ => []

/-- The tests of R47 on the bytes of one frame after its start byte: the command that the frame is at
station `i`. A run of bytes that fails a test, or is not as long as its kind and class say, is malformed. -/
def readReaderFrame (i : StationId) (bytes : List Byte) : Instr :=
  let ends (n : Nat) : Bool :=
    bytes.length == n + 2 && byteAt bytes n == 0x5A#8 && byteAt bytes (n + 1) == xorBytes (bytes.take (n + 1))
  match (byteAt bytes 0).toNat with
  | 0x31 =>
      match (byteAt bytes 1).toNat with
      | 1 =>
          if ends 7 && decide (leNat ((bytes.drop 2).take 5) ≤ Config.maxIdentity)
          then .cardFrame i (.campus (field 40 bytes 2 5)) else .malformedFrame i
      | 2 => if ends 18 then .cardFrame i (.bank (field 128 bytes 2 16)) else .malformedFrame i
      | _ => .malformedFrame i
  | 0x32 => if ends 1 then .endFrame i else .malformedFrame i
  | _ => .malformedFrame i

/-! ### Table words -/

/-- The command that a word spells by the bits of spec/opcode_table.json. No row of this table gives
bits, so no word spells a command. -/
def decodeTableWord (_nbits _w : Nat) : Option Instr := none

end Sys2Proof
end

