-- ==== Sys2Proof/Machine/State.lean ====
section
/-! DEFINITION. The state of the part: everything the spec gives it, as plain data, and its value after
reset. Ranges of numbers are the spec's; the operations keep them. -/

namespace Sys2Proof.Machine

/-- Why the machine could stop with a fault. The spec gives every event an effect and has no machine
fault, so there is no reason and no command raises one. -/
inductive Fault where
  deriving DecidableEq, Repr

/-- Why a command could be refused by the model. -/
inductive Refusal where
  /-- A command the model gives no meaning to; raised by no arm of `exec`. Safe: it stops the run. -/
  | notModelled (mnemonic : String)
  deriving DecidableEq, Repr

/-! ### Stations -/

/-- The device state (R176). -/
inductive DeviceState where
  | running | shutdown
  deriving DecidableEq, Repr

/-- The station state (02, "The station state"; R24). -/
inductive StationState where
  | offline | notReady | ready | save | jammed | recover
  deriving DecidableEq, Repr

/-- What the margin of the pause threshold is taken from (R35, R86). -/
inductive MarginBasis where
  | worst | last
  deriving DecidableEq, Repr

/-- A station profile (R35). Money in cents, times in their own units of R35. -/
structure Profile where
  plan : Nat
  presetHold : Nat
  minOpening : Nat
  allowance : Nat
  basis : MarginBasis
  walkInRate : Nat
  transitLimit : Nat
  purgeWindow : Nat
  authTimeout : Nat
  pauseAck : Nat
  pulseWindow : Nat
  levelWindow : Nat
  sessionA : Nat
  sessionB : Nat
  idleA : Nat
  idleB : Nat
  linkCard : TimerId
  linkFeed : TimerId
  linkDeliver : TimerId
  linkReadyRise : TimerId
  linkHost : TimerId
  autoStart : Bool
  deriving DecidableEq, Repr

/-- The defaults of R35. -/
def Profile.default : Profile where
  plan := 0
  presetHold := 500
  minOpening := 50
  allowance := 1
  basis := .worst
  walkInRate := 100
  transitLimit := 10
  purgeWindow := 20
  authTimeout := 45
  pauseAck := 3
  pulseWindow := 3
  levelWindow := 50
  sessionA := 5
  sessionB := 4
  idleA := 7
  idleB := 0
  linkCard := .a
  linkFeed := .b
  linkDeliver := .b
  linkReadyRise := .a
  linkHost := .a
  autoStart := false

/-- A candidate timing of a copier input (R1): since when the raw level differs. `silent` marks a pulse
line that was asserted when watching began, whose recognition is no event (R4). -/
structure Timing where
  since : Nat
  silent : Bool
  deriving DecidableEq, Repr

/-- One copier input: the pin, the recognized level and the candidate timing (R1). -/
structure LineState where
  raw : Bool
  level : Bool
  timing : Option Timing
  deriving DecidableEq, Repr

/-- The eight copier inputs of a station. -/
structure Lines where
  feed : LineState
  deliver : LineState
  colour : LineState
  large : LineState
  duplex : LineState
  jam : LineState
  ready : LineState
  stopped : LineState
  deriving DecidableEq, Repr

/-- The coverage of a sheet with its price where the class carries one (R7, R9). -/
inductive Coverage where
  | covered (price : Nat)
  | uncovered (price : Nat)
  | unpermitted
  deriving DecidableEq, Repr

/-- An entry of an in-path list (R7). -/
structure Sheet where
  number : Nat
  kind : Kind
  fedAt : Nat
  coverage : Coverage
  serial : Option Nat
  deriving DecidableEq, Repr

/-- An entry of an in-doubt list (R110). -/
structure DoubtSheet where
  number : Nat
  kind : Kind
  coverage : Coverage
  serial : Option Nat
  deriving DecidableEq, Repr

/-- The cause of a jam record (R107). -/
inductive JamCause where
  | line | transit | overrun | dropout | restart
  deriving DecidableEq, Repr

/-- A jam record (R108). It is CLOSED exactly when its lost count is present. -/
structure JamRecord where
  serial : Nat
  cause : JamCause
  stamp : Nat
  inDoubt : Nat
  listed : List DoubtSheet
  purged : Nat
  repeats : Nat
  lost : Option Nat
  deriving DecidableEq, Repr

/-- The fourteen meters of a station (R20). -/
structure Meters where
  delivered : Vector Nat 8
  jammed : Nat
  lost : Nat
  purged : Nat
  orphan : Nat
  unpermitted : Nat
  uncovered : Nat
  deriving DecidableEq, Repr

/-- The reasons of a REFUSE frame (R49). -/
inductive RefuseReason where
  | unknownCard | blocked | unavailable | lowCredit | busy | outOfService | journalFull | declined
  | readError | timeout
  deriving DecidableEq, Repr

/-- The card class of a refusal (R49). -/
inductive CardClass where
  | none | campus | bank
  deriving DecidableEq, Repr

/-- A station's last refusal (R49). -/
structure LastRefusal where
  reason : RefuseReason
  card : CardClass
  stamp : Nat
  deriving DecidableEq, Repr

/-- An idle timer (R39). -/
inductive IdleTimer where
  | stopped
  | running (expiry : Nat)
  | expired
  deriving DecidableEq, Repr

/-- A frame to a reader (03, "The card reader line"). -/
inductive Indicator where
  | accept (cents : Nat)
  | authorizing
  | refuse (reason : RefuseReason)
  | paused (cents : Nat)
  | closed (cents : Nat)
  deriving DecidableEq, Repr

/-- What a reader port does with the next byte (R47): it looks for a start byte, it assembles a frame,
or it ignores bytes until the line has been idle for 100 ms. -/
inductive ReaderCondition where
  | looking | assembling | waitingIdle
  deriving DecidableEq, Repr

/-- A card reader port (R47, R48): the receiving side, the indicator frame being sent, and those waiting,
oldest first. -/
structure ReaderPort where
  condition : ReaderCondition
  sending : Option Indicator
  waiting : List Indicator
  deriving DecidableEq, Repr

/-! ### Sessions -/

/-- Why a session closed (R50). -/
inductive CloseReason where
  | customer | walkAway | host | power | reset
  deriving DecidableEq, Repr

/-- The session states of R51 other than SUSPENDED. CLOSING carries the close reason, which is present
from the entry to CLOSING on (R50). -/
inductive Phase where
  | authorizing | active | holding | held
  | closing (reason : CloseReason)
  deriving DecidableEq, Repr

/-- The payment kind with its payment fields (R50). -/
inductive Payment where
  | campus (slot : Nat)
  | bank (authRef : Nat) (token : BitVec 128)
  | counter (hostRef : Nat)
  deriving DecidableEq, Repr

/-- A price plan (R75); an absent threshold is 0. -/
structure Plan where
  base : Vector Nat 8
  thresholds : Vector Nat 3
  discounts : Vector Nat 4
  deriving DecidableEq, Repr

/-- The default plan (R75). -/
def Plan.default : Plan where
  base := #v[0, 0, 0, 0, 0, 0, 0, 0]
  thresholds := #v[0, 0, 0]
  discounts := #v[0, 0, 0, 0]

/-- A session (R50). `phase` is its state, or its state before suspension while `suspended` is set. -/
structure Session where
  serial : Nat
  payment : Payment
  hold : Nat
  charged : Nat
  pending : Nat
  tier : Fin 4
  ceiling : Nat
  lastKind : Option Kind
  plan : Plan
  rate : Nat
  fed : Nat
  covered : Vector Nat 8
  uncovered : Nat
  unpermitted : Nat
  jammed : Nat
  uncoveredValue : Nat
  extendCount : Nat
  phase : Phase
  suspended : Bool
  clamped : Bool
  forced : Bool
  parked : Bool
  opened : Nat
  stopPending : Bool
  deriving DecidableEq, Repr

/-- Everything the part holds for one station (00, "Block overview"). -/
structure Station where
  state : StationState
  profile : Profile
  forcedStops : Nat
  lastRefusal : Option LastRefusal
  meters : Meters
  lastSheet : Nat
  path : List Sheet
  jam : Option JamRecord
  jamSerial : Nat
  session : Option Session
  lines : Lines
  timerA : IdleTimer
  timerB : IdleTimer
  authTimer : Option Nat
  pauseTimer : Option Nat
  purgeTimer : Option Nat
  reader : ReaderPort
  deriving DecidableEq, Repr

/-! ### Accounts -/

/-- The money of an account by its kind (R124), in cents. -/
inductive Figures where
  | prepaid (balance : Nat)
  | department (limit spent period : Nat)
  deriving DecidableEq, Repr

/-- The content of a slot that its check code covers (R129). -/
structure Account where
  blocked : Bool
  rate : Nat
  figures : Figures
  held : Nat
  openCount : Nat
  lastUse : Nat
  deriving DecidableEq, Repr

/-- The content of a slot against its check code (R129): as last written, or damaged since (R132). -/
inductive Damage where
  | sound | correctable | uncorrectable
  deriving DecidableEq, Repr

/-- A slot that is not FREE: its directory entry with the SUSPECT marking (R125), its content as last
written, and the damage to it since. -/
structure Slot where
  identity : Nat
  suspect : Bool
  account : Account
  damage : Damage
  deriving DecidableEq, Repr

/-! ### Journal -/

/-- The cause of a restart (R152). -/
inductive RestartCause where
  | supply | retainLost | pin | command
  deriving DecidableEq, Repr

/-- The payment field a SETTLE record carries (R151). -/
inductive PaidBy where
  | campus (slot identity : Nat)
  | bank (authRef : Nat)
  | counter (hostRef : Nat)
  deriving DecidableEq, Repr

/-- A SETTLE record (R151). -/
structure SettleRecord where
  serial : Nat
  opened : Nat
  closed : Nat
  station : Nat
  sessionSerial : Nat
  paidBy : PaidBy
  hold : Nat
  charged : Nat
  covered : Vector Nat 8
  uncovered : Nat
  uncoveredValue : Nat
  unpermitted : Nat
  jammed : Nat
  extendCount : Nat
  reason : CloseReason
  clamped : Bool
  forced : Bool
  parked : Bool
  deriving DecidableEq, Repr

/-- A RESTART record (R152). -/
structure RestartRecord where
  serial : Nat
  stamp : Nat
  cause : RestartCause
  repeats : Nat
  settled : Nat
  deriving DecidableEq, Repr

/-- A record of the billing journal (R149). -/
inductive Record where
  | settle (r : SettleRecord)
  | restart (r : RestartRecord)
  deriving DecidableEq, Repr

/-! ### Host line and notices -/

/-- The twelve notice kinds (R172). -/
inductive NoticeKind where
  | powerFail | memoryFault | authRequest | jam | journalLow | sessionClosed | paused | cardRefused
  | recovered | stationChange | memoryCorrected | periodTurned
  deriving DecidableEq, Repr

/-- A pending entry: a kind and a station 1 to 8, or 0 for the device (R172). -/
structure Notice where
  kind : NoticeKind
  station : Nat
  deriving DecidableEq, Repr

/-- The condition of the host line controller (R162). -/
inductive HostCondition where
  | hunting | assembling
  deriving DecidableEq, Repr

/-- A complete frame in the receive queue (R163): a request, or a bad frame when its check failed. -/
structure HostFrame where
  kind : Byte
  body : List Byte
  good : Bool
  deriving DecidableEq, Repr

/-- A reply being sent (R165): its kind, its body with the status first, and whether a restart begins
once the whole of it has been sent (R171). -/
structure Reply where
  kind : Byte
  body : List Byte
  restarts : Bool
  deriving DecidableEq, Repr

/-! ### Restart -/

/-- A restart in progress (R179 to R186): its cause, the device state before it, the index of its next
piece of work, the stations whose sessions it settled, and what its settlements found in memory (R184). -/
structure Restart where
  cause : RestartCause
  before : DeviceState
  next : Nat
  settled : List StationId
  corrected : Bool
  faulted : Bool
  deriving DecidableEq, Repr

/-- The state of the part. -/
structure State where
  /-- the commands that wait, first in first out -/
  pending : List Instr
  device : DeviceState
  /-- the retained-domain validity marker matches its check (R181) -/
  marker : Bool
  mainSupply : Bool
  /-- PFAIL is recognized asserted (R176) -/
  pfail : Bool
  resetPin : Bool
  /-- the main supply has come up from absent since the last restart began (R179) -/
  cameUp : Bool
  restart : Option Restart
  /-- the interval count, in milliseconds (R7, R147) -/
  now : Nat
  /-- milliseconds into the current second of the time base (R147; log 28) -/
  divider : Nat
  stamp : Nat
  timeUnset : Bool
  stations : Vector Station 8
  sessionSerial : Nat
  authRef : Nat
  plans : Vector Plan 8
  /-- the slots that are not FREE, by rising slot number -/
  slots : List (Nat × Slot)
  scrubPosition : Nat
  /-- the instant of the next scrub visit, while visits are made (R131) -/
  scrubDue : Option Nat
  lastCorrected : Option Nat
  lastFault : Option Nat
  period : Nat
  alarm : Option Nat
  journal : List Record
  reservations : Nat
  recordSerial : Nat
  noticeMask : BitVec 16
  /-- the pending notices by rising priority number and station -/
  notices : List Notice
  hostCondition : HostCondition
  receiveQueue : List HostFrame
  linkOverrun : Bool
  reply : Option Reply
  /-- the MODEL's own field: the counter the free value of log 13 is applied to -/
  freeCount : Nat
  deriving DecidableEq, Repr

/-! ### Reset -/

/-- A line at the start of watching (R4), its pin deasserted (log 8). -/
def LineState.reset : LineState where
  raw := false
  level := false
  timing := none

/-- The eight lines at reset. -/
def Lines.reset : Lines where
  feed := .reset
  deliver := .reset
  colour := .reset
  large := .reset
  duplex := .reset
  jam := .reset
  ready := .reset
  stopped := .reset

/-- All meters at 0 (R21). -/
def Meters.zero : Meters where
  delivered := #v[0, 0, 0, 0, 0, 0, 0, 0]
  jammed := 0
  lost := 0
  purged := 0
  orphan := 0
  unpermitted := 0
  uncovered := 0

/-- A reader port at its start (R47, R48). -/
def ReaderPort.reset : ReaderPort where
  condition := .looking
  sending := none
  waiting := []

/-- A station after loss of the retained domain and a restart (R181, R186). -/
def Station.reset : Station where
  state := .offline
  profile := .default
  forcedStops := 0
  lastRefusal := none
  meters := .zero
  lastSheet := 0
  path := []
  jam := none
  jamSerial := 0
  session := none
  lines := .reset
  timerA := .stopped
  timerB := .stopped
  authTimer := none
  pauseTimer := none
  purgeTimer := none
  reader := .reset

/-- The part right after its first restart, which found the retained domain lost: every item of the table
of R181 at its value there, the RESTART record of cause RETAIN-LOST as the first record of the journal
(R149), STATION-CHANGE posted for every station (R186), the device RUNNING (log 1). -/
def State.reset : State where
  pending := []
  device := .running
  marker := true
  mainSupply := true
  pfail := false
  resetPin := false
  cameUp := false
  restart := none
  now := 0
  divider := 0
  stamp := 0
  timeUnset := true
  stations := #v[.reset, .reset, .reset, .reset, .reset, .reset, .reset, .reset]
  sessionSerial := 0
  authRef := 0
  plans := #v[.default, .default, .default, .default, .default, .default, .default, .default]
  slots := []
  scrubPosition := 0
  scrubDue := some 250
  lastCorrected := none
  lastFault := none
  period := 0
  alarm := none
  journal := [.restart
    { serial := 1, stamp := 0, cause := .retainLost, repeats := 1, settled := 0 }]
  reservations := 0
  recordSerial := 1
  noticeMask := 0x0FFF
  notices := [⟨.stationChange, 1⟩, ⟨.stationChange, 2⟩, ⟨.stationChange, 3⟩, ⟨.stationChange, 4⟩,
    ⟨.stationChange, 5⟩, ⟨.stationChange, 6⟩, ⟨.stationChange, 7⟩, ⟨.stationChange, 8⟩]
  hostCondition := .hunting
  receiveQueue := []
  linkOverrun := false
  reply := none
  freeCount := 0

end Sys2Proof.Machine
end

