-- ==== Sys2Proof/Machine/Ops.lean ====
section
/-! DEFINITION. The named operations that every block uses: counters, the conditions under which the part
works, stations, notices, reader frames, station states, idle timers. -/

namespace Sys2Proof.Machine

/-! ### Counters (00, "Ranges and arithmetic") -/

/-- One more, returning to 0 after `modulus - 1`: a quantity that wraps. -/
def wrapInc (modulus n : Nat) : Nat := (n + 1) % modulus

/-- `k` more, staying at `top`: a quantity that saturates. -/
def satAdd (top n k : Nat) : Nat := min top (n + k)

/-- An addition to a meter (R20). -/
def meterAdd (m c : Nat) : Nat := (m + c) % Config.meterModulus

/-- All stations, in order 1 to 8. -/
def allStations : List StationId := [0, 1, 2, 3, 4, 5, 6, 7]

/-! ### When the part works -/

/-- The part takes host frames, reader frames and its own events: the main supply is present, the RESET
pin is deasserted, no power-up waits for its restart and no restart runs (R168, R179, R180). -/
def State.alive (s : State) : Bool :=
  s.mainSupply && !s.resetPin && !s.cameUp && s.restart.isNone

/-- The device is RUNNING and works. -/
def State.running (s : State) : Bool :=
  s.alive && decide (s.device = .running)

/-! ### Stations -/

/-- Station `i` of the part. -/
def State.station (s : State) (i : StationId) : Station := s.stations[i.val]

/-- The part with another station `i`. -/
def State.setStation (s : State) (i : StationId) (st : Station) : State :=
  { s with stations := s.stations.set i.val st }

/-- The part with station `i` changed by `f`. -/
def State.modStation (s : State) (i : StationId) (f : Station → Station) : State :=
  s.setStation i (f (s.station i))

/-- Every station changed by `f`. -/
def State.modStations (s : State) (f : Station → Station) : State :=
  allStations.foldl (fun acc i => acc.modStation i f) s

/-- The part with the session at station `i`, if there is one, changed by `f`. -/
def State.modSession (s : State) (i : StationId) (f : Session → Session) : State :=
  s.modStation i fun st => { st with session := st.session.map f }

/-- The part with the session table entry of station `i` as given. -/
def State.setSession (s : State) (i : StationId) (x : Option Session) : State :=
  s.modStation i fun st => { st with session := x }

/-- The sessions of the table, with their stations in order. -/
def State.sessions (s : State) : List (StationId × Session) :=
  allStations.filterMap fun i => (s.station i).session.map fun x => (i, x)

/-- The station a host's station number names, if there is one (1 to 8). -/
def stationOf (number : Byte) : Option StationId :=
  if h : 1 ≤ number.toNat ∧ number.toNat ≤ 8 then some ⟨number.toNat - 1, by omega⟩ else none

/-- The number of a station (00, "Numbering"). -/
def stationNumber (i : StationId) : Nat := i.val + 1

/-- The interval count reaches instant `t` (log 5). The time base does not go with it: the divider and the stamp stand,
and the seconds passed over are not counted (R147; log 45). -/
def State.reach (s : State) (t : Nat) : State := { s with now := max s.now t }

/-! ### Session states (R51) -/

/-- The session is ACTIVE, HOLDING or HELD. -/
def Session.copying (x : Session) : Bool :=
  !x.suspended && (decide (x.phase = .active) || decide (x.phase = .holding) || decide (x.phase = .held))

/-- The session is AUTHORIZING. -/
def Session.authorizing (x : Session) : Bool := !x.suspended && decide (x.phase = .authorizing)

/-- The close reason of a phase, present from CLOSING on (R50). -/
def Phase.closeReason : Phase → Option CloseReason
  | .closing r => some r
  | _ => none

/-- The session is CLOSING. -/
def Session.closing (x : Session) : Bool := !x.suspended && x.phase.closeReason.isSome

/-! ### Copier outputs (R25) -/

/-- The copier outputs of the part are driven: the main supply is present, the RESET pin is deasserted
(R25, R179) and the device is RUNNING. -/
def State.driven (s : State) : Bool :=
  s.mainSupply && !s.resetPin && decide (s.device = .running)

/-- PERMIT of a station, by the table of R25. -/
def State.permit (s : State) (i : StationId) : Bool :=
  s.driven && decide ((s.station i).state = .ready) &&
    match (s.station i).session with
    | none => false
    | some x => !x.suspended &&
        (decide (x.phase = .active) || decide (x.phase = .holding) ||
          (decide (x.phase = .held) && !x.forced))

/-- PAUSE of a station, by the table of R25. -/
def State.pause (s : State) (i : StationId) : Bool :=
  s.driven &&
    match (s.station i).session with
    | none => false
    | some x => !x.suspended && (decide (x.phase = .holding) || decide (x.phase = .held))

/-- SAVE of a station, by the table of R25. -/
def State.save (s : State) (i : StationId) : Bool :=
  s.driven && decide ((s.station i).state = .save)

/-! ### Notices (R172 to R174) -/

/-- The priority of a notice kind, 1 the highest (R172). -/
def NoticeKind.priority : NoticeKind → Nat
  | .powerFail => 1
  | .memoryFault => 2
  | .authRequest => 3
  | .jam => 4
  | .journalLow => 5
  | .sessionClosed => 6
  | .paused => 7
  | .cardRefused => 8
  | .recovered => 9
  | .stationChange => 10
  | .memoryCorrected => 11
  | .periodTurned => 12

/-- The place of an entry in the order of R173: by priority, then by station. -/
def Notice.rank (n : Notice) : Nat := n.kind.priority * 16 + n.station

/-- The pending set with one more entry; unchanged if it is there already (R172). -/
def insertNotice (n : Notice) : List Notice → List Notice
  | [] => [n]
  | m :: rest =>
      if n.rank < m.rank then n :: m :: rest
      else if n.rank = m.rank then m :: rest
      else m :: insertNotice n rest

/-- A posting for station number `number`, 0 for the device (R172). -/
def State.post (s : State) (kind : NoticeKind) (number : Nat) : State :=
  { s with notices := insertNotice ⟨kind, number⟩ s.notices }

/-- A posting for station `i`. -/
def State.postAt (s : State) (kind : NoticeKind) (i : StationId) : State :=
  s.post kind (stationNumber i)

/-- The entry's kind is enabled by the mask: bit k - 1 for the kind of priority k (R188). -/
def State.enabled (s : State) (n : Notice) : Bool :=
  s.noticeMask.getLsbD (n.kind.priority - 1)

/-- ATTN: an entry of an enabled kind is pending, the supply present and the RESET pin deasserted
(R174, R179). -/
def State.attn (s : State) : Bool :=
  s.mainSupply && !s.resetPin && s.notices.any s.enabled

/-! ### Indicator frames (R48) and refusals (R49) -/

/-- A frame is produced for a reader (R48): it begins at once on a free line; with 4 waiting, the oldest
waiting frame is discarded. -/
def ReaderPort.produce (p : ReaderPort) (f : Indicator) : ReaderPort :=
  match p.sending with
  | none => { p with sending := some f }
  | some _ =>
      if p.waiting.length < Config.indicatorCapacity then { p with waiting := p.waiting ++ [f] }
      else { p with waiting := p.waiting.tail ++ [f] }

/-- A frame is produced for the reader of station `i`. -/
def State.indicate (s : State) (i : StationId) (f : Indicator) : State :=
  s.modStation i fun st => { st with reader := st.reader.produce f }

/-- A REFUSE to the reader of station `i` (R49): the frame, the last refusal, CARD-REFUSED. -/
def State.refuse (s : State) (i : StationId) (reason : RefuseReason) (card : CardClass) : State :=
  let s := s.modStation i fun st => { st with lastRefusal := some ⟨reason, card, s.stamp⟩ }
  (s.indicate i (.refuse reason)).postAt .cardRefused i

/-! ### Station state changes (R26) -/

/-- The notice that a change of station state posts (R26). -/
def changeNotice (old new : StationState) : NoticeKind :=
  if new = .jammed then .jam
  else if old = .recover ∧ (new = .ready ∨ new = .offline) then .recovered
  else .stationChange

/-- Station `i` changes to state `new` and posts its notice (R26). -/
def State.enterState (s : State) (i : StationId) (new : StationState) : State :=
  (s.modStation i fun st => { st with state := new }).postAt
    (changeNotice (s.station i).state new) i

/-! ### Idle timers (R39 to R42) -/

/-- The duration of an idle timer code in seconds; none for NONE (02, "Idle timers"). -/
def codeSeconds : Nat → Option Nat
  | 1 => some 5
  | 2 => some 10
  | 3 => some 20
  | 4 => some 30
  | 5 => some 60
  | 6 => some 120
  | 7 => some 300
  | 8 => some 600
  | 9 => some 1800
  | _ => none

/-- The duration of an idle timer for the current situation: the session pair while a session exists,
the idle pair otherwise (R39), by the codes of the profile as it stands (log 39). -/
def Station.duration (st : Station) (t : TimerId) : Option Nat :=
  codeSeconds <| match st.session, t with
    | some _, .a => st.profile.sessionA
    | some _, .b => st.profile.sessionB
    | none, .a => st.profile.idleA
    | none, .b => st.profile.idleB

/-- An idle timer of the station. -/
def Station.timer (st : Station) : TimerId → IdleTimer
  | .a => st.timerA
  | .b => st.timerB

/-- The station with an idle timer as given. -/
def Station.setTimer (st : Station) (t : TimerId) (v : IdleTimer) : Station :=
  match t with
  | .a => { st with timerA := v }
  | .b => { st with timerB := v }

/-- A timer newly loaded at instant `now`: STOPPED for a duration of NONE (R41). -/
def loadedTimer (now : Nat) : Option Nat → IdleTimer
  | none => .stopped
  | some seconds => .running (now + 1000 * seconds)

/-- Both timers reloaded with the durations of the situation now in force (R41). -/
def State.reloadBoth (s : State) (i : StationId) : State :=
  s.modStation i fun st =>
    { st with timerA := loadedTimer s.now (st.duration .a), timerB := loadedTimer s.now (st.duration .b) }

/-- Both idle timers stopped (R29, R39). -/
def Station.stopIdle (st : Station) : Station := { st with timerA := .stopped, timerB := .stopped }

/-- An activity linked to timer `t` at station `i` (R40): it wakes a SAVE station (R45) and reloads the
timer; a duration of NONE, and an OFFLINE station, change neither timer. -/
def State.activity (s : State) (i : StationId) (t : TimerId) : State :=
  if (s.station i).state = .offline then s
  else
    let s := if (s.station i).state = .save then s.enterState i .ready else s
    match (s.station i).duration t with
    | none => s
    | some seconds => s.modStation i fun st => st.setTimer t (.running (s.now + 1000 * seconds))

/-- The station is quiet (R42). -/
def Station.quiet (st : Station) : Bool :=
  ((st.duration .a).isSome || (st.duration .b).isSome) &&
    ((st.duration .a).isNone || decide (st.timerA = .expired)) &&
    ((st.duration .b).isNone || decide (st.timerB = .expired))

/-! ### Transit timer (R15) -/

/-- The instant at which the transit timer of a station expires; none while it is stopped. It is aimed at
the oldest entry and uses that entry's own fed-at (R15). -/
def Station.transitExpiry (st : Station) : Option Nat :=
  st.path.head?.map fun e => e.fedAt + 1000 * st.profile.transitLimit

/-! ### Entering OFFLINE (R29) -/

/-- The closing of an OPEN jam record (R118, R29, R121): the purge window stops, the lost count is set,
the lost and purged meters rise, the record becomes CLOSED. -/
def Station.closeJam (st : Station) : Station :=
  match st.jam with
  | none => { st with purgeTimer := none }
  | some r =>
      match r.lost with
      | some _ => { st with purgeTimer := none }
      | none =>
          { st with
            purgeTimer := none
            jam := some { r with lost := some (r.inDoubt - r.purged) }
            meters := { st.meters with
              lost := meterAdd st.meters.lost (r.inDoubt - r.purged)
              purged := meterAdd st.meters.purged r.purged } }

/-- What R29 does to the station itself: an OPEN jam record closes if it leaves JAMMED or RECOVER, and
both idle timers stop. -/
def Station.leaveService (st : Station) : Station :=
  (if st.state = .jammed ∨ st.state = .recover then st.closeJam else st).stopIdle

/-- Station `i` enters OFFLINE (R29). -/
def State.enterOffline (s : State) (i : StationId) : State :=
  (s.modStation i Station.leaveService).enterState i .offline

end Sys2Proof.Machine
end

