-- ==== Sys2Proof/Machine/Accounts.lean ====
section
/-! DEFINITION. The account store (R124 to R143): the table and its directory, the tested read, the
requests of the session engine, periods and the period alarm (R144 to R146). -/

namespace Sys2Proof.Machine

/-! ### The table: slots by rising number, FREE slots unlisted (R124) -/

/-- The slot of number `n`; none where it is FREE. -/
def getSlot (n : Nat) : List (Nat × Slot) → Option Slot
  | [] => none
  | (m, x) :: rest => if m = n then some x else getSlot n rest

/-- The table with slot `n` written. -/
def putSlot (n : Nat) (x : Slot) : List (Nat × Slot) → List (Nat × Slot)
  | [] => [(n, x)]
  | (m, y) :: rest =>
      if n < m then (n, x) :: (m, y) :: rest
      else if n = m then (n, x) :: rest
      else (m, y) :: putSlot n x rest

/-- The table with slot `n` FREE. -/
def freeSlot (n : Nat) : List (Nat × Slot) → List (Nat × Slot)
  | [] => []
  | (m, y) :: rest => if n = m then rest else (m, y) :: freeSlot n rest

/-- The directory (R125): the slot that holds an identity. -/
def findIdentity (identity : Nat) : List (Nat × Slot) → Option Nat
  | [] => none
  | (m, x) :: rest => if x.identity = identity then some m else findIdentity identity rest

/-- The canonical form of the table: slot numbers below 4,096 and strictly rising. -/
def slotsWf (slots : List (Nat × Slot)) : Bool :=
  decide ((slots.map Prod.fst).Pairwise (· < ·)) && slots.all fun p => decide (p.1 < Config.slotCount)

/-- Slot `n` of the part. -/
def State.slot (s : State) (n : Nat) : Option Slot := getSlot n s.slots

/-- A write of a slot's content with a fresh check code over it (R128, R132). -/
def State.writeAccount (s : State) (n : Nat) (a : Account) : State :=
  match s.slot n with
  | none => s
  | some x => { s with slots := putSlot n { x with account := a, damage := .sound } s.slots }

/-! ### Figures (R126, R127) -/

/-- Effective spent (R126): the stored spent when its period is the current one, 0 otherwise. -/
def Figures.effectiveSpent (f : Figures) (period : Nat) : Nat :=
  match f with
  | .prepaid _ => 0
  | .department _ spent p => if p = period then spent else 0

/-- The available credit of an account in cents (R126). -/
def Account.credit (a : Account) (period : Nat) : Nat :=
  match a.figures with
  | .prepaid balance => balance - a.held
  | .department limit _ _ => limit - a.figures.effectiveSpent period - a.held

/-- The alignment of a DEPARTMENT slot before a write (R127). -/
def Account.align (a : Account) (period : Nat) : Account :=
  match a.figures with
  | .prepaid _ => a
  | .department limit _ p =>
      if p = period then a else { a with figures := .department limit 0 period }

/-- What a grant writes (R56, R128). -/
def Account.grant (a : Account) (period hold stamp : Nat) : Account :=
  let a := a.align period
  { a with held := a.held + hold, openCount := a.openCount + 1, lastUse := stamp }

/-- What an extend writes (R65, R128). -/
def Account.extend (a : Account) (period extension stamp : Nat) : Account :=
  let a := a.align period
  { a with held := a.held + extension, lastUse := stamp }

/-- What a settlement writes (R71). -/
def Account.charge (a : Account) (period hold cents stamp : Nat) : Account :=
  let a := a.align period
  { a with
    figures := match a.figures with
      | .prepaid balance => .prepaid (balance - cents)
      | .department limit spent p => .department limit (spent + cents) p
    held := a.held - hold
    openCount := a.openCount - 1
    lastUse := stamp }

/-! ### The tested read (R129, R130) -/

/-- What a read of a slot finds: FREE, SUSPECT (already, or by this read), or content to use. -/
inductive SlotRead where
  | free
  | suspect (x : Slot)
  | content (x : Slot)
  deriving DecidableEq, Repr

/-- What a read of a slot would do to the memory notices: correct, correctable, uncorrectable, or no test
(R129). -/
def State.readCondition (s : State) (n : Nat) : Option Damage :=
  match s.slot n with
  | none => none
  | some x => if x.suspect then none else some x.damage

/-- A read of slot `n` that tests its check code (R129): a correctable one is written back with a fresh
code and noted; an uncorrectable one makes the slot SUSPECT (R130). FREE and SUSPECT slots are not
tested. -/
def State.testedRead (s : State) (n : Nat) : State × SlotRead :=
  match s.slot n with
  | none => (s, .free)
  | some x =>
      if x.suspect then (s, .suspect x)
      else
        match x.damage with
        | .sound => (s, .content x)
        | .correctable =>
            let y := { x with damage := .sound }
            (({ s with slots := putSlot n y s.slots, lastCorrected := some n }).post .memoryCorrected 0,
              .content y)
        | .uncorrectable =>
            let y := { x with suspect := true }
            (({ s with slots := putSlot n y s.slots, lastFault := some n }).post .memoryFault 0,
              .suspect y)

/-! ### Sessions bound to a slot (R126) -/

/-- The session is bound to slot `n`. -/
def Session.boundTo (x : Session) (n : Nat) : Bool := decide (x.payment = .campus n)

/-- The sessions bound to slot `n`, counted from the session table (R134). -/
def State.bound (s : State) (n : Nat) : List Session :=
  (s.sessions.map Prod.snd).filter fun x => x.boundTo n

/-- The sum of the holds of the sessions bound to slot `n` (R135). -/
def State.boundHold (s : State) (n : Nat) : Nat := ((s.bound n).map Session.hold).sum

/-! ### The account step of a settlement (R71) -/

/-- The account step of the settlement of session `x` charging `cents` (R71): the part after it, and
whether the session is PARKED. BANK and COUNTER sessions have no account step. -/
def State.accountStep (s : State) (x : Session) (cents : Nat) : State × Bool :=
  match x.payment with
  | .campus n =>
      match s.testedRead n with
      | (s, .content y) =>
          (s.writeAccount n (y.account.charge s.period x.hold cents s.stamp), false)
      | (s, _) => (s, true)
  | _ => (s, false)

/-! ### Periods (R144 to R146) -/

/-- One turn of the period (R144). -/
def State.turnPeriod (s : State) : State :=
  ({ s with period := wrapInc Config.wrap16 s.period }).post .periodTurned 0

/-- The period alarm is due: present, and reached by the stamp (R146). -/
def State.alarmDue (s : State) : Bool :=
  match s.alarm with
  | none => false
  | some a => decide (a ≤ s.stamp)

/-- The test of the period alarm (R146): a due alarm becomes absent and the period turns once. -/
def State.testAlarm (s : State) : State :=
  if s.alarmDue then ({ s with alarm := none }).turnPeriod else s

/-- One visit of the scrub (R131): the slot at the position is read and tested, the position rises. -/
def State.visit (s : State) : State :=
  let s := (s.testedRead s.scrubPosition).1
  { s with scrubPosition := wrapInc Config.slotCount s.scrubPosition }

end Sys2Proof.Machine
end

