-- ==== Sys2Proof/Machine/Journal.lean ====
section
/-! DEFINITION. The billing journal (R149 to R161): free count, reservations, the writing of records. -/

namespace Sys2Proof.Machine

/-- The free count (R160). -/
def State.freeRecords (s : State) : Nat :=
  Config.journalCapacity - s.journal.length - s.reservations

/-- JOURNAL-LOW is posted where an event brings the free count from 33 down to 32 (R160): `before` is the
part before the change. -/
def State.journalLowFrom (s : State) (before : State) : State :=
  if before.freeRecords = Config.journalLow + 1 ∧ s.freeRecords = Config.journalLow
  then s.post .journalLow 0 else s

/-- The journal guard passes (R154). -/
def State.guardPasses (s : State) : Bool :=
  decide (s.journal.length + s.reservations ≤ Config.journalGuard)

/-- A session takes a reservation (R153). -/
def State.reserve (s : State) : State :=
  ({ s with reservations := s.reservations + 1 }).journalLowFrom s

/-- A reservation is given up with no record written (R153, R58). -/
def State.unreserve (s : State) : State := { s with reservations := s.reservations - 1 }

/-- The payment field of the SETTLE record of a session (R151): for CAMPUS the slot and the identity the
directory holds for it. -/
def Payment.paidBy (p : Payment) (identity : Nat) : PaidBy :=
  match p with
  | .campus n => .campus n identity
  | .bank r _ => .bank r
  | .counter r => .counter r

/-- The SETTLE record of session `x` of station `i` (R151), with a fresh serial. -/
def settleRecord (serial closed identityHeld : Nat) (i : StationId) (x : Session) (cents : Nat)
    (reason : CloseReason) : SettleRecord where
  serial := serial
  opened := x.opened
  closed := closed
  station := stationNumber i
  sessionSerial := x.serial
  paidBy := x.payment.paidBy identityHeld
  hold := x.hold
  charged := cents
  covered := x.covered
  uncovered := x.uncovered
  uncoveredValue := x.uncoveredValue
  unpermitted := x.unpermitted
  jammed := x.jammed
  extendCount := x.extendCount
  reason := reason
  clamped := x.clamped
  forced := x.forced
  parked := x.parked

/-- A SETTLE record joins the newest end of the queue in place of its session's reservation (R155). -/
def State.writeSettle (s : State) (r : Nat → SettleRecord) : State :=
  let serial := wrapInc Config.wrap32 s.recordSerial
  { s with
    recordSerial := serial
    journal := s.journal ++ [Record.settle (r serial)]
    reservations := s.reservations - 1 }

/-- The coalescing update of a RESTART record (R156). -/
def RestartRecord.coalesce (r : RestartRecord) (stamp : Nat) (cause : RestartCause) (settled : Nat) :
    RestartRecord :=
  { r with
    stamp := stamp
    cause := cause
    repeats := satAdd 255 r.repeats 1
    settled := r.settled + settled }

/-- The queue with its newest record updated by a restart (R156); the newest record of a full journal is
always a RESTART record. -/
def coalesceNewest (stamp : Nat) (cause : RestartCause) (settled : Nat) : List Record → List Record
  | [] => []
  | [.restart r] => [.restart (r.coalesce stamp cause settled)]
  | [.settle r] => [.settle r]
  | r :: rest => r :: coalesceNewest stamp cause settled rest

/-- The RESTART record of a restart (R156): written at the newest end below 512 records, coalesced at
512. -/
def State.writeRestart (s : State) (cause : RestartCause) (settled : Nat) : State :=
  if s.journal.length < Config.journalCapacity then
    let serial := wrapInc Config.wrap32 s.recordSerial
    let t := { s with
      recordSerial := serial
      journal := s.journal ++ [Record.restart
        { serial := serial, stamp := s.stamp, cause := cause, repeats := 1, settled := settled }] }
    t.journalLowFrom s
  else { s with journal := coalesceNewest s.stamp cause settled s.journal }

/-- The serial of a record (R150). -/
def Record.serial : Record → Nat
  | .settle r => r.serial
  | .restart r => r.serial

end Sys2Proof.Machine
end

