-- ==== Sys2Proof/Machine/Pricing.lean ====
section
/-! DEFINITION. The pricing unit and the arithmetic of a session's charge (R75 to R91): plans, prices,
tiers, ceilings, bases, thresholds. -/

namespace Sys2Proof.Machine

/-! ### Plans (R75, R76) -/

/-- The threshold at which tier `i` begins, 1 to 3; 0 where it is absent (R75). -/
def Plan.threshold (p : Plan) : Nat → Nat
  | 1 => p.thresholds[0]
  | 2 => p.thresholds[1]
  | 3 => p.thresholds[2]
  | _ => 0

/-- A plan is valid (R76): its thresholds form an ascending prefix, and the discounts of the tiers in use
do not fall. -/
def Plan.valid (p : Plan) : Bool :=
  let t1 := p.thresholds[0]
  let t2 := p.thresholds[1]
  let t3 := p.thresholds[2]
  let d0 := p.discounts[0]
  let d1 := p.discounts[1]
  let d2 := p.discounts[2]
  let d3 := p.discounts[3]
  (decide (t1 ≠ 0) || (decide (t2 = 0) && decide (t3 = 0))) &&
  (decide (t2 ≠ 0) || decide (t3 = 0)) &&
  (decide (t2 = 0) || decide (t1 < t2)) &&
  (decide (t3 = 0) || decide (t2 < t3)) &&
  (decide (t1 = 0) || decide (d0 ≤ d1)) &&
  (decide (t2 = 0) || decide (d1 ≤ d2)) &&
  (decide (t3 = 0) || decide (d2 ≤ d3))

/-- The 15 fields of a plan in the order of R75. -/
def Plan.fields (p : Plan) : List Nat :=
  p.base.toList ++ p.thresholds.toList ++ p.discounts.toList

/-- The plan with the given 15 fields in the order of R75. -/
def Plan.ofFields (f : List Nat) : Plan where
  base := #v[f.getD 0 0, f.getD 1 0, f.getD 2 0, f.getD 3 0, f.getD 4 0, f.getD 5 0, f.getD 6 0, f.getD 7 0]
  thresholds := #v[f.getD 8 0, f.getD 9 0, f.getD 10 0]
  discounts := #v[f.getD 11 0, f.getD 12 0, f.getD 13 0, f.getD 14 0]

/-- The fields from number `k` on, each replaced by the next carried value where the mask names it
(R78). -/
def amendFields (mask : BitVec 16) : Nat → List Nat → List Nat → List Nat
  | _, [], _ => []
  | k, old :: rest, values =>
      if mask.getLsbD k then
        match values with
        | v :: more => v :: amendFields mask (k + 1) rest more
        | [] => old :: amendFields mask (k + 1) rest []
      else old :: amendFields mask (k + 1) rest values

/-- The amended plan of R78. -/
def Plan.amend (p : Plan) (mask : BitVec 16) (values : List Nat) : Plan :=
  .ofFields (amendFields mask 0 p.fields values)

/-! ### Prices (R83, R84) -/

/-- The price before clamping (R83), in tenths, for base price `b`, rate `r`, discount `d`. -/
def rawPrice (b r d : Nat) : Nat := (b * r * (1000 - d) + 50000) / 100000

/-- The price of one sheet (R84): at most 65,535 tenths. -/
def price (b r d : Nat) : Nat := min 65535 (rawPrice b r d)

/-- The price was clamped (R84). -/
def clamps (b r d : Nat) : Bool := decide (65535 < rawPrice b r d)

/-- The price of a sheet of kind `k` on a plan at a rate and tier. -/
def Plan.priceAt (p : Plan) (rate : Nat) (tier : Fin 4) (k : Kind) : Nat :=
  price p.base[k.val] rate p.discounts[tier.val]

/-- That price was clamped. -/
def Plan.clampsAt (p : Plan) (rate : Nat) (tier : Fin 4) (k : Kind) : Bool :=
  clamps p.base[k.val] rate p.discounts[tier.val]

/-- All sheet kinds. -/
def allKinds : List Kind := [0, 1, 2, 3, 4, 5, 6, 7]

/-- The ceiling of a plan at a rate and tier (R85): the largest of the 8 prices. -/
def Plan.ceilingAt (p : Plan) (rate : Nat) (tier : Fin 4) : Nat :=
  allKinds.foldl (fun m k => max m (p.priceAt rate tier k)) 0

/-- The tier that a covered count `n` reaches on a plan (R82): the highest i from 1 to 3 whose threshold
is present and at most n, 0 where there is none. -/
def Plan.tierFor (p : Plan) (n : Nat) : Fin 4 :=
  if p.threshold 3 ≠ 0 ∧ p.threshold 3 ≤ n then 3
  else if p.threshold 2 ≠ 0 ∧ p.threshold 2 ≤ n then 2
  else if p.threshold 1 ≠ 0 ∧ p.threshold 1 ≤ n then 1
  else 0

/-! ### A session's measures (R82, R86, R92) -/

/-- The entry is COVERED. -/
def Sheet.isCovered (e : Sheet) : Bool :=
  match e.coverage with
  | .covered _ => true
  | _ => false

/-- The price of a COVERED entry, 0 for the others. -/
def Sheet.coveredPrice (e : Sheet) : Nat :=
  match e.coverage with
  | .covered p => p
  | _ => 0

/-- The entry carries session serial `serial`. -/
def Sheet.carries (e : Sheet) (serial : Nat) : Bool := decide (e.serial = some serial)

/-- The covered count n of a session whose station has in-path list `path` (R82). -/
def Session.coveredCount (x : Session) (path : List Sheet) : Nat :=
  min 65535 (x.covered.toList.sum + path.countP fun e => e.isCovered && e.carries x.serial)

/-- The available credit in tenths (R86). -/
def Session.available (x : Session) : Nat := 10 * x.hold - x.charged - x.pending

/-- The basis of the pause threshold (R86). -/
def Session.basis (x : Session) (profile : Profile) : Nat :=
  match profile.basis, x.lastKind with
  | .last, some k => x.plan.priceAt x.rate x.tier k
  | _, _ => x.ceiling

/-- The pause threshold (R86). -/
def Session.threshold (x : Session) (profile : Profile) : Nat :=
  (profile.allowance + 1) * x.basis profile

/-- The pause condition (R92). -/
def Session.pauseCondition (x : Session) (profile : Profile) : Bool :=
  decide (0 < x.basis profile ∧ x.available < x.threshold profile)

/-- The tier index brought up to date, and the ceiling with it where it changed (R82, R85). -/
def Session.retier (x : Session) (path : List Sheet) : Session :=
  let tier := x.plan.tierFor (x.coveredCount path)
  if tier = x.tier then x
  else { x with tier := tier, ceiling := x.plan.ceilingAt x.rate tier }

/-- The charge of a session in cents at its settlement (R70). -/
def Session.chargeCents (x : Session) : Nat := (x.charged + 5) / 10

end Sys2Proof.Machine
end

