-- ==== Sys2Proof/Machine/Sessions.lean ====
section
/-! DEFINITION. The life of a session: the pause (R92 to R106), creation (R52), the end without a record
(R58), close requests (R67), settlement (R70 to R72), and the quiet test (R42 to R44). -/

namespace Sys2Proof.Machine

/-! ### The pause (R93 to R102) -/

/-- A session enters HOLDING from ACTIVE (R95): PAUSE follows by R25, the pause-ack timer starts, PAUSED
is posted, and the reader is sent PAUSED with the available credit in whole cents (R96). -/
def State.enterHolding (s : State) (i : StationId) (x : Session) : State :=
  let s := s.modStation i fun st =>
    { st with
      session := some { x with phase := .holding }
      pauseTimer := some (s.now + 1000 * st.profile.pauseAck) }
  (s.postAt .paused i).indicate i (.paused (x.available / 10))

/-- The pause is lifted (R102): ACTIVE, FORCED clear, the pause-ack timer stopped. A lift by a feed or a
jam sends ACCEPT with the hold; a lift by an extend sends no second one. -/
def State.liftPause (s : State) (i : StationId) (x : Session) (byExtend : Bool) : State :=
  let s := s.modStation i fun st =>
    { st with session := some { x with phase := .active, forced := false }, pauseTimer := none }
  if byExtend then s else s.indicate i (.accept x.hold)

/-- An evaluation of the pause condition at an evaluation point (R93, R94). After an extend that leaves
the session HOLDING or HELD, PAUSED is sent with the new available credit (R103). -/
def State.evaluatePause (s : State) (i : StationId) (byExtend : Bool) : State :=
  match (s.station i).session with
  | none => s
  | some x =>
      if x.copying then
        if x.pauseCondition (s.station i).profile then
          if x.phase = .active then s.enterHolding i x
          else if byExtend then s.indicate i (.paused (x.available / 10)) else s
        else if x.phase = .active then s
        else s.liftPause i x byExtend
      else s

/-! ### Creation (R52) -/

/-- The record of a new session (R52), with the price snapshot of plan `plan` at `rate` (R81) and the
ceiling of tier 0 (R85). -/
def newSession (serial : Nat) (payment : Payment) (hold : Nat) (plan : Plan) (rate : Nat) (phase : Phase)
    (opened : Nat) : Session where
  serial := serial
  payment := payment
  hold := hold
  charged := 0
  pending := 0
  tier := 0
  ceiling := plan.ceilingAt rate 0
  lastKind := none
  plan := plan
  rate := rate
  fed := 0
  covered := #v[0, 0, 0, 0, 0, 0, 0, 0]
  uncovered := 0
  unpermitted := 0
  jammed := 0
  uncoveredValue := 0
  extendCount := 0
  phase := phase
  suspended := false
  clamped := false
  forced := false
  parked := false
  opened := opened
  stopPending := false

/-- The plan of number `n`; the numbers of profiles are 0 to 7 (R35). -/
def State.plan (s : State) (n : Nat) : Plan := s.plans.toList.getD n .default

/-- A session is created at station `i` (R52): next serial, a reservation, the snapshot, both idle timers
reloaded with the session pair. -/
def State.createSession (s : State) (i : StationId) (payment : Payment) (hold rate : Nat) (phase : Phase) :
    State :=
  let serial := wrapInc Config.wrap32 s.sessionSerial
  let x := newSession serial payment hold (s.plan (s.station i).profile.plan) rate phase s.stamp
  let s := { s with sessionSerial := serial }.reserve
  (s.setSession i (some x)).reloadBoth i

/-! ### The end without a record (R58) -/

/-- The session of station `i` ends without a record (R58): the authorization timer stops, the reservation
is given up, the table entry becomes NONE. -/
def State.endWithoutRecord (s : State) (i : StationId) : State :=
  s.unreserve.modStation i fun st => { st with session := none, authTimer := none }

/-! ### Settlement (R70 to R72) -/

/-- The identity that the directory holds for a CAMPUS session's slot (R151). -/
def State.identityOf (s : State) (x : Session) : Nat :=
  match x.payment with
  | .campus n => match s.slot n with
      | some y => y.identity
      | none => 0
  | _ => 0

/-- The settlement of session `x` of station `i` with its close reason (R70 to R72): the account step, the
SETTLE record, CLOSED with the charge to the reader, SESSION-CLOSED, the table entry NONE. -/
def State.settle (s : State) (i : StationId) (x : Session) (reason : CloseReason) : State :=
  let cents := x.chargeCents
  let step := s.accountStep x cents
  let s := step.1
  let x := { x with parked := x.parked || step.2 }
  let s := s.writeSettle fun serial => settleRecord serial s.stamp (s.identityOf x) i x cents reason
  let s := (s.indicate i (.closed cents)).postAt .sessionClosed i
  s.setSession i none

/-- A settlement in RUNNING service with its station step (R72): a stop-pending session sends the station
OFFLINE, otherwise both idle timers are reloaded with the idle pair. -/
def State.settleInService (s : State) (i : StationId) (x : Session) (reason : CloseReason) : State :=
  let s := s.settle i x reason
  if x.stopPending then s.enterOffline i else s.reloadBoth i

/-- A close request with a reason (R67): an ACTIVE, HOLDING or HELD session enters CLOSING, the pause-ack
timer stops, and with an empty path it is settled in the same event. -/
def State.closeRequest (s : State) (i : StationId) (reason : CloseReason) : State :=
  match (s.station i).session with
  | none => s
  | some x =>
      if x.copying then
        let x := { x with phase := .closing reason }
        let s := s.modStation i fun st => { st with session := some x, pauseTimer := none }
        if (s.station i).path = [] then s.settleInService i x reason else s
      else s

/-! ### The quiet test (R42 to R44) -/

/-- The quiet test at station `i` (R42): a quiet READY station with an empty path closes its session as
abandoned (R43) or, with none, enters SAVE (R44). -/
def State.quietTest (s : State) (i : StationId) : State :=
  let st := s.station i
  if st.quiet ∧ st.state = .ready ∧ st.path = [] then
    match st.session with
    | none => s.enterState i .save
    | some x => if x.copying then s.closeRequest i .walkAway else s
  else s

/-- The quiet test at the end of an event in which station `i` entered READY (R42); `before` is its state
when the event began. -/
def State.endEvent (s : State) (i : StationId) (before : StationState) : State :=
  if before ≠ .ready ∧ (s.station i).state = .ready then s.quietTest i else s

/-- The empty-path report (R14): the station controller makes the quiet test, and the session engine
settles a CLOSING session (R68). -/
def State.emptyPathReport (s : State) (i : StationId) : State :=
  let s := s.quietTest i
  match (s.station i).session with
  | none => s
  | some x =>
      if x.suspended then s
      else
        match x.phase.closeReason with
        | some reason => s.settleInService i x reason
        | none => s

end Sys2Proof.Machine
end

