-- ==== Sys2Proof/Machine/Jams.lean ====
section
/-! DEFINITION. Jams (R107 to R122): the record, the hand-over of the path (R18, R112), declarations
(R111), folds (R114), OFFLINE jams (R30), the exit test (R34), RECOVER and its end (R117, R118). -/

namespace Sys2Proof.Machine

/-- A record newly opened (R111, step 1). -/
def JamRecord.opened (serial : Nat) (cause : JamCause) (stamp : Nat) : JamRecord where
  serial := serial
  cause := cause
  stamp := stamp
  inDoubt := 0
  listed := []
  purged := 0
  repeats := 0
  lost := none

/-- Station `i` opens a record with the next jam serial (R109); it replaces the last one. -/
def State.openJam (s : State) (i : StationId) (cause : JamCause) : State :=
  s.modStation i fun st =>
    let serial := wrapInc Config.wrap16 st.jamSerial
    { st with jamSerial := serial, jam := some (.opened serial cause s.stamp) }

/-- The fields an in-doubt entry copies from an in-path entry (R110). -/
def Sheet.inDoubt (e : Sheet) : DoubtSheet where
  number := e.number
  kind := e.kind
  coverage := e.coverage
  serial := e.serial

/-- A sheet enters a jam record (R110): the in-doubt count rises, and the sheet is listed while fewer than
16 are and none with its number. -/
def JamRecord.absorb (r : JamRecord) (e : Sheet) : JamRecord :=
  { r with
    inDoubt := satAdd Config.top32 r.inDoubt 1
    listed :=
      if r.listed.length < Config.doubtCapacity ∧ ¬ (r.listed.any fun d => decide (d.number = e.number))
      then r.listed ++ [e.inDoubt] else r.listed }

/-- What the hand-over of a path does to the session (R112): each entry that carries its serial counts as
jammed, and the price of each COVERED one leaves pending. -/
def Session.release (x : Session) (path : List Sheet) : Session :=
  let mine := path.filter fun e => e.carries x.serial
  { x with
    jammed := satAdd Config.top32 x.jammed mine.length
    pending := x.pending - (mine.map Sheet.coveredPrice).sum }

/-- What the hand-over does at the station and in the session (R18, R112): the sheets enter the record, the
jammed meter rises, the list is emptied (which stops the transit timer), the session releases its sheets and
its tier and ceiling are brought up to date. -/
def Station.handOver (st : Station) : Station :=
  { st with
    jam := st.jam.map fun r => st.path.foldl JamRecord.absorb r
    meters := { st.meters with jammed := meterAdd st.meters.jammed st.path.length }
    session := st.session.map fun x => (x.release st.path).retier []
    path := [] }

/-- The hand-over of the path in RUNNING service, followed by the pause evaluation (R112) where sheets were
handed over (log 24). -/
def State.handOver (s : State) (i : StationId) : State :=
  let t := s.modStation i Station.handOver
  if (s.station i).path = [] then t else t.evaluatePause i false

/-- RECOVER ends (R118): the record closes, READY is entered with RECOVERED posted, both idle timers are
reloaded. The quiet test follows at the end of the event. -/
def State.endRecover (s : State) (i : StationId) : State :=
  ((s.modStation i Station.closeJam).enterState i .ready).reloadBoth i

/-- The open record has no purge outstanding (R117). -/
def Station.purgeComplete (st : Station) : Bool :=
  match st.jam with
  | none => true
  | some r => decide (r.inDoubt ≤ r.purged)

/-- Station `i` enters RECOVER (R116, R117): the purge window starts; a purge that is already complete ends
RECOVER in the same event. -/
def State.enterRecover (s : State) (i : StationId) : State :=
  let s := s.enterState i .recover
  let s := s.modStation i fun st => { st with purgeTimer := some (s.now + 1000 * st.profile.purgeWindow) }
  if (s.station i).purgeComplete then s.endRecover i else s

/-- The exit test (R34): a JAMMED station with JAM recognized deasserted and READY recognized asserted
enters RECOVER. -/
def State.exitTest (s : State) (i : StationId) : State :=
  let st := s.station i
  if st.state = .jammed ∧ st.lines.jam.level = false ∧ st.lines.ready.level = true
  then s.enterRecover i else s

/-- The empty-path report after a hand-over that emptied the list of `before` (R18, R14). -/
def State.reportIfEmptied (s : State) (i : StationId) (before : List Sheet) : State :=
  if before = [] then s else s.emptyPathReport i

/-- A jam at a READY, SAVE or NOT-READY station (R111). -/
def State.declareNew (s : State) (i : StationId) (cause : JamCause) : State :=
  let before := (s.station i).path
  let s := (s.openJam i cause).handOver i
  ((s.enterState i .jammed).exitTest i).reportIfEmptied i before

/-- A jam at a JAMMED or RECOVER station folds into the open record (R114). -/
def State.foldJam (s : State) (i : StationId) : State :=
  let before := (s.station i).path
  let s := s.handOver i
  let s := s.modStation i fun st =>
    { st with
      jam := st.jam.map fun r => { r with repeats := satAdd 255 r.repeats 1 }
      purgeTimer := none }
  ((s.enterState i .jammed).exitTest i).reportIfEmptied i before

/-- A jam at an OFFLINE station is written off at once (R30): a record opened and closed with every sheet
handed over lost, JAM posted, no change of state. -/
def State.offlineJam (s : State) (i : StationId) (cause : JamCause) : State :=
  let before := (s.station i).path
  let s := (s.openJam i cause).handOver i
  ((s.modStation i Station.closeJam).postAt .jam i).reportIfEmptied i before

/-- A jam is declared at station `i` (R33). -/
def State.declareJam (s : State) (i : StationId) (cause : JamCause) : State :=
  match (s.station i).state with
  | .offline => s.offlineJam i cause
  | .jammed => s.foldJam i
  | .recover => s.foldJam i
  | .notReady => s.declareNew i cause
  | .ready => s.declareNew i cause
  | .save => s.declareNew i cause

/-- The write-off of a station's path at a restart (R121, R183): an OPEN record closes as the station
enters OFFLINE; a path that holds entries goes into a record of cause RESTART, closed at once. -/
def State.writeOff (s : State) (i : StationId) : State :=
  let s :=
    if (s.station i).state = .jammed ∨ (s.station i).state = .recover then s.enterOffline i else s
  if (s.station i).path = [] then s
  else ((s.openJam i .restart).modStation i Station.handOver).modStation i Station.closeJam

/-- An OFFLINE station is started (R27): READY or NOT-READY by the READY level, both idle timers reloaded;
with JAM asserted a jam of cause LINE is declared at once; the quiet test ends the event. -/
def State.startStation (s : State) (i : StationId) : State :=
  let lines := (s.station i).lines
  let s := (s.enterState i (if lines.ready.level then .ready else .notReady)).reloadBoth i
  let s := if lines.jam.level then s.declareJam i .line else s
  s.endEvent i .offline

end Sys2Proof.Machine
end

