-- ==== Sys2Proof/Machine/Tracker.lean ====
section
/-! DEFINITION. The sheet tracker (R6 to R16): feeds with their coverage (R87, R88), deliveries (R11 to R13,
R89), purges (R117) and the transit expiry (R16). -/

namespace Sys2Proof.Machine

/-- The kind of a sheet fed now (R6): colour × 4 + large × 2 + duplex of the recognized levels. -/
def Lines.kind (l : Lines) : Kind :=
  match l.colour.level, l.large.level, l.duplex.level with
  | false, false, false => 0
  | false, false, true => 1
  | false, true, false => 2
  | false, true, true => 3
  | true, false, false => 4
  | true, false, true => 5
  | true, true, false => 6
  | true, true, true => 7

/-- An entry joins the newest end of the in-path list of station `i`, fed at the present instant (R8). -/
def State.joinPath (s : State) (i : StationId) (number : Nat) (kind : Kind) (coverage : Coverage)
    (serial : Option Nat) : State :=
  s.modStation i fun st =>
    { st with path := st.path ++ [⟨number, kind, s.now, coverage, serial⟩] }

/-- The coverage of a fed sheet and what the feed does to the session (R87, R88, R73). -/
def State.coverSheet (s : State) (i : StationId) (number : Nat) (kind : Kind) : State :=
  match (s.station i).session with
  | none => s.joinPath i number kind .unpermitted none
  | some x =>
      let permitted := s.permit i
      let x := { x with fed := satAdd Config.top32 x.fed 1 }
      if permitted then
        let p := x.plan.priceAt x.rate x.tier kind
        let x := { x with clamped := x.clamped || x.plan.clampsAt x.rate x.tier kind }
        if p ≤ x.available then
          let s := s.joinPath i number kind (.covered p) (some x.serial)
          let x := { x with pending := x.pending + p, lastKind := some kind }
          (s.setSession i (some (x.retier (s.station i).path))).evaluatePause i false
        else (s.joinPath i number kind (.uncovered p) (some x.serial)).setSession i (some x)
      else (s.joinPath i number kind .unpermitted (some x.serial)).setSession i (some x)

/-- A feed at station `i` after its activity (R8): the sheet is numbered, kinded and covered; with 8 entries
already in the path it is an overrun (R10). A COVERED feed that overruns evaluates the pause at the feed, where PAUSED
may carry the credit before the release, and again after the hand-over (R88, R93, R96; log 44). -/
def State.feedSheet (s : State) (i : StationId) : State :=
  let st := s.station i
  let number := wrapInc Config.wrap16 st.lastSheet
  let t := s.modStation i fun st => { st with lastSheet := number }
  let t := t.coverSheet i number st.lines.kind
  if st.path.length < Config.pathCapacity then t else t.declareJam i .overrun

/-- The meters after the delivery of an entry (R11). -/
def Meters.deliver (m : Meters) (e : Sheet) : Meters :=
  let m := { m with delivered := m.delivered.set e.kind.val (meterAdd m.delivered[e.kind.val] 1) }
  match e.coverage with
  | .covered _ => m
  | .uncovered _ => { m with uncovered := meterAdd m.uncovered 1 }
  | .unpermitted => { m with unpermitted := meterAdd m.unpermitted 1 }

/-- The session after the delivery of an entry that carries its serial (R89). -/
def Session.deliver (x : Session) (e : Sheet) : Session :=
  match e.coverage with
  | .covered p =>
      { x with
        pending := x.pending - p
        charged := x.charged + p
        covered := x.covered.set e.kind.val (satAdd Config.top32 x.covered[e.kind.val] 1) }
  | .uncovered p =>
      { x with
        uncovered := satAdd Config.top32 x.uncovered 1
        uncoveredValue := satAdd Config.top32 x.uncoveredValue p }
  | .unpermitted => { x with unpermitted := satAdd Config.top32 x.unpermitted 1 }

/-- The report of a popped entry to the session engine (R12), with the pause evaluation of R93. -/
def State.reportDelivery (s : State) (i : StationId) (e : Sheet) : State :=
  match (s.station i).session with
  | none => s
  | some x =>
      if e.carries x.serial then (s.setSession i (some (x.deliver e))).evaluatePause i false else s

/-- The transit timer of a station has reached its limit (R15). -/
def State.transitDue (s : State) (i : StationId) : Bool :=
  match (s.station i).transitExpiry with
  | none => false
  | some t => decide (t ≤ s.now)

/-- A delivery with a non-empty path (R11): pop, meters, report, and the empty-path report or the re-aimed
transit timer, which expires at once if the new oldest entry's age has reached the limit (R15; log 25). -/
def State.popSheet (s : State) (i : StationId) (e : Sheet) (rest : List Sheet) : State :=
  let s := s.modStation i fun st => { st with path := rest, meters := st.meters.deliver e }
  let s := s.reportDelivery i e
  if rest = [] then s.emptyPathReport i
  else if s.transitDue i then s.declareJam i .transit
  else s

/-- A delivery with an empty path (R13, R117): a purge in RECOVER with purges outstanding, an orphan
otherwise. -/
def State.strayDelivery (s : State) (i : StationId) : State :=
  let st := s.station i
  if st.state = .recover ∧ st.purgeComplete = false then
    let s := s.modStation i fun st => { st with jam := st.jam.map fun r => { r with purged := r.purged + 1 } }
    if (s.station i).purgeComplete then s.endRecover i else s
  else
    s.modStation i fun st =>
      { st with meters := { st.meters with orphan := meterAdd st.meters.orphan 1 } }

/-- A delivery at station `i` after its activity (R11, R13). -/
def State.deliverSheet (s : State) (i : StationId) : State :=
  match (s.station i).path with
  | e :: rest => s.popSheet i e rest
  | [] => s.strayDelivery i

end Sys2Proof.Machine
end

