-- ==== Sys2Proof/Machine/Lines.lean ====
section
/-! DEFINITION. The station line units (R1 to R5) and the line events (R3, R31 to R34, R98), and the
expiries of the station's timers (R16, R39, R59, R99, R118). -/

namespace Sys2Proof.Machine

/-! ### Lines -/

/-- One line of the eight. -/
def Lines.get (l : Lines) : Line → LineState
  | .feed => l.feed
  | .deliver => l.deliver
  | .colour => l.colour
  | .large => l.large
  | .duplex => l.duplex
  | .jam => l.jam
  | .ready => l.ready
  | .stopped => l.stopped

/-- The lines with one of them as given. -/
def Lines.set (l : Lines) (n : Line) (v : LineState) : Lines :=
  match n with
  | .feed => { l with feed := v }
  | .deliver => { l with deliver := v }
  | .colour => { l with colour := v }
  | .large => { l with large := v }
  | .duplex => { l with duplex := v }
  | .jam => { l with jam := v }
  | .ready => { l with ready := v }
  | .stopped => { l with stopped := v }

/-- The lines, in the order of 01, "Copier input lines". -/
def allLines : List Line := [.feed, .deliver, .colour, .large, .duplex, .jam, .ready, .stopped]

/-- The line uses the pulse filter window; the others use the level window (R2). -/
def linePulse : Line → Bool
  | .jam => false
  | .ready => false
  | .stopped => false
  | _ => true

/-- The line is FEED or DELIVER, whose assertions are counted (R3, R4). -/
def lineCounted : Line → Bool
  | .feed => true
  | .deliver => true
  | _ => false

/-- The filter window of a line in milliseconds (R2). -/
def Profile.window (p : Profile) (n : Line) : Nat :=
  if linePulse n then p.pulseWindow else p.levelWindow

/-- Every line of the station changed by `f`. -/
def Lines.map (l : Lines) (f : Line → LineState → LineState) : Lines :=
  allLines.foldl (fun acc n => acc.set n (f n (acc.get n))) l

/-- One line of station `i` as given. -/
def State.setLine (s : State) (i : StationId) (n : Line) (v : LineState) : State :=
  s.modStation i fun st => { st with lines := st.lines.set n v }

/-- The raw level of a line becomes `level` (R1). In the RUNNING device a level that comes to differ from
the recognized one starts a candidate timing, and one that returns to it abandons the timing, also where the window
has been reached already and the recognition is not yet made (log 42); otherwise no timing is kept (R5). A timing that
starts here is not silent, also on a FEED or DELIVER pin that was asserted at the restart, dipped before its first
window elapsed and is asserted again: its recognition is an ordinary event, which is the model's choice (R4; log 46). -/
def LineState.drive (v : LineState) (watching : Bool) (now : Nat) (level : Bool) : LineState :=
  if !watching then { v with raw := level }
  else if level = v.level then { v with raw := level, timing := none }
  else
    { v with
      raw := level
      timing := match v.timing with
        | some t => some t
        | none => some ⟨now, false⟩ }

/-- A new level is recognized on a line (R1). -/
def LineState.recognize (level : Bool) : LineState where
  raw := level
  level := level
  timing := none

/-- The recognition being timed is to be no event (R4). -/
def LineState.silent (v : LineState) : Bool := v.timing.any Timing.silent

/-- A line starts afresh at the end of a restart (R4): recognized deasserted; an asserted pin starts a
candidate timing, silent on FEED and DELIVER. -/
def LineState.restart (now : Nat) (n : Line) (v : LineState) : LineState where
  raw := v.raw
  level := false
  timing := if v.raw then some ⟨now, lineCounted n⟩ else none

/-- A line at the start of a restart, and after loss of the volatile state: deasserted, no timing (R4). -/
def LineState.clear (v : LineState) : LineState where
  raw := v.raw
  level := false
  timing := none

/-- A candidate timing in progress started afresh (R2). -/
def LineState.restartTiming (now : Nat) (v : LineState) : LineState :=
  { v with timing := v.timing.map fun t => { t with since := now } }

/-! ### Line events (R3) -/

/-- READY falls at a station (R31). -/
def State.readyFell (s : State) (i : StationId) : State :=
  let st := s.station i
  match st.state with
  | .offline => s
  | .notReady => s
  | .jammed => s
  | .save => s.enterState i .notReady
  | .ready => if st.path = [] then s.enterState i .notReady else s.declareJam i .dropout
  | .recover =>
      if st.path = [] then
        (s.modStation i fun st => { st with purgeTimer := none }).enterState i .jammed
      else s.declareJam i .dropout

/-- READY rises at a station (R32). -/
def State.readyRose (s : State) (i : StationId) : State :=
  let s := s.activity i (s.station i).profile.linkReadyRise
  match (s.station i).state with
  | .notReady => s.enterState i .ready
  | _ => s.exitTest i

/-- JAM rises at a station (R33); at an OFFLINE station with an empty path it declares nothing (R30). -/
def State.jamRose (s : State) (i : StationId) : State :=
  if (s.station i).state = .offline ∧ (s.station i).path = [] then s else s.declareJam i .line

/-- STOPPED rises at a station (R98): a HOLDING session enters HELD and the pause-ack timer stops. -/
def State.stoppedRose (s : State) (i : StationId) : State :=
  match (s.station i).session with
  | none => s
  | some x =>
      if x.suspended = false ∧ x.phase = .holding then
        s.modStation i fun st =>
          { st with session := some { x with phase := .held }, pauseTimer := none }
      else s

/-- The event of a recognized change, handed to the block that owns it (R3); the others have none. -/
def State.lineEvent (s : State) (i : StationId) (n : Line) (level : Bool) : State :=
  match n, level with
  | .feed, true => (s.activity i (s.station i).profile.linkFeed).feedSheet i
  | .deliver, true => (s.activity i (s.station i).profile.linkDeliver).deliverSheet i
  | .jam, true => s.jamRose i
  | .jam, false => s.exitTest i
  | .ready, true => s.readyRose i
  | .ready, false => s.readyFell i
  | .stopped, true => s.stoppedRose i
  | _, _ => s

/-- The instant at which a candidate timing elapses (R1). -/
def Station.elapses (st : Station) (n : Line) : Option Nat :=
  (st.lines.get n).timing.map fun t => t.since + st.profile.window n

/-- The recognition of level `level` on a line of station `i` (R1, R3). It stands for the raw level having
held for one whole window (logs 5, 7). It changes nothing where the level is recognized already (log 6), or
where no line unit works (R5). A silent recognition is no event (R4), and no FEED or DELIVER activity either: it
reloads no timer (R3, R40; log 43). The quiet test ends the event (R42). -/
def State.recognize (s : State) (i : StationId) (n : Line) (level : Bool) : State :=
  let st := s.station i
  if s.running = false ∨ (st.lines.get n).level = level then s
  else
    let t := (s.reach ((st.elapses n).getD s.now)).setLine i n (.recognize level)
    if (st.lines.get n).silent then t else (t.lineEvent i n level).endEvent i st.state

/-- The raw level of a line becomes `level`. -/
def State.rawChange (s : State) (i : StationId) (n : Line) (level : Bool) : State :=
  s.setLine i n (((s.station i).lines.get n).drive s.running s.now level)

/-! ### Expiries. Each brings the interval count to the timer's instant (log 5) and does nothing while the
timer is stopped (log 6). -/

/-- The transit timer expires (R16). -/
def State.transitExpires (s : State) (i : StationId) : State :=
  match (s.station i).transitExpiry with
  | none => s
  | some t =>
      if s.running then ((s.reach t).declareJam i .transit).endEvent i (s.station i).state else s

/-- An idle timer expires (R39). -/
def State.idleExpires (s : State) (i : StationId) (timer : TimerId) : State :=
  match (s.station i).timer timer with
  | .running t =>
      if s.running then
        let s := (s.reach t).modStation i fun st => st.setTimer timer .expired
        s.quietTest i
      else s
  | _ => s

/-- The authorization timer expires (R59): the session ends with REFUSE TIMEOUT. -/
def State.authExpires (s : State) (i : StationId) : State :=
  match (s.station i).authTimer, (s.station i).session with
  | some t, some x =>
      if s.running ∧ x.authorizing then
        (((s.reach t).endWithoutRecord i).refuse i .timeout .bank).reloadBoth i
      else s
  | _, _ => s

/-- The pause-ack timer expires (R99): a forced stop. -/
def State.pauseAckExpires (s : State) (i : StationId) : State :=
  match (s.station i).pauseTimer, (s.station i).session with
  | some t, some x =>
      if s.running ∧ x.suspended = false ∧ x.phase = .holding then
        (s.reach t).modStation i fun st =>
          { st with
            session := some { x with phase := .held, forced := true }
            pauseTimer := none
            forcedStops := satAdd 65535 st.forcedStops 1 }
      else s
  | _, _ => s

/-- The purge window expires (R118). -/
def State.purgeExpires (s : State) (i : StationId) : State :=
  match (s.station i).purgeTimer with
  | none => s
  | some t =>
      if s.running ∧ (s.station i).state = .recover then
        ((s.reach t).endRecover i).endEvent i .recover
      else s

/-- The scrub makes a visit (R131), and the next is due one visit later; visits whose instants another command's
expiry has passed over are not made up (log 40). -/
def State.scrub (s : State) : State :=
  if s.running then
    let s := s.reach (s.scrubDue.getD s.now)
    { s with scrubDue := some (s.now + Config.scrubPeriod) }.visit
  else s

end Sys2Proof.Machine
end

