-- ==== Sys2Proof/Machine/Layouts.lean ====
section
/-! DEFINITION. The codes and byte layouts of replies, records and indicator frames (R188 to R191). -/

namespace Sys2Proof.Machine

/-! ### Codes (R188) -/

/-- The statuses of a reply (R165). -/
inductive Status where
  | ok | badFrame | unknownKind | badLength | badValue | badPlan | wrongState | notFound | duplicate
  | accountBusy | range | full | empty | mismatch | tooLate | shutdown
  deriving DecidableEq, Repr

/-- The code of a status (R188). -/
def Status.code : Status → Byte
  | .ok => 0
  | .badFrame => 1
  | .unknownKind => 2
  | .badLength => 3
  | .badValue => 4
  | .badPlan => 5
  | .wrongState => 6
  | .notFound => 7
  | .duplicate => 8
  | .accountBusy => 9
  | .range => 10
  | .full => 11
  | .empty => 12
  | .mismatch => 13
  | .tooLate => 14
  | .shutdown => 15

/-- The code of the device state (R188). -/
def deviceCode : DeviceState → Byte
  | .running => 0
  | .shutdown => 1

/-- The code of a station state (R188). -/
def stationCode : StationState → Byte
  | .offline => 0
  | .notReady => 1
  | .ready => 2
  | .save => 3
  | .jammed => 4
  | .recover => 5

/-- The code of a session state other than NONE and SUSPENDED (R188). -/
def phaseCode : Phase → Byte
  | .authorizing => 1
  | .active => 2
  | .holding => 3
  | .held => 4
  | .closing _ => 5

/-- The code of a coverage (R188). -/
def coverageCode : Coverage → Byte
  | .covered _ => 1
  | .uncovered _ => 2
  | .unpermitted => 3

/-- The code of a close reason (R188). -/
def reasonCode : CloseReason → Byte
  | .customer => 1
  | .walkAway => 2
  | .host => 3
  | .power => 4
  | .reset => 5

/-- The code of a restart cause (R188). -/
def restartCode : RestartCause → Byte
  | .supply => 1
  | .retainLost => 2
  | .pin => 3
  | .command => 4

/-- The code of a jam cause (R188). -/
def jamCode : JamCause → Byte
  | .line => 1
  | .transit => 2
  | .overrun => 3
  | .dropout => 4
  | .restart => 5

/-- The code of a card class (R188). -/
def classCode : CardClass → Byte
  | .none => 0
  | .campus => 1
  | .bank => 2

/-- The code of a refusal reason (R188). -/
def refuseCode : RefuseReason → Byte
  | .unknownCard => 1
  | .blocked => 2
  | .unavailable => 3
  | .lowCredit => 4
  | .busy => 5
  | .outOfService => 6
  | .journalFull => 7
  | .declined => 8
  | .readError => 9
  | .timeout => 10

/-- The code of an idle timer link (R188). -/
def linkCode : TimerId → Byte
  | .a => 0
  | .b => 1

/-- The code of a margin basis (R188). -/
def basisCode : MarginBasis → Byte
  | .worst => 0
  | .last => 1

/-- A boolean (R188). -/
def flag (b : Bool) : Byte := if b then 1 else 0

/-- The flags byte: CLAMPED in bit 0, FORCED in bit 1, PARKED in bit 2 (R188). -/
def flagsByte (clamped forced parked : Bool) : Byte :=
  (if clamped then 1 else 0) + (if forced then 2 else 0) + (if parked then 4 else 0)

/-- An optional field with its presence byte (R188). Every field that may be absent and is not one of those that R188
lists as travelling without a marker is sent through it. -/
def optional {α : Type} (x : Option α) (bytes : α → List Byte) : List Byte :=
  match x with
  | none => [0]
  | some v => 1 :: bytes v

/-! ### Frames to the reader (R189) -/

/-- The bytes of an indicator frame from its kind byte to before its end byte. -/
def Indicator.contents : Indicator → List Byte
  | .accept cents => 0x41 :: leBytes 4 cents
  | .authorizing => [0x42]
  | .refuse reason => [0x43, refuseCode reason]
  | .paused cents => 0x44 :: leBytes 4 cents
  | .closed cents => 0x45 :: leBytes 4 cents

/-- An indicator frame as it travels on TDn. -/
def Indicator.bytes (f : Indicator) : List Byte := readerFrameBytes f.contents

/-! ### Sheets, profiles, plans -/

/-- The price of a coverage, absent for UNPERMITTED (R7). -/
def coveragePrice : Coverage → Option Nat
  | .covered p => some p
  | .uncovered p => some p
  | .unpermitted => none

/-- A listed sheet: number, kind, coverage, price when present, session serial when present, each of the last two
with its presence byte (R23, R123, R188). -/
def sheetBytes (number : Nat) (kind : Kind) (coverage : Coverage) (serial : Option Nat) : List Byte :=
  leBytes 2 number ++ [BitVec.ofNat 8 kind.val, coverageCode coverage] ++
    optional (coveragePrice coverage) (leBytes 2) ++ optional serial (leBytes 4)

/-- The fields of a profile in the order of R35. -/
def Profile.bytes (p : Profile) : List Byte :=
  leBytes 1 p.plan ++ leBytes 4 p.presetHold ++ leBytes 4 p.minOpening ++ leBytes 1 p.allowance ++
    [basisCode p.basis] ++ leBytes 1 p.walkInRate ++ leBytes 1 p.transitLimit ++ leBytes 1 p.purgeWindow ++
    leBytes 1 p.authTimeout ++ leBytes 1 p.pauseAck ++ leBytes 1 p.pulseWindow ++ leBytes 1 p.levelWindow ++
    leBytes 1 p.sessionA ++ leBytes 1 p.sessionB ++ leBytes 1 p.idleA ++ leBytes 1 p.idleB ++
    [linkCode p.linkCard, linkCode p.linkFeed, linkCode p.linkDeliver, linkCode p.linkReadyRise,
     linkCode p.linkHost, flag p.autoStart]

/-- The 15 fields of a plan in the order of R75 (R79). -/
def Plan.bytes (p : Plan) : List Byte := p.fields.flatMap (leBytes 2)

/-- The fourteen meters in the order of R22. -/
def Meters.bytes (m : Meters) : List Byte :=
  (m.delivered.toList ++ [m.jammed, m.lost, m.purged, m.orphan, m.unpermitted, m.uncovered]).flatMap
    (leBytes 4)

/-! ### Accounts (R191) -/

/-- The code of an account state, OPEN or BLOCKED (R188). -/
def accountStateCode (blocked : Bool) : Byte := if blocked then 2 else 1

/-- The account record of an OPEN or BLOCKED slot (R136, R191). -/
def accountBytes (n : Nat) (x : Slot) (period : Nat) : List Byte :=
  leBytes 2 n ++ [accountStateCode x.account.blocked] ++ leBytes 5 x.identity ++
    (match x.account.figures with
      | .prepaid balance => [1] ++ leBytes 1 x.account.rate ++ leBytes 4 balance
      | .department limit spent p =>
          [2] ++ leBytes 1 x.account.rate ++ leBytes 4 limit ++ leBytes 4 spent ++ leBytes 2 p ++
            leBytes 4 (x.account.figures.effectiveSpent period)) ++
    leBytes 4 x.account.held ++ leBytes 1 x.account.openCount ++ leBytes 4 x.account.lastUse ++
    leBytes 4 (x.account.credit period)

/-- The account record that a read of slot `n` answers with (R136, R191). -/
def SlotRead.bytes (r : SlotRead) (n period : Nat) : List Byte :=
  match r with
  | .free => leBytes 2 n ++ [0]
  | .suspect x => leBytes 2 n ++ [3] ++ leBytes 5 x.identity
  | .content x => accountBytes n x period

/-! ### Journal records (R190) -/

/-- The payment kind byte and the payment field of a SETTLE record (R190). -/
def PaidBy.bytes : PaidBy → List Byte
  | .campus slot identity => 1 :: leBytes 2 slot ++ leBytes 5 identity
  | .bank r => 2 :: leBytes 2 r
  | .counter r => 3 :: leBytes 4 r

/-- A SETTLE record at the offsets of R190. -/
def SettleRecord.bytes (r : SettleRecord) : List Byte :=
  leBytes 4 r.serial ++ leBytes 4 r.opened ++ leBytes 4 r.closed ++ leBytes 1 r.station ++
    leBytes 4 r.sessionSerial ++ r.paidBy.bytes ++ leBytes 4 r.hold ++ leBytes 4 r.charged ++
    r.covered.toList.flatMap (leBytes 4) ++ leBytes 4 r.uncovered ++ leBytes 4 r.uncoveredValue ++
    leBytes 4 r.unpermitted ++ leBytes 4 r.jammed ++ leBytes 1 r.extendCount ++
    [reasonCode r.reason, flagsByte r.clamped r.forced r.parked]

/-- A RESTART record, 11 bytes (R190). -/
def RestartRecord.bytes (r : RestartRecord) : List Byte :=
  leBytes 4 r.serial ++ leBytes 4 r.stamp ++ [restartCode r.cause] ++ leBytes 1 r.repeats ++
    leBytes 1 r.settled

/-- The record kind and the record (R190). -/
def Record.bytes : Record → List Byte
  | .settle r => 1 :: r.bytes
  | .restart r => 2 :: r.bytes

/-! ### Sessions (R191) -/

/-- A session state byte, followed for SUSPENDED by the state before suspension (R188). -/
def sessionState : Option Session → List Byte
  | none => [0]
  | some x => if x.suspended then [6, phaseCode x.phase] else [phaseCode x.phase]

/-- The payment kind byte and the payment field of a summary, without the token (R191). -/
def paymentBytes : Payment → List Byte
  | .campus slot => 1 :: leBytes 2 slot
  | .bank r _ => 2 :: leBytes 2 r
  | .counter r => 3 :: leBytes 4 r

/-- The counts of a summary with the extend count, 53 bytes (R73, R191). -/
def Session.countBytes (x : Session) : List Byte :=
  leBytes 4 x.fed ++ x.covered.toList.flatMap (leBytes 4) ++ leBytes 4 x.uncovered ++
    leBytes 4 x.uncoveredValue ++ leBytes 4 x.unpermitted ++ leBytes 4 x.jammed ++ leBytes 1 x.extendCount

/-- The money fields of a summary, 16 bytes (R74, R191). -/
def Session.moneyBytes (x : Session) : List Byte :=
  leBytes 4 x.hold ++ leBytes 4 x.charged ++ leBytes 4 x.pending ++ leBytes 4 x.available

/-- The session summary of a station with session `x` (R74, R191). -/
def Session.summary (x : Session) (i : StationId) : List Byte :=
  [BitVec.ofNat 8 (stationNumber i)] ++ sessionState (some x) ++ leBytes 4 x.serial ++
    paymentBytes x.payment ++ x.moneyBytes ++ leBytes 1 x.tier.val ++ leBytes 2 x.ceiling ++
    leBytes 1 x.rate ++ optional x.lastKind (fun k => leBytes 1 k.val) ++ x.countBytes ++
    [flagsByte x.clamped x.forced x.parked] ++ leBytes 4 x.opened ++
    optional x.phase.closeReason (fun r => [reasonCode r]) ++ [flag x.stopPending]

/-- The reply of READ-SESSION (R74, R191). -/
def summaryBytes (i : StationId) : Option Session → List Byte
  | none => [BitVec.ofNat 8 (stationNumber i), 0]
  | some x => x.summary i

/-! ### Stations (R38, R123, R167) -/

/-- Whole seconds to an instant, rounded up (R38, R123). -/
def secondsLeft (now expiry : Nat) : Nat := (expiry - now + 999) / 1000

/-- The code of a timer status (R188). -/
def timerCode : IdleTimer → Byte
  | .stopped => 0
  | .running _ => 1
  | .expired => 2

/-- The expiry instant of a timer, present while it is RUNNING (R39). -/
def IdleTimer.expiry : IdleTimer → Option Nat
  | .running t => some t
  | _ => none

/-- A timer's status byte and, present when RUNNING, the seconds remaining with their presence byte (R38, R123,
R188). -/
def timerBytes (now : Nat) (t : IdleTimer) : List Byte :=
  timerCode t :: optional t.expiry fun e => leBytes 2 (secondsLeft now e)

/-- An idle timer in a READ-STATION reply (R38): its duration, 0 for NONE, its status, and the seconds remaining. -/
def idleBytes (now : Nat) (duration : Option Nat) (t : IdleTimer) : List Byte :=
  leBytes 2 (duration.getD 0) ++ timerBytes now t

/-- The purge window as a timer status: RUNNING with its expiry, or STOPPED (R116, R123). -/
def Station.purgeStatus (st : Station) : IdleTimer :=
  match st.purgeTimer with
  | none => .stopped
  | some expiry => .running expiry

/-- The code of a jam record's state (R188). -/
def jamStateCode (r : JamRecord) : Byte := if r.lost.isNone then 1 else 2

/-- The READ-STATION report of a station (R38, R23). The session serial with stop-pending, the last refusal and the jam
serial with state are one optional item each, with one presence byte (log 22); the oldest age has its own. The eight
recognized levels travel one byte each, in the order of the table of 01 (log 38). -/
def State.stationBytes (s : State) (i : StationId) : List Byte :=
  let st := s.station i
  [stationCode st.state] ++
    sessionState st.session ++ optional st.session (fun x => leBytes 4 x.serial ++ [flag x.stopPending]) ++
    [flag (s.permit i), flag (s.pause i), flag (s.save i)] ++
    idleBytes s.now (st.duration .a) st.timerA ++ idleBytes s.now (st.duration .b) st.timerB ++
    [flag st.quiet] ++ leBytes 2 st.forcedStops ++
    optional st.lastRefusal (fun r => [refuseCode r.reason, classCode r.card] ++ leBytes 4 r.stamp) ++
    optional st.jam (fun r => leBytes 2 r.serial ++ [jamStateCode r]) ++
    allLines.map (fun n => flag (st.lines.get n).level) ++ leBytes 2 st.lastSheet ++
    leBytes 1 st.path.length ++
    st.path.flatMap (fun e => sheetBytes e.number e.kind e.coverage e.serial) ++
    optional st.path.head? (fun e => leBytes 4 (s.now - e.fedAt))

/-- The READ-JAM report of a record (R123). The lost count, present when the record is CLOSED, and the purge window
status, present when it is OPEN, are one optional item each (R188; log 22). -/
def State.jamBytes (s : State) (i : StationId) (r : JamRecord) : List Byte :=
  [BitVec.ofNat 8 (stationNumber i)] ++ leBytes 2 r.serial ++ [jamCode r.cause] ++ leBytes 4 r.stamp ++
    [jamStateCode r] ++ leBytes 4 r.inDoubt ++ leBytes 4 r.purged ++ leBytes 1 r.repeats ++
    optional r.lost (leBytes 4) ++
    optional (if r.lost.isNone then some (s.station i).purgeStatus else none) (timerBytes s.now) ++
    leBytes 1 r.listed.length ++
    r.listed.flatMap fun d => sheetBytes d.number d.kind d.coverage d.serial

/-- The GET-STATUS report (R167). -/
def State.statusBytes (s : State) : List Byte :=
  [deviceCode s.device] ++ leBytes 4 s.stamp ++ [flag s.timeUnset] ++ leBytes 2 s.period ++
    optional s.alarm (leBytes 4) ++ leBytes 2 s.journal.length ++ leBytes 2 s.reservations ++
    leBytes 2 s.freeRecords ++ [flag s.linkOverrun] ++ optional s.lastCorrected (leBytes 2) ++
    optional s.lastFault (leBytes 2) ++ leBytes 2 s.scrubPosition ++ leBytes 2 s.notices.length ++
    leBytes 2 (s.notices.countP s.enabled) ++
    allStations.flatMap fun i => stationCode (s.station i).state :: sessionState (s.station i).session

end Sys2Proof.Machine
end

