-- ==== Sys2Proof/Machine/Readers.lean ====
section
/-! DEFINITION. The card reader ports (R47, R48) and what the session engine does with their frames:
admission (R54 to R57), extend (R65), END (R66). -/

namespace Sys2Proof.Machine

/-! ### Admission -/

/-- The slot that the directory gives for an identity (R125). -/
def State.lookup (s : State) (identity : Nat) : Option Nat := findIdentity identity s.slots

/-- The admission of a CAMPUS card (R55) and its grant (R56). -/
def State.admitCampus (s : State) (i : StationId) (identity : Nat) : State :=
  match s.lookup identity with
  | none => s.refuse i .unknownCard .campus
  | some n =>
      match s.testedRead n with
      | (s, .content y) =>
          let credit := y.account.credit s.period
          let profile := (s.station i).profile
          if y.account.blocked then s.refuse i .blocked .campus
          else if credit = 0 ∨ credit < profile.minOpening then s.refuse i .lowCredit .campus
          else
            let hold := min profile.presetHold credit
            let s := s.writeAccount n (y.account.grant s.period hold s.stamp)
            let s := s.createSession i (.campus n) hold y.account.rate .active
            (s.indicate i (.accept hold)).evaluatePause i false
      | (s, _) => s.refuse i .unavailable .campus

/-- The auth references of the AUTHORIZING sessions. -/
def State.authRefs (s : State) : List Nat :=
  s.sessions.filterMap fun p =>
    match p.2.payment with
    | .bank r _ => if p.2.authorizing then some r else none
    | _ => none

/-- The next auth reference (R57): one above the counter, passing over those in use; at most 8 are. -/
def nextAuthRef (used : List Nat) : Nat → Nat → Nat
  | 0, r => wrapInc Config.wrap16 r
  | fuel + 1, r =>
      let next := wrapInc Config.wrap16 r
      if next ∈ used then nextAuthRef used fuel next else next

/-- The admission of a BANK card (R57). -/
def State.admitBank (s : State) (i : StationId) (token : BitVec 128) : State :=
  let r := nextAuthRef s.authRefs 8 s.authRef
  let s := ({ s with authRef := r }).createSession i (.bank r token) 0
    (s.station i).profile.walkInRate .authorizing
  let s := s.modStation i fun st => { st with authTimer := some (s.now + 1000 * st.profile.authTimeout) }
  (s.postAt .authRequest i).indicate i .authorizing

/-- The class of a card (R49). -/
def cardClass : Card → CardClass
  | .campus _ => .campus
  | .bank _ => .bank

/-- A CAMPUS identity lies within its range (R47). -/
def cardInRange : Card → Bool
  | .campus identity => decide (identity.toNat ≤ Config.maxIdentity)
  | .bank _ => true

/-- An admission request (R54). -/
def State.admitCard (s : State) (i : StationId) (card : Card) : State :=
  if (s.station i).state ≠ .ready then s.refuse i .outOfService (cardClass card)
  else if !s.guardPasses then s.refuse i .journalFull (cardClass card)
  else
    match card with
    | .campus identity => s.admitCampus i identity.toNat
    | .bank token => s.admitBank i token

/-! ### Extend (R65) -/

/-- The card carries the identity that the directory holds for the session's own account (R53). -/
def State.ownCard (s : State) (x : Session) (card : Card) : Option Nat :=
  match x.payment, card with
  | .campus n, .campus identity =>
      match s.slot n with
      | some y => if y.identity = identity.toNat then some n else none
      | none => none
  | _, _ => none

/-- An extend of session `x` on slot `n` (R65). -/
def State.extendSession (s : State) (i : StationId) (n : Nat) : State :=
  match s.testedRead n with
  | (s, .content y) =>
      let credit := y.account.credit s.period
      if y.account.blocked then s.refuse i .blocked .campus
      else if credit = 0 then s.refuse i .lowCredit .campus
      else
        let extension := min (s.station i).profile.presetHold credit
        let s := s.writeAccount n (y.account.extend s.period extension s.stamp)
        let s := s.modSession i fun x =>
          { x with hold := x.hold + extension, extendCount := satAdd 255 x.extendCount 1 }
        let s := match (s.station i).session with
          | some x => s.indicate i (.accept x.hold)
          | none => s
        s.evaluatePause i true
  | (s, _) => s.refuse i .unavailable .campus

/-! ### Frames (R53) -/

/-- A well-formed CARD frame taken by the session engine in RUNNING, by the table of R53. A tap that comes after a
walk-away close finds no session and is an admission (R53, R54), where the last sentence of R65 has it refused
BUSY (log 37). -/
def State.takeCard (s : State) (i : StationId) (card : Card) : State :=
  match (s.station i).session with
  | none => s.admitCard i card
  | some x =>
      if x.copying then
        match s.ownCard x card with
        | some n => s.extendSession i n
        | none => s.refuse i .busy (cardClass card)
      else s.refuse i .busy (cardClass card)

/-- A well-formed END frame taken by the session engine in RUNNING (R66). -/
def State.takeEnd (s : State) (i : StationId) : State :=
  match (s.station i).session with
  | none => s.refuse i .busy .none
  | some x =>
      if x.copying then s.closeRequest i .customer
      else if x.authorizing then
        ((s.endWithoutRecord i).indicate i (.closed 0)).reloadBoth i
      else s.refuse i .busy .none

/-- The port's condition becomes `c`. -/
def State.setReader (s : State) (i : StationId) (c : ReaderCondition) : State :=
  s.modStation i fun st => { st with reader := { st.reader with condition := c } }

/-- A frame ends at the reader port of station `i`, leaving the port in condition `after` (R47). It is a CARD
activity, and wakes a SAVE station first (R40, R45); `take` is what becomes of it in RUNNING, and `shut` the
refusal that answers it in SHUTDOWN, where no timer is reloaded (R178). -/
def State.readerFrame (s : State) (i : StationId) (after : ReaderCondition) (take shut : State → State) :
    State :=
  if s.alive then
    let t := s.setReader i after
    if s.device = .running then
      (take (t.activity i (s.station i).profile.linkCard)).endEvent i (s.station i).state
    else shut t
  else s

/-- A frame fails its tests (R47): discarded and answered with REFUSE READ-ERROR. -/
def State.discardFrame (s : State) (i : StationId) (after : ReaderCondition) : State :=
  s.readerFrame i after (fun t => t.refuse i .readError .none) (fun t => t.refuse i .readError .none)

/-- The port takes the bytes of a frame: it is not waiting for an idle line (R47; logs 10, 11). -/
def State.portOpen (s : State) (i : StationId) : Bool :=
  decide ((s.station i).reader.condition ≠ .waitingIdle)

/-- A CARD frame arrives whole; an identity out of range makes it malformed (R47). -/
def State.cardArrives (s : State) (i : StationId) (card : Card) : State :=
  if s.portOpen i then
    if cardInRange card then
      s.readerFrame i .looking (fun t => t.takeCard i card)
        (fun t => t.refuse i .outOfService (cardClass card))
    else s.discardFrame i .waitingIdle
  else s

/-- An END frame arrives whole (R66). -/
def State.endArrives (s : State) (i : StationId) : State :=
  if s.portOpen i then
    s.readerFrame i .looking (fun t => t.takeEnd i) (fun t => t.refuse i .outOfService .none)
  else s

/-- A malformed frame ends (R47); the port then waits for an idle line. -/
def State.malformedArrives (s : State) (i : StationId) : State :=
  if s.portOpen i then s.discardFrame i .waitingIdle else s

/-- The line is idle for more than 100 ms within a frame (R47): the frame is malformed; the idle line that
ended it is the one the port would wait for (log 12). -/
def State.readerGap (s : State) (i : StationId) : State :=
  if (s.station i).reader.condition = .assembling then s.discardFrame i .looking else s

/-- A start byte reaches a port that looks for one (R47). -/
def State.readerStart (s : State) (i : StationId) : State :=
  if s.alive ∧ (s.station i).reader.condition = .looking then s.setReader i .assembling else s

/-- The line has been idle for 100 ms after a discarded frame (R47). -/
def State.readerIdle (s : State) (i : StationId) : State :=
  if s.alive ∧ (s.station i).reader.condition = .waitingIdle then s.setReader i .looking else s

/-- The indicator frame being sent has been sent, and the oldest waiting one begins (R48). -/
def ReaderPort.sent (p : ReaderPort) : ReaderPort :=
  match p.waiting with
  | [] => { p with sending := none }
  | f :: rest => { p with sending := some f, waiting := rest }

/-- An indicator frame of station `i` has been sent (R48). -/
def State.indicatorSent (s : State) (i : StationId) : State :=
  if s.mainSupply ∧ s.resetPin = false then s.modStation i fun st => { st with reader := st.reader.sent } else s

end Sys2Proof.Machine
end

