-- ==== Sys2Proof/Machine/Requests.lean ====
section
/-! DEFINITION. What each owning block does with a request that is taken (R164, step 5): the part after the
event, the status and the fields of the reply. -/

namespace Sys2Proof.Machine

/-- A reply's status and the fields after it (R165). -/
structure Answer where
  status : Status
  fields : List Byte
  deriving DecidableEq, Repr

/-- A refusal with no fields. -/
def Answer.refuse (status : Status) : Answer where
  status := status
  fields := []

/-- An OK reply with the given fields. -/
def Answer.ok (fields : List Byte) : Answer where
  status := .ok
  fields := fields

/-- Money as it travels: a signed 32-bit value (R188). -/
def money (x : BitVec 32) : Int := x.toInt

/-! ### Device requests -/

/-- GET-STATUS (R167): the report, and the link-overrun flag cleared in the same event. -/
def State.ownGetStatus (s : State) : State × Answer :=
  ({ s with linkOverrun := false }, .ok s.statusBytes)

/-- SET-TIME (R148). -/
def State.ownSetTime (s : State) (stamp : BitVec 32) : State × Answer :=
  let t := { s with stamp := stamp.toNat, timeUnset := false }
  let u := t.testAlarm
  (u, .ok (leBytes 4 u.stamp ++ leBytes 2 u.period ++ [flag t.alarmDue]))

/-- SET-PERIOD-ALARM (R146). -/
def State.ownSetPeriodAlarm (s : State) (presence : Byte) (stamp : Option (BitVec 32)) : State × Answer :=
  if 1 < presence.toNat then (s, .refuse .badValue)
  else
    let t := { s with alarm := if presence = 0 then none else stamp.map BitVec.toNat }.testAlarm
    (t, .ok (optional t.alarm (leBytes 4) ++ leBytes 2 t.period))

/-- TURN-PERIOD (R145). -/
def State.ownTurnPeriod (s : State) : State × Answer :=
  (s.turnPeriod, .ok (leBytes 2 s.turnPeriod.period))

/-- SET-DEVICE (R169): bits 12 to 15 name no kind (R188). -/
def State.ownSetDevice (s : State) (mask : BitVec 16) : State × Answer :=
  if 0x0FFF < mask.toNat then (s, .refuse .badValue)
  else ({ s with noticeMask := mask }, .ok (bytesOf 2 mask))

/-- RESET (R171): OK; the restart follows the reply. -/
def State.ownReset (s : State) : State × Answer := (s, .ok [])

/-- What CLEAR-ALL does at a station (R21, R38). -/
def Station.clearAll (st : Station) : Station := { st with meters := .zero, forcedStops := 0 }

/-- CLEAR-ALL (R170, R143). -/
def State.ownClearAll (s : State) : State × Answer :=
  if s.sessions = [] then
    (({ s with slots := [], lastCorrected := none, lastFault := none }).modStations Station.clearAll, .ok [])
  else (s, .refuse .wrongState)

/-! ### Notices (R173) -/

/-- TAKE-NOTICE (R173): the first enabled entry by priority and station leaves the set. -/
def State.ownTakeNotice (s : State) : State × Answer :=
  match s.notices.find? s.enabled with
  | none => (s, .ok ([0] ++ leBytes 2 0))
  | some n =>
      let t := { s with notices := s.notices.erase n }
      (t, .ok (leBytes 1 n.kind.priority ++ leBytes 1 n.station ++
        leBytes 2 (t.notices.countP t.enabled)))

/-! ### Stations -/

/-- Every field of a profile lies within its range in R35 (R36, check 3). -/
def profileValid (p : ProfileFields) : Bool :=
  decide (p.plan.toNat ≤ 7) &&
  decide (100 ≤ money p.presetHold ∧ money p.presetHold ≤ 50000) &&
  decide (0 ≤ money p.minOpening ∧ money p.minOpening ≤ money p.presetHold) &&
  decide (p.allowance.toNat ≤ 3) && decide (p.basis.toNat ≤ 1) && decide (p.walkInRate.toNat ≤ 250) &&
  decide (1 ≤ p.transitLimit.toNat ∧ p.transitLimit.toNat ≤ 60) &&
  decide (5 ≤ p.purgeWindow.toNat ∧ p.purgeWindow.toNat ≤ 120) &&
  decide (10 ≤ p.authTimeout.toNat ∧ p.authTimeout.toNat ≤ 120) &&
  decide (1 ≤ p.pauseAck.toNat ∧ p.pauseAck.toNat ≤ 10) &&
  decide (1 ≤ p.pulseWindow.toNat ∧ p.pulseWindow.toNat ≤ 15) &&
  decide (10 ≤ p.levelWindow.toNat ∧ p.levelWindow.toNat ≤ 150 ∧ p.levelWindow.toNat % 10 = 0) &&
  decide (p.sessionA.toNat ≤ 9) && decide (p.sessionB.toNat ≤ 9) &&
  decide (p.idleA.toNat ≤ 9) && decide (p.idleB.toNat ≤ 9) &&
  decide (p.linkCard.toNat ≤ 1) && decide (p.linkFeed.toNat ≤ 1) && decide (p.linkDeliver.toNat ≤ 1) &&
  decide (p.linkReadyRise.toNat ≤ 1) && decide (p.linkHost.toNat ≤ 1) && decide (p.autoStart.toNat ≤ 1)

/-- The timer that a link byte names (R188). -/
def linkOf (b : Byte) : TimerId := if b = 0 then .a else .b

/-- The profile that the fields of a valid request carry. -/
def profileOf (p : ProfileFields) : Profile where
  plan := p.plan.toNat
  presetHold := p.presetHold.toNat
  minOpening := p.minOpening.toNat
  allowance := p.allowance.toNat
  basis := if p.basis = 0 then .worst else .last
  walkInRate := p.walkInRate.toNat
  transitLimit := p.transitLimit.toNat
  purgeWindow := p.purgeWindow.toNat
  authTimeout := p.authTimeout.toNat
  pauseAck := p.pauseAck.toNat
  pulseWindow := p.pulseWindow.toNat
  levelWindow := p.levelWindow.toNat
  sessionA := p.sessionA.toNat
  sessionB := p.sessionB.toNat
  idleA := p.idleA.toNat
  idleB := p.idleB.toNat
  linkCard := linkOf p.linkCard
  linkFeed := linkOf p.linkFeed
  linkDeliver := linkOf p.linkDeliver
  linkReadyRise := linkOf p.linkReadyRise
  linkHost := linkOf p.linkHost
  autoStart := p.autoStart ≠ 0

/-- The lines after an accepted SET-PROFILE (R2): the candidate timings of a class whose window changed are
started afresh. -/
def Lines.newWindows (l : Lines) (now : Nat) (old new : Profile) : Lines :=
  l.map fun n v => if old.window n = new.window n then v else v.restartTiming now

/-- SET-PROFILE (R36): the new windows act at once (R2), and a changed transit limit re-aims a running
transit timer, which expires at once if the oldest entry has reached it (R17; log 25). -/
def State.ownSetProfile (s : State) (station : Byte) (p : ProfileFields) : State × Answer :=
  match stationOf station with
  | none => (s, .refuse .badValue)
  | some i =>
      let st := s.station i
      if st.state ≠ .offline then (s, .refuse .wrongState)
      else if !profileValid p then (s, .refuse .badValue)
      else
        let new := profileOf p
        let t := s.modStation i fun st =>
          { st with profile := new, lines := st.lines.newWindows s.now st.profile new }
        if new.transitLimit ≠ st.profile.transitLimit ∧ t.transitDue i then
          (t.declareJam i .transit, .ok [])
        else (t, .ok [])

/-- READ-PROFILE (R37). -/
def State.ownReadProfile (s : State) (station : Byte) : State × Answer :=
  match stationOf station with
  | none => (s, .refuse .badValue)
  | some i => (s, .ok (leBytes 1 (stationNumber i) ++ (s.station i).profile.bytes))

/-- START-STATION (R27). -/
def State.ownStartStation (s : State) (station : Byte) : State × Answer :=
  match stationOf station with
  | none => (s, .refuse .badValue)
  | some i =>
      if (s.station i).state ≠ .offline then (s, .refuse .wrongState)
      else (s.startStation i, .ok [stationCode ((s.startStation i).station i).state])

/-- What STOP-STATION does at a station in service (R28), by the session there. -/
def State.stopStation (s : State) (i : StationId) : State :=
  match (s.station i).session with
  | none => s.enterOffline i
  | some x =>
      if x.authorizing then ((s.endWithoutRecord i).indicate i (.closed 0)).enterOffline i
      else (s.modSession i fun x => { x with stopPending := true }).closeRequest i .host

/-- STOP-STATION (R28): the pending flag is set while the session is still there. -/
def State.ownStopStation (s : State) (station : Byte) : State × Answer :=
  match stationOf station with
  | none => (s, .refuse .badValue)
  | some i =>
      if (s.station i).state = .offline then (s, .refuse .wrongState)
      else (s.stopStation i, .ok [flag ((s.stopStation i).station i).session.isSome])

/-- The HOST activity of WAKE-STATION with the quiet test that ends its event (R46, R45). -/
def State.wakeStation (s : State) (i : StationId) : State :=
  (s.activity i (s.station i).profile.linkHost).endEvent i (s.station i).state

/-- WAKE-STATION (R46). -/
def State.ownWakeStation (s : State) (station : Byte) : State × Answer :=
  match stationOf station with
  | none => (s, .refuse .badValue)
  | some i =>
      if (s.station i).state = .offline then (s, .refuse .wrongState)
      else (s.wakeStation i, .ok [stationCode ((s.wakeStation i).station i).state])

/-- READ-STATION (R38). -/
def State.ownReadStation (s : State) (station : Byte) : State × Answer :=
  match stationOf station with
  | none => (s, .refuse .badValue)
  | some i => (s, .ok (s.stationBytes i))

/-- READ-JAM (R123). -/
def State.ownReadJam (s : State) (station : Byte) : State × Answer :=
  match stationOf station with
  | none => (s, .refuse .badValue)
  | some i =>
      match (s.station i).jam with
      | none => (s, .refuse .notFound)
      | some r => (s, .ok (s.jamBytes i r))

/-- READ-METERS (R22). -/
def State.ownReadMeters (s : State) (station : Byte) : State × Answer :=
  match stationOf station with
  | none => (s, .refuse .badValue)
  | some i => (s, .ok (leBytes 1 (stationNumber i) ++ (s.station i).meters.bytes))

/-! ### Sessions -/

/-- The creation of a COUNTER session at a READY or SAVE station without one (R64): a SAVE station is woken,
the session takes the walk-in rate and the amount as its hold, the reader is sent ACCEPT, the pause condition
is evaluated, and the quiet test ends the event. -/
def State.openCounter (s : State) (i : StationId) (hold hostRef : Nat) : State :=
  let before := (s.station i).state
  let s := if before = .save then s.enterState i .ready else s
  let s := s.createSession i (.counter hostRef) hold (s.station i).profile.walkInRate .active
  ((s.indicate i (.accept hold)).evaluatePause i false).endEvent i before

/-- OPEN-SESSION (R64), with its checks in order. -/
def State.ownOpenSession (s : State) (station : Byte) (amount hostRef : BitVec 32) : State × Answer :=
  match stationOf station with
  | none => (s, .refuse .badValue)
  | some i =>
      let st := s.station i
      if (st.state ≠ .ready ∧ st.state ≠ .save) ∨ st.session.isSome then (s, .refuse .wrongState)
      else if money amount < 1 ∨ (st.profile.presetHold : Int) < money amount then (s, .refuse .badValue)
      else if !s.guardPasses then (s, .refuse .full)
      else
        let t := s.openCounter i amount.toNat hostRef.toNat
        (t, .ok (leBytes 4 t.sessionSerial))

/-- END-SESSION (R69). -/
def State.ownEndSession (s : State) (station : Byte) : State × Answer :=
  match stationOf station with
  | none => (s, .refuse .badValue)
  | some i =>
      match (s.station i).session with
      | none => (s, .refuse .wrongState)
      | some x =>
          if x.copying then
            let t := s.closeRequest i .host
            (t, .ok (leBytes 4 x.serial ++ [flag (t.station i).session.isNone]))
          else if x.closing then (s, .ok (leBytes 4 x.serial ++ [flag false]))
          else (s, .refuse .wrongState)

/-- READ-SESSION (R74). -/
def State.ownReadSession (s : State) (station : Byte) : State × Answer :=
  match stationOf station with
  | none => (s, .refuse .badValue)
  | some i => (s, .ok (summaryBytes i (s.station i).session))

/-- READ-AUTH (R60). -/
def State.ownReadAuth (s : State) (station : Byte) : State × Answer :=
  match stationOf station with
  | none => (s, .refuse .badValue)
  | some i =>
      match (s.station i).session with
      | none => (s, .refuse .wrongState)
      | some x =>
          match x.payment with
          | .bank r token =>
              if x.authorizing then
                (s, .ok (leBytes 2 r ++ bytesOf 16 token ++ leBytes 4 (s.station i).profile.presetHold))
              else (s, .refuse .wrongState)
          | _ => (s, .refuse .wrongState)

/-- The session's auth reference matches a result: it is AUTHORIZING with that reference (R61). -/
def Session.awaits (x : Session) (authRef : Nat) : Bool :=
  x.authorizing &&
    match x.payment with
    | .bank r _ => decide (r = authRef)
    | _ => false

/-- An authorization accepted with hold `hold` (R61): the timer stops, the session enters ACTIVE, both idle
timers are reloaded, the reader is sent ACCEPT, the pause condition is evaluated. -/
def State.acceptAuth (s : State) (i : StationId) (hold : Nat) : State :=
  let s := s.modStation i fun st =>
    { st with
      session := st.session.map fun x => { x with hold := hold, phase := .active }
      authTimer := none }
  ((s.reloadBoth i).indicate i (.accept hold)).evaluatePause i false

/-- An authorization declined (R62). -/
def State.declineAuth (s : State) (i : StationId) : State :=
  ((s.endWithoutRecord i).refuse i .declined .bank).reloadBoth i

/-- AUTH-RESULT (R61 to R63). -/
def State.ownAuthResult (s : State) (station : Byte) (authRef : BitVec 16) (amount : BitVec 32) :
    State × Answer :=
  match stationOf station with
  | none => (s, .refuse .badValue)
  | some i =>
      if money amount < 0 then (s, .refuse .badValue)
      else
        let late : State × Answer := (s, { status := .tooLate, fields := [flag (amount ≠ 0)] })
        match (s.station i).session with
        | none => late
        | some x =>
            if x.awaits authRef.toNat then
              let profile := (s.station i).profile
              if amount.toNat = 0 ∨ amount.toNat < profile.minOpening then (s.declineAuth i, .ok [2])
              else
                let hold := min amount.toNat profile.presetHold
                (s.acceptAuth i hold, .ok (1 :: leBytes 4 hold))
            else late

/-! ### Plans -/

/-- The plan number is one of the 8 (R77). -/
def planInRange (n : Byte) : Bool := decide (n.toNat ≤ 7)

/-- The part with plan `n` as given. -/
def State.setPlan (s : State) (n : Nat) (p : Plan) : State := { s with plans := s.plans.setIfInBounds n p }

/-- LOAD-PLAN (R77). -/
def State.ownLoadPlan (s : State) (n : Byte) (fields : List (BitVec 16)) : State × Answer :=
  let new := Plan.ofFields (fields.map BitVec.toNat)
  if !planInRange n then (s, .refuse .badValue)
  else if new.discounts.toList.any (fun d => decide (900 < d)) then (s, .refuse .badValue)
  else if !new.valid then (s, .refuse .badPlan)
  else (s.setPlan n.toNat new, .ok [])

/-- A carried discount is above 900 (R78, check 3): the fields of bits 11 to 14 are discounts. -/
def carriesBadDiscount (mask : BitVec 16) (values : List (BitVec 16)) : Bool :=
  let discounts := (List.range 4).countP fun k => mask.getLsbD (11 + k)
  (values.drop (values.length - discounts)).any fun d => decide (900 < d.toNat)

/-- AMEND-PLAN (R78): bit 15 names a field outside the 15. -/
def State.ownAmendPlan (s : State) (n : Byte) (mask : BitVec 16) (values : List (BitVec 16)) :
    State × Answer :=
  let new := (s.plan n.toNat).amend mask (values.map BitVec.toNat)
  if !planInRange n then (s, .refuse .badValue)
  else if mask.getLsbD 15 then (s, .refuse .badValue)
  else if carriesBadDiscount mask values then (s, .refuse .badValue)
  else if !new.valid then (s, .refuse .badPlan)
  else (s.setPlan n.toNat new, .ok [])

/-- READ-PLAN (R79). -/
def State.ownReadPlan (s : State) (n : Byte) : State × Answer :=
  if !planInRange n then (s, .refuse .badValue)
  else (s, .ok (n :: (s.plan n.toNat).bytes))

/-- QUOTE (R80). -/
def State.ownQuote (s : State) (n rate tier kind : Byte) : State × Answer :=
  let p := s.plan n.toNat
  if !planInRange n ∨ 250 < rate.toNat ∨ 3 < tier.toNat ∨ 7 < kind.toNat then (s, .refuse .badValue)
  else if 0 < tier.toNat ∧ p.threshold tier.toNat = 0 then (s, .refuse .badValue)
  else
    let t : Fin 4 := Fin.ofNat 4 tier.toNat
    let k : Kind := Fin.ofNat 8 kind.toNat
    (s, .ok (leBytes 2 (p.priceAt rate.toNat t k) ++ [flag (p.clampsAt rate.toNat t k)]))

/-! ### Accounts -/

/-- An account figure lies within 0 to 9,999,999 cents (R134). -/
def figureInRange (x : BitVec 32) : Bool := decide (0 ≤ money x ∧ money x ≤ Config.maxCents)

/-- The figures that a LOAD-ACCOUNT carries for its kind, when they are in range (R134, check 1). The spent
period is the current one (R135). -/
def loadFigures (kind : Byte) (figures : List (BitVec 32)) (period : Nat) : Option Figures :=
  match kind.toNat, figures with
  | 1, [balance] => if figureInRange balance then some (.prepaid balance.toNat) else none
  | 2, [limit, spent] =>
      if figureInRange limit ∧ figureInRange spent ∧ spent.toNat ≤ limit.toNat
      then some (.department limit.toNat spent.toNat period) else none
  | _, _ => none

/-- Figures that cannot bear a recomputed held (R134, check 4). -/
def Figures.below (f : Figures) (held : Nat) : Bool :=
  match f with
  | .prepaid balance => decide (balance < held)
  | .department limit spent _ => decide (limit < spent + held)

/-- The account that an accepted LOAD-ACCOUNT writes (R135). -/
def State.loadedAccount (s : State) (n : Nat) (blocked : Bool) (rate : Nat) (figures : Figures) : Account where
  blocked := blocked
  rate := rate
  figures := figures
  held := s.boundHold n
  openCount := (s.bound n).length
  lastUse := s.stamp

/-- The identity belongs to a slot other than `n` (R134, check 2). -/
def State.holdsElsewhere (s : State) (n identity : Nat) : Bool :=
  (s.lookup identity).any fun m => decide (m ≠ n)

/-- Sessions are bound to slot `n`, and the request is no repair of a SUSPECT slot under its own identity (R134,
check 3). -/
def State.loadBusy (s : State) (n identity : Nat) : Bool :=
  (s.slot n).any fun x => !(s.bound n).isEmpty && (!x.suspect || decide (x.identity ≠ identity))

/-- LOAD-ACCOUNT (R134, R135), with its checks in order. -/
def State.ownLoadAccount (s : State) (slot : BitVec 16) (identity : BitVec 40) (kind state rate : Byte)
    (figures : List (BitVec 32)) : State × Answer :=
  let n := slot.toNat
  if Config.slotCount ≤ n ∨ Config.maxIdentity < identity.toNat ∨ (state ≠ 1 ∧ state ≠ 2) ∨ 250 < rate.toNat
  then (s, .refuse .badValue)
  else
    match loadFigures kind figures s.period with
    | none => (s, .refuse .badValue)
    | some f =>
        if s.holdsElsewhere n identity.toNat then (s, .refuse .duplicate)
        else if s.loadBusy n identity.toNat then (s, .refuse .accountBusy)
        else if f.below (s.boundHold n) then (s, .refuse .range)
        else
          let a := s.loadedAccount n (state = 2) rate.toNat f
          let x : Slot := { identity := identity.toNat, suspect := false, account := a, damage := .sound }
          ({ s with slots := putSlot n x s.slots },
            .ok (leBytes 2 n ++ leBytes 4 a.held ++ leBytes 1 a.openCount))

/-- READ-ACCOUNT (R136). -/
def State.ownReadAccount (s : State) (slot : BitVec 16) : State × Answer :=
  if Config.slotCount ≤ slot.toNat then (s, .refuse .badValue)
  else
    let r := s.testedRead slot.toNat
    (r.1, .ok (r.2.bytes slot.toNat s.period))

/-- FIND-ACCOUNT (R137). -/
def State.ownFindAccount (s : State) (identity : BitVec 40) : State × Answer :=
  if Config.maxIdentity < identity.toNat then (s, .refuse .badValue)
  else
    match s.lookup identity.toNat with
    | none => (s, .refuse .notFound)
    | some n =>
        let r := s.testedRead n
        (r.1, .ok (r.2.bytes n s.period))

/-- TOPUP (R138). -/
def State.ownTopup (s : State) (slot : BitVec 16) (amount : BitVec 32) : State × Answer :=
  if Config.slotCount ≤ slot.toNat then (s, .refuse .badValue)
  else
    match s.testedRead slot.toNat with
    | (s, .content x) =>
        match x.account.figures with
        | .department _ _ _ => (s, .refuse .wrongState)
        | .prepaid balance =>
            let new : Int := balance + money amount
            if (Config.maxCents : Int) < new ∨ new < x.account.held then (s, .refuse .range)
            else
              (s.writeAccount slot.toNat { x.account with figures := .prepaid new.toNat },
                .ok (leBytes 4 new.toNat))
    | (s, _) => (s, .refuse .wrongState)

/-- SET-LIMIT (R139); a negative limit is below what is spent and held (log 21). -/
def State.ownSetLimit (s : State) (slot : BitVec 16) (limit : BitVec 32) : State × Answer :=
  if Config.slotCount ≤ slot.toNat ∨ (Config.maxCents : Int) < money limit then (s, .refuse .badValue)
  else
    match s.testedRead slot.toNat with
    | (s, .content x) =>
        match x.account.figures with
        | .prepaid _ => (s, .refuse .wrongState)
        | .department _ spent p =>
            if money limit < x.account.figures.effectiveSpent s.period + x.account.held
            then (s, .refuse .range)
            else
              let a : Account := { x.account with figures := .department limit.toNat spent p }
              let a := a.align s.period
              (s.writeAccount slot.toNat a, .ok (bytesOf 4 limit ++ leBytes 4 (a.credit s.period)))
    | (s, _) => (s, .refuse .wrongState)

/-- SET-ACCOUNT-STATE (R140). -/
def State.ownSetAccountState (s : State) (slot : BitVec 16) (state : Byte) : State × Answer :=
  if Config.slotCount ≤ slot.toNat ∨ (state ≠ 1 ∧ state ≠ 2) then (s, .refuse .badValue)
  else
    match s.testedRead slot.toNat with
    | (s, .content x) =>
        (s.writeAccount slot.toNat { x.account with blocked := state = 2 }, .ok [])
    | (s, _) => (s, .refuse .wrongState)

/-- DELETE-ACCOUNT (R141). -/
def State.ownDeleteAccount (s : State) (slot : BitVec 16) : State × Answer :=
  if Config.slotCount ≤ slot.toNat then (s, .refuse .badValue)
  else
    match s.slot slot.toNat with
    | none => (s, .refuse .notFound)
    | some _ =>
        if !(s.bound slot.toNat).isEmpty then (s, .refuse .accountBusy)
        else ({ s with slots := freeSlot slot.toNat s.slots }, .ok [])

/-! ### Journal -/

/-- READ-JOURNAL (R158, R190). -/
def State.ownReadJournal (s : State) : State × Answer :=
  match s.journal with
  | [] => (s, .refuse .empty)
  | r :: _ => (s, .ok (leBytes 2 s.journal.length ++ r.bytes))

/-- RELEASE-JOURNAL (R159). -/
def State.ownReleaseJournal (s : State) (serial : BitVec 32) : State × Answer :=
  match s.journal with
  | [] => (s, .refuse .empty)
  | r :: rest =>
      if r.serial = serial.toNat then
        let t := { s with journal := rest }
        (t, .ok (leBytes 2 rest.length ++ leBytes 2 t.freeRecords))
      else (s, { status := .mismatch, fields := leBytes 4 r.serial })

end Sys2Proof.Machine
end

