-- ==== Sys2Proof/Machine/Restarts.lean ====
section
/-! DEFINITION. SHUTDOWN (R177), the loss of the volatile state (R178, R179), and the restart with its seven
steps (R180 to R186), made of pieces so that a supply failure or the RESET pin can cut it (R180). -/

namespace Sys2Proof.Machine

/-- The timers that stop and are not resumed (R177, R180). -/
def Station.stopTimers (st : Station) : Station :=
  { st.stopIdle with authTimer := none, pauseTimer := none, purgeTimer := none }

/-- What the entry into SHUTDOWN does at a station (R177): its session becomes SUSPENDED (R51), its timers
and candidate timings stop; everything else is kept. -/
def Station.shutDown (st : Station) : Station :=
  { st.stopTimers with
    session := st.session.map fun x => { x with suspended := true }
    lines := st.lines.map fun _ v => { v with timing := none } }

/-- The entry into SHUTDOWN (R177). -/
def State.enterShutdown (s : State) : State :=
  ({ s with device := .shutdown, scrubDue := none }.modStations Station.shutDown).post .powerFail 0

/-- The station's part of the volatile state lost at a supply failure or at the RESET pin (R178, R179): timers,
line filter states, reader frames in both directions. -/
def Station.loseVolatile (st : Station) : Station :=
  { st.stopTimers with
    lines := st.lines.map fun _ v => v.clear
    reader := { condition := .looking, sending := none, waiting := [] } }

/-- The volatile state is lost (00, "Retained and volatile state"; R178, R179). A restart in progress is cut
(R180). -/
def State.loseVolatile (s : State) : State :=
  State.modStations
    { s with
      restart := none
      scrubDue := none
      notices := []
      hostCondition := .hunting
      receiveQueue := []
      linkOverrun := false
      reply := none } Station.loseVolatile

/-! ### The restart -/

/-- The pieces of work of a restart, in order (R180): the validity test (step 1), each authorization ended
(step 2), each path written off (step 3), each session settled (step 4), the RESTART record (step 5), the
notices (step 6), the station changes (step 7). -/
inductive Piece where
  | validity
  | endAuthorization (i : StationId)
  | writeOff (i : StationId)
  | settle (i : StationId)
  | record
  | notices
  | stations
  deriving DecidableEq, Repr

/-- The 28 pieces in the order of R181 to R186. -/
def restartPieces : List Piece :=
  .validity :: allStations.map .endAuthorization ++ allStations.map .writeOff ++
    allStations.map .settle ++ [.record, .notices, .stations]

/-- What the start of a restart does at a station (R180): timers stop, the reader port discards the frame in
assembly and the waiting frames, the line unit stays idle with every level deasserted (R4). A frame being sent
goes on (log 19). -/
def Station.beginRestart (st : Station) : Station :=
  { st.stopTimers with
    lines := st.lines.map fun _ v => v.clear
    reader := { condition := .looking, sending := st.reader.sending, waiting := [] } }

/-- A restart of the given cause begins (R179, R180): the device state is noted, the host line controller is
put into its start condition (R168). -/
def State.beginRestart (s : State) (cause : RestartCause) : State :=
  State.modStations
    { s with
      cameUp := false
      restart := some
        { cause := cause, before := s.device, next := 0, settled := [], corrected := false, faulted := false }
      scrubDue := none
      hostCondition := .hunting
      receiveQueue := []
      linkOverrun := false
      reply := none } Station.beginRestart

/-- A station after loss of the retained domain (R181): its lines' pins and its reader port are volatile and
stay. -/
def Station.loseRetained (st : Station) : Station :=
  { Station.reset with lines := st.lines, reader := st.reader }

/-- Every item of the retained domain at its value for loss (R181), and the marker written valid. -/
def State.loseRetained (s : State) : State :=
  State.modStations
    { s with
      device := .running
      marker := true
      divider := 0
      stamp := 0
      timeUnset := true
      sessionSerial := 0
      authRef := 0
      plans := #v[.default, .default, .default, .default, .default, .default, .default, .default]
      slots := []
      scrubPosition := 0
      lastCorrected := none
      lastFault := none
      period := 0
      alarm := none
      journal := []
      reservations := 0
      recordSerial := 0
      noticeMask := 0x0FFF } Station.loseRetained

/-- The close reason of a session that a restart settles (R184). -/
def restartReason (r : Restart) (x : Session) : CloseReason :=
  match x.phase.closeReason with
  | some reason => reason
  | none =>
      match r.cause, r.before with
      | _, .shutdown => .power
      | .pin, .running => .reset
      | .command, .running => .reset
      | _, .running => .power

/-- Step 2 at a station (R182): a session AUTHORIZING, or SUSPENDED from it, ends without a record. -/
def State.restartAuthorization (s : State) (i : StationId) : State :=
  match (s.station i).session with
  | some x => if x.phase = .authorizing then s.endWithoutRecord i else s
  | none => s

/-- What the account read of a session's settlement will find (R184). -/
def State.settlementRead (s : State) (x : Session) : Option Damage :=
  match x.payment with
  | .campus n => s.readCondition n
  | _ => none

/-- Step 4 at a station (R184): a session that remains is settled, with no station step; the restart notes
what the account read found. -/
def State.restartSettle (s : State) (r : Restart) (i : StationId) : State × Restart :=
  match (s.station i).session with
  | none => (s, r)
  | some x =>
      (s.settle i x (restartReason r x),
        { r with
          settled := r.settled ++ [i]
          corrected := r.corrected || decide (s.settlementRead x = some .correctable)
          faulted := r.faulted || decide (s.settlementRead x = some .uncorrectable) })

/-- Step 6 (R185): the notice set is emptied, then SESSION-CLOSED for each session settled, MEMORY-FAULT and
MEMORY-CORRECTED for what the settlements found. -/
def State.restartNotices (s : State) (r : Restart) : State :=
  let s := r.settled.foldl (fun acc i => acc.postAt .sessionClosed i) { s with notices := [] }
  let s := if r.faulted then s.post .memoryFault 0 else s
  if r.corrected then s.post .memoryCorrected 0 else s

/-- Step 7 at a station (R186): OFFLINE with its idle timers stopped, STATION-CHANGE posted. -/
def State.restartOffline (s : State) (i : StationId) : State :=
  (s.modStation i fun st => { st.leaveService with state := .offline }).postAt .stationChange i

/-- Step 7 (R186): every station OFFLINE, the auto-start stations started in turn, the device RUNNING; then the
line units start afresh (R4), the scrub resumes (R131), the alarm is tested (R146), JOURNAL-LOW is posted at a
free count of 32 or below (R161). A PFAIL still recognized then brings SHUTDOWN at once (R180); it is recognized
until the supply is recognized as returned (R176; log 41). -/
def State.restartStations (s : State) : State :=
  let s := allStations.foldl State.restartOffline s
  let s := allStations.foldl
    (fun acc i => if (acc.station i).profile.autoStart then acc.startStation i else acc) s
  let s := { s with device := .running, restart := none, scrubDue := some (s.now + Config.scrubPeriod) }
  let s := s.modStations fun st => { st with lines := st.lines.map (LineState.restart s.now) }
  let s := s.testAlarm
  let s := if s.freeRecords ≤ Config.journalLow then s.post .journalLow 0 else s
  if s.pfail then s.enterShutdown else s

/-- One piece of a restart, `r` its record with the piece counted. -/
def State.makePiece (s : State) (r : Restart) : Piece → State
  | .validity =>
      if s.marker then { s with restart := some r }
      else { s.loseRetained with restart := some { r with cause := .retainLost, before := .running } }
  | .endAuthorization i => { s.restartAuthorization i with restart := some r }
  | .writeOff i => { s.writeOff i with restart := some r }
  | .settle i => { (s.restartSettle r i).1 with restart := some (s.restartSettle r i).2 }
  | .record => { s.writeRestart r.cause r.settled.length with restart := some r }
  | .notices => { s.restartNotices r with restart := some r }
  | .stations => s.restartStations

/-- The next piece of the restart in progress, if one is. -/
def State.restartStep (s : State) : State :=
  match s.restart with
  | none => s
  | some r =>
      match restartPieces[r.next]? with
      | none => { s with restart := none }
      | some p => s.makePiece { r with next := r.next + 1 } p

/-- `n` pieces of the restart in progress. -/
def State.restartSteps : Nat → State → State
  | 0, s => s
  | n + 1, s => State.restartSteps n s.restartStep

/-- A restart of the given cause (R179), made whole, or as far as its first `n` pieces when another command
follows within it (R180; log 15). -/
def State.doRestart (s : State) (cause : RestartCause) (pieces : Option Nat) : State :=
  State.restartSteps (pieces.getD restartPieces.length) (s.beginRestart cause)

end Sys2Proof.Machine
end

