-- ==== Sys2Proof/Machine/Supply.lean ====
section
/-! DEFINITION. The supply monitor's events (R176 to R179) and the time base (R147). -/

namespace Sys2Proof.Machine

/-- PFAIL is recognized asserted (R176). It brings a RUNNING device into SHUTDOWN; within a restart it waits
for the restart's end (R180); without main supply there is no line to recognize. -/
def State.pfailRises (s : State) : State :=
  if s.mainSupply then
    let t := { s with pfail := true }
    if s.running then t.enterShutdown else t
  else s

/-- The main supply fails outright (R178): the volatile state is lost and a restart in progress is cut (R180).
Where VBAT does not hold, the retained-domain validity marker no longer matches its check (R181; log 16). -/
def State.supplyFails (s : State) (vbatHolds : Bool) : State :=
  { s.loseVolatile with
    mainSupply := false
    pfail := false
    cameUp := false
    marker := s.marker && vbatHolds }

/-- The supply has returned: PFAIL deasserted for 200 ms (R176). It begins a restart of cause SUPPLY after a
power-up, and in SHUTDOWN; an asserted RESET pin delays it (R179). After an absence this one event stands for the supply
coming up and for the 200 ms after it: until it, `mainSupply` is false, so the outputs and ATTN count as undriven
(R25, R174) and nothing works, which is the model's choice (log 47). -/
def State.supplyReturns (s : State) (pieces : Option Nat) : State :=
  let t := { s with mainSupply := true, pfail := false, cameUp := s.cameUp || !s.mainSupply }
  if t.resetPin then t
  else if t.restart.isSome then t
  else if t.cameUp ∨ t.device = .shutdown then t.doRestart .supply pieces
  else t

/-- The RESET pin is asserted (R179): every activity stops, the outputs and ATTN are deasserted, the volatile
state is lost. -/
def State.resetAsserts (s : State) : State :=
  { s.loseVolatile with resetPin := true }

/-- The RESET pin is deasserted (R179): a restart of cause PIN; after a power-up one of cause SUPPLY, once
PFAIL is deasserted as well. -/
def State.resetDeasserts (s : State) (pieces : Option Nat) : State :=
  let t := { s with resetPin := false }
  if s.resetPin = false ∨ s.mainSupply = false then t
  else if s.cameUp then (if s.pfail then t else t.doRestart .supply pieces)
  else t.doRestart .pin pieces

/-- The time base is supplied: from the main supply, or from VBAT (R147, R181). -/
def State.timeRuns (s : State) : Bool := s.mainSupply || s.marker

/-- The time base advances the stamp by one (R147), and the RUNNING device tests the period alarm (R146). -/
def State.secondPasses (s : State) : State :=
  if s.timeRuns then
    let t := { s with stamp := wrapInc Config.wrap32 s.stamp, divider := 0 }
    if t.running then t.testAlarm else t
  else s

/-- The period alarm falls due in the RUNNING device (R146). -/
def State.alarmFalls (s : State) : State := if s.running then s.testAlarm else s

end Sys2Proof.Machine
end

