-- ==== Sys2Proof/Machine/HostLine.lean ====
section
/-! DEFINITION. The host line controller (R162 to R166): frames, the receive queue, the taking of requests,
replies. -/

namespace Sys2Proof.Machine

/-! ### Replies -/

/-- The kind byte of a reply to a request kind (R165, R187). -/
def replyKind (kind : Byte) : Byte := kind ||| 0x80

/-- The NAK kind (R187). -/
def nakKind : Byte := 0xFF

/-- A reply begins (R164, R165): the status first in its body. -/
def State.sendReply (s : State) (kind : Byte) (a : Answer) (restarts : Bool) : State :=
  { s with reply := some { kind := kind, body := a.status.code :: a.fields, restarts := restarts } }

/-- The bytes of the reply being sent (R165, R187). -/
def Reply.bytes (r : Reply) : List Byte := frameBytes r.kind r.body

/-! ### Requests and their owners (09, "Requests and their owners") -/

/-- The requests that are served in SHUTDOWN (R166). -/
def servedInShutdown : Instr → Bool
  | .getStatus => true
  | .takeNotice => true
  | .reset => true
  | _ => false

/-- The owning block acts on a request in one event and answers it (R164, step 5). A command that is no
request changes nothing; none reaches this (log 30). -/
def State.serve (s : State) : Instr → State × Answer
  | .getStatus => s.ownGetStatus
  | .setTime stamp => s.ownSetTime stamp
  | .setPeriodAlarm presence stamp => s.ownSetPeriodAlarm presence stamp
  | .turnPeriod => s.ownTurnPeriod
  | .setDevice mask => s.ownSetDevice mask
  | .reset => s.ownReset
  | .clearAll => s.ownClearAll
  | .takeNotice => s.ownTakeNotice
  | .setProfile station profile => s.ownSetProfile station profile
  | .readProfile station => s.ownReadProfile station
  | .startStation station => s.ownStartStation station
  | .stopStation station => s.ownStopStation station
  | .wakeStation station => s.ownWakeStation station
  | .readStation station => s.ownReadStation station
  | .readJam station => s.ownReadJam station
  | .readMeters station => s.ownReadMeters station
  | .openSession station amount hostRef => s.ownOpenSession station amount hostRef
  | .endSession station => s.ownEndSession station
  | .readSession station => s.ownReadSession station
  | .readAuth station => s.ownReadAuth station
  | .authResult station authRef amount => s.ownAuthResult station authRef amount
  | .loadPlan plan fields => s.ownLoadPlan plan fields
  | .amendPlan plan mask values => s.ownAmendPlan plan mask values
  | .readPlan plan => s.ownReadPlan plan
  | .quote plan rate tier kind => s.ownQuote plan rate tier kind
  | .loadAccount slot identity kind state rate figures =>
      s.ownLoadAccount slot identity kind state rate figures
  | .readAccount slot => s.ownReadAccount slot
  | .findAccount identity => s.ownFindAccount identity
  | .topup slot amount => s.ownTopup slot amount
  | .setLimit slot limit => s.ownSetLimit slot limit
  | .setAccountState slot state => s.ownSetAccountState slot state
  | .deleteAccount slot => s.ownDeleteAccount slot
  | .readJournal => s.ownReadJournal
  | .releaseJournal serial => s.ownReleaseJournal serial
  | _ => (s, .refuse .unknownKind)

/-- Checks 4 and 5 of R164 on a request: the SHUTDOWN refusal (R166), or the owning rule. -/
def State.perform (s : State) (r : Instr) : State × Answer :=
  if s.device = .shutdown ∧ servedInShutdown r = false then (s, .refuse .shutdown) else s.serve r

/-- A request of kind `kind` is answered (R164, steps 4 and 5); the reply to RESET is the one after which the
part restarts (R171). -/
def State.answer (s : State) (kind : Byte) (r : Instr) : State :=
  (s.perform r).1.sendReply (replyKind kind) (s.perform r).2 (r = .reset)

/-- A taken frame is answered (R164): checks 1 to 5. -/
def State.takeFrame (s : State) (f : HostFrame) : State :=
  if f.good = false then s.sendReply nakKind (.refuse .badFrame) false
  else
    match parseRequest f.kind f.body with
    | .unknownKind =>
        s.sendReply (if f.kind.toNat < 0x80 then replyKind f.kind else nakKind) (.refuse .unknownKind) false
    | .badLength => s.sendReply (replyKind f.kind) (.refuse .badLength) false
    | .request r => s.answer f.kind r

/-- The host line controller takes the oldest queued frame when no reply is being sent (R164). -/
def State.takeRequest (s : State) : State :=
  if s.alive ∧ s.reply = none then
    match s.receiveQueue with
    | [] => s
    | f :: rest => { s with receiveQueue := rest }.takeFrame f
  else s

/-! ### Frames in -/

/-- A complete frame joins the receive queue, or is dropped with 4 queued (R163). -/
def State.enqueue (s : State) (f : HostFrame) : State :=
  if s.receiveQueue.length < Config.receiveQueueCapacity then
    { s with receiveQueue := s.receiveQueue ++ [f] }
  else { s with linkOverrun := true }

/-- A frame completes (R163): a request where its check matches, a bad frame where it fails. Without an
earlier start byte command the whole frame is meant (log 10); a body above 240 bytes is no frame (R162). -/
def State.frameCompletes (s : State) (kind : Byte) (body : List Byte) (check : BitVec 16) : State :=
  if s.alive then
    let t := { s with hostCondition := .hunting }
    if body.length ≤ Config.maxBody then
      t.enqueue { kind := kind, body := body, good := check = frameCheck kind body }
    else t
  else s

/-- The host sends a request frame (log 9): with no reply being sent and no frame queued it completes and is
taken at once; otherwise it joins the receive queue (R163, R164). Its operands make its body, and a body that
does not fit the kind is answered BAD-LENGTH. -/
def State.hostRequest (s : State) (kind : Byte) (r : Instr) : State :=
  if s.alive then
    let t := { s with hostCondition := .hunting }
    if s.reply = none ∧ s.receiveQueue = [] then
      if bodyFits kind (requestBody r) then t.answer kind r
      else t.sendReply (replyKind kind) (.refuse .badLength) false
    else t.enqueue { kind := kind, body := requestBody r, good := true }
  else s

/-- The gap after a byte of a frame exceeds 20 ms (R162): the partial frame is discarded. -/
def State.gapPasses (s : State) : State :=
  if s.alive ∧ s.hostCondition = .assembling then { s with hostCondition := .hunting } else s

/-- A 0xC5 byte reaches the hunting controller (R162). -/
def State.startByte (s : State) : State :=
  if s.alive ∧ s.hostCondition = .hunting then { s with hostCondition := .assembling } else s

/-- The byte after a start byte is taken as the length byte (R162): 0 or above 241 returns the controller to
hunting, and as a start byte it would begin assembly again; no such value is 0xC5. -/
def State.badLength (s : State) (length : Byte) : State :=
  if s.alive ∧ s.hostCondition = .assembling ∧ (length.toNat = 0 ∨ 241 < length.toNat) then
    let t := { s with hostCondition := .hunting }
    if length = 0xC5 then t.startByte else t
  else s

/-! ### Replies out -/

/-- The whole of the reply has been sent (R164); after RESET a restart of cause COMMAND begins (R171). -/
def State.replyEnds (s : State) (pieces : Option Nat) : State :=
  match s.reply with
  | none => s
  | some r =>
      if s.alive then
        let t := { s with reply := none }
        if r.restarts then t.doRestart .command pieces else t
      else s

end Sys2Proof.Machine
end

