-- ==== Sys2Proof/Machine/RequestCommands.lean ====
section
/-! DEFINITION. The meanings of the host requests: the frame of the request reaches the host line controller,
which answers it by the owning rule (R164). -/

namespace Sys2Proof.Machine

/-- What a command answers with. -/
abbrev Result := Host.Outcome State Fault Refusal

/-- GET-STATUS (R167). -/
def execGetStatus (s : State) : Result :=
  .next (s.hostRequest 0x01 .getStatus)

/-- SET-TIME (R148). -/
def execSetTime (stamp : BitVec 32) (s : State) : Result :=
  .next (s.hostRequest 0x02 (.setTime stamp))

/-- SET-PERIOD-ALARM (R146). -/
def execSetPeriodAlarm (presence : Byte) (stamp : Option (BitVec 32)) (s : State) : Result :=
  .next (s.hostRequest 0x03 (.setPeriodAlarm presence stamp))

/-- TURN-PERIOD (R145). -/
def execTurnPeriod (s : State) : Result :=
  .next (s.hostRequest 0x04 .turnPeriod)

/-- SET-DEVICE (R169). -/
def execSetDevice (mask : BitVec 16) (s : State) : Result :=
  .next (s.hostRequest 0x05 (.setDevice mask))

/-- RESET (R171). -/
def execReset (s : State) : Result :=
  .next (s.hostRequest 0x06 .reset)

/-- CLEAR-ALL (R170). -/
def execClearAll (s : State) : Result :=
  .next (s.hostRequest 0x07 .clearAll)

/-- TAKE-NOTICE (R173). -/
def execTakeNotice (s : State) : Result :=
  .next (s.hostRequest 0x08 .takeNotice)

/-- SET-PROFILE (R36). -/
def execSetProfile (station : Byte) (profile : ProfileFields) (s : State) : Result :=
  .next (s.hostRequest 0x10 (.setProfile station profile))

/-- READ-PROFILE (R37). -/
def execReadProfile (station : Byte) (s : State) : Result :=
  .next (s.hostRequest 0x11 (.readProfile station))

/-- START-STATION (R27). -/
def execStartStation (station : Byte) (s : State) : Result :=
  .next (s.hostRequest 0x12 (.startStation station))

/-- STOP-STATION (R28). -/
def execStopStation (station : Byte) (s : State) : Result :=
  .next (s.hostRequest 0x13 (.stopStation station))

/-- WAKE-STATION (R46). -/
def execWakeStation (station : Byte) (s : State) : Result :=
  .next (s.hostRequest 0x14 (.wakeStation station))

/-- READ-STATION (R38). -/
def execReadStation (station : Byte) (s : State) : Result :=
  .next (s.hostRequest 0x15 (.readStation station))

/-- READ-JAM (R123). -/
def execReadJam (station : Byte) (s : State) : Result :=
  .next (s.hostRequest 0x16 (.readJam station))

/-- READ-METERS (R22). -/
def execReadMeters (station : Byte) (s : State) : Result :=
  .next (s.hostRequest 0x17 (.readMeters station))

/-- OPEN-SESSION (R64). -/
def execOpenSession (station : Byte) (amount hostRef : BitVec 32) (s : State) : Result :=
  .next (s.hostRequest 0x20 (.openSession station amount hostRef))

/-- END-SESSION (R69). -/
def execEndSession (station : Byte) (s : State) : Result :=
  .next (s.hostRequest 0x21 (.endSession station))

/-- READ-SESSION (R74). -/
def execReadSession (station : Byte) (s : State) : Result :=
  .next (s.hostRequest 0x22 (.readSession station))

/-- READ-AUTH (R60). -/
def execReadAuth (station : Byte) (s : State) : Result :=
  .next (s.hostRequest 0x23 (.readAuth station))

/-- AUTH-RESULT (R61). -/
def execAuthResult (station : Byte) (authRef : BitVec 16) (amount : BitVec 32) (s : State) : Result :=
  .next (s.hostRequest 0x24 (.authResult station authRef amount))

/-- LOAD-PLAN (R77). -/
def execLoadPlan (plan : Byte) (fields : List (BitVec 16)) (s : State) : Result :=
  .next (s.hostRequest 0x30 (.loadPlan plan fields))

/-- AMEND-PLAN (R78). -/
def execAmendPlan (plan : Byte) (mask : BitVec 16) (values : List (BitVec 16)) (s : State) : Result :=
  .next (s.hostRequest 0x31 (.amendPlan plan mask values))

/-- READ-PLAN (R79). -/
def execReadPlan (plan : Byte) (s : State) : Result :=
  .next (s.hostRequest 0x32 (.readPlan plan))

/-- QUOTE (R80). -/
def execQuote (plan rate tier kind : Byte) (s : State) : Result :=
  .next (s.hostRequest 0x33 (.quote plan rate tier kind))

/-- LOAD-ACCOUNT (R134, R135). -/
def execLoadAccount (slot : BitVec 16) (identity : BitVec 40) (kind state rate : Byte)
    (figures : List (BitVec 32)) (s : State) : Result :=
  .next (s.hostRequest 0x40 (.loadAccount slot identity kind state rate figures))

/-- READ-ACCOUNT (R136). -/
def execReadAccount (slot : BitVec 16) (s : State) : Result :=
  .next (s.hostRequest 0x41 (.readAccount slot))

/-- FIND-ACCOUNT (R137). -/
def execFindAccount (identity : BitVec 40) (s : State) : Result :=
  .next (s.hostRequest 0x42 (.findAccount identity))

/-- TOPUP (R138). -/
def execTopup (slot : BitVec 16) (amount : BitVec 32) (s : State) : Result :=
  .next (s.hostRequest 0x43 (.topup slot amount))

/-- SET-LIMIT (R139). -/
def execSetLimit (slot : BitVec 16) (limit : BitVec 32) (s : State) : Result :=
  .next (s.hostRequest 0x44 (.setLimit slot limit))

/-- SET-ACCOUNT-STATE (R140). -/
def execSetAccountState (slot : BitVec 16) (state : Byte) (s : State) : Result :=
  .next (s.hostRequest 0x45 (.setAccountState slot state))

/-- DELETE-ACCOUNT (R141). -/
def execDeleteAccount (slot : BitVec 16) (s : State) : Result :=
  .next (s.hostRequest 0x46 (.deleteAccount slot))

/-- READ-JOURNAL (R158). -/
def execReadJournal (s : State) : Result :=
  .next (s.hostRequest 0x50 .readJournal)

/-- RELEASE-JOURNAL (R159). -/
def execReleaseJournal (serial : BitVec 32) (s : State) : Result :=
  .next (s.hostRequest 0x51 (.releaseJournal serial))

end Sys2Proof.Machine
end

