-- ==== Sys2Proof/Machine/EventCommands.lean ====
section
/-! DEFINITION. The meanings of the events of the lines, timers, readers and supply. -/

namespace Sys2Proof.Machine

/-- HOST_FRAME_COMPLETE (R163). -/
def execHostFrameComplete (kind : Byte) (body : List Byte) (check : BitVec 16) (s : State) : Result :=
  .next (s.frameCompletes kind body check)

/-- HOST_FRAME_GAP_TIMEOUT (R162). -/
def execHostFrameGapTimeout (s : State) : Result :=
  .next (s.gapPasses)

/-- REQUEST_TAKEN (R164). -/
def execRequestTaken (s : State) : Result :=
  .next (s.takeRequest)

/-- REPLY_SENT (R164, R171). -/
def execReplySent (pieces : Option Nat) (s : State) : Result :=
  .next (s.replyEnds pieces)

/-- RAW_LEVEL_CHANGE (R1). -/
def execRawLevelChange (i : StationId) (line : Line) (level : Bool) (s : State) : Result :=
  .next (s.rawChange i line level)

/-- LINE_LEVEL_RECOGNIZED (R1, R3): of a line and level with an event, that event as well. -/
def execLineLevelRecognized (i : StationId) (line : Line) (level : Bool) (s : State) : Result :=
  .next (s.recognize i line level)

/-- FEED (R8). -/
def execFeed (i : StationId) (s : State) : Result :=
  .next (s.recognize i .feed true)

/-- DELIVERY (R11). -/
def execDelivery (i : StationId) (s : State) : Result :=
  .next (s.recognize i .deliver true)

/-- JAM_RISE (R33). -/
def execJamRise (i : StationId) (s : State) : Result :=
  .next (s.recognize i .jam true)

/-- JAM_FALL (R34). -/
def execJamFall (i : StationId) (s : State) : Result :=
  .next (s.recognize i .jam false)

/-- READY_RISE (R32). -/
def execReadyRise (i : StationId) (s : State) : Result :=
  .next (s.recognize i .ready true)

/-- READY_FALL (R31). -/
def execReadyFall (i : StationId) (s : State) : Result :=
  .next (s.recognize i .ready false)

/-- STOPPED_RISE (R98). -/
def execStoppedRise (i : StationId) (s : State) : Result :=
  .next (s.recognize i .stopped true)

/-- TRANSIT_EXPIRY (R16). -/
def execTransitExpiry (i : StationId) (s : State) : Result :=
  .next (s.transitExpires i)

/-- IDLE_TIMER_EXPIRY (R39). -/
def execIdleTimerExpiry (i : StationId) (timer : TimerId) (s : State) : Result :=
  .next (s.idleExpires i timer)

/-- AUTH_TIMER_EXPIRY (R59). -/
def execAuthTimerExpiry (i : StationId) (s : State) : Result :=
  .next (s.authExpires i)

/-- PAUSE_ACK_EXPIRY (R99). -/
def execPauseAckExpiry (i : StationId) (s : State) : Result :=
  .next (s.pauseAckExpires i)

/-- PURGE_WINDOW_EXPIRY (R118). -/
def execPurgeWindowExpiry (i : StationId) (s : State) : Result :=
  .next (s.purgeExpires i)

/-- SCRUB_VISIT (R131). -/
def execScrubVisit (s : State) : Result :=
  .next (s.scrub)

/-- TIME_BASE_TICK (R147). -/
def execTimeBaseTick (s : State) : Result :=
  .next (s.secondPasses)

/-- PERIOD_ALARM_DUE (R146). -/
def execPeriodAlarmDue (s : State) : Result :=
  .next (s.alarmFalls)

/-- CARD_FRAME (R53). -/
def execCardFrame (i : StationId) (card : Card) (s : State) : Result :=
  .next (s.cardArrives i card)

/-- END_FRAME (R66). -/
def execEndFrame (i : StationId) (s : State) : Result :=
  .next (s.endArrives i)

/-- MALFORMED_FRAME (R47). -/
def execMalformedFrame (i : StationId) (s : State) : Result :=
  .next (s.malformedArrives i)

/-- READER_GAP_TIMEOUT (R47). -/
def execReaderGapTimeout (i : StationId) (s : State) : Result :=
  .next (s.readerGap i)

/-- INDICATOR_FRAME_SENT (R48). -/
def execIndicatorFrameSent (i : StationId) (s : State) : Result :=
  .next (s.indicatorSent i)

/-- PFAIL_ASSERTED (R176, R177). -/
def execPfailAsserted (s : State) : Result :=
  .next (s.pfailRises)

/-- SUPPLY_FAILURE (R178, R181). -/
def execSupplyFailure (vbatHolds : Bool) (s : State) : Result :=
  .next (s.supplyFails vbatHolds)

/-- SUPPLY_RETURN (R176, R179). -/
def execSupplyReturn (pieces : Option Nat) (s : State) : Result :=
  .next (s.supplyReturns pieces)

/-- RESET_PIN_ASSERTED (R179). -/
def execResetPinAsserted (s : State) : Result :=
  .next (s.resetAsserts)

/-- RESET_PIN_DEASSERTED (R179). -/
def execResetPinDeasserted (pieces : Option Nat) (s : State) : Result :=
  .next (s.resetDeasserts pieces)

/-- HOST_START_BYTE (R162). -/
def execHostStartByte (s : State) : Result :=
  .next (s.startByte)

/-- HOST_BAD_LENGTH_BYTE (R162). -/
def execHostBadLengthByte (length : Byte) (s : State) : Result :=
  .next (s.badLength length)

/-- READER_START_BYTE (R47). -/
def execReaderStartByte (i : StationId) (s : State) : Result :=
  .next (s.readerStart i)

/-- READER_IDLE_RESUME (R47). -/
def execReaderIdleResume (i : StationId) (s : State) : Result :=
  .next (s.readerIdle i)

end Sys2Proof.Machine
end

