-- ==== Sys2Proof/Machine/Dispatch.lean ====
section
/-! DEFINITION. The meaning of each command, on everything but the queue. -/

namespace Sys2Proof.Machine

def exec (i : Instr) (s : State) : Host.Outcome State Fault Refusal :=
  match i with
  | .getStatus => Sys2Proof.Machine.execGetStatus s
  | .setTime stamp => Sys2Proof.Machine.execSetTime stamp s
  | .setPeriodAlarm presence stamp => Sys2Proof.Machine.execSetPeriodAlarm presence stamp s
  | .turnPeriod => Sys2Proof.Machine.execTurnPeriod s
  | .setDevice mask => Sys2Proof.Machine.execSetDevice mask s
  | .reset => Sys2Proof.Machine.execReset s
  | .clearAll => Sys2Proof.Machine.execClearAll s
  | .takeNotice => Sys2Proof.Machine.execTakeNotice s
  | .setProfile station profile => Sys2Proof.Machine.execSetProfile station profile s
  | .readProfile station => Sys2Proof.Machine.execReadProfile station s
  | .startStation station => Sys2Proof.Machine.execStartStation station s
  | .stopStation station => Sys2Proof.Machine.execStopStation station s
  | .wakeStation station => Sys2Proof.Machine.execWakeStation station s
  | .readStation station => Sys2Proof.Machine.execReadStation station s
  | .readJam station => Sys2Proof.Machine.execReadJam station s
  | .readMeters station => Sys2Proof.Machine.execReadMeters station s
  | .openSession station amount hostRef => Sys2Proof.Machine.execOpenSession station amount hostRef s
  | .endSession station => Sys2Proof.Machine.execEndSession station s
  | .readSession station => Sys2Proof.Machine.execReadSession station s
  | .readAuth station => Sys2Proof.Machine.execReadAuth station s
  | .authResult station authRef amount => Sys2Proof.Machine.execAuthResult station authRef amount s
  | .loadPlan plan fields => Sys2Proof.Machine.execLoadPlan plan fields s
  | .amendPlan plan mask values => Sys2Proof.Machine.execAmendPlan plan mask values s
  | .readPlan plan => Sys2Proof.Machine.execReadPlan plan s
  | .quote plan rate tier kind => Sys2Proof.Machine.execQuote plan rate tier kind s
  | .loadAccount slot identity kind state rate figures => Sys2Proof.Machine.execLoadAccount slot identity kind state rate figures s
  | .readAccount slot => Sys2Proof.Machine.execReadAccount slot s
  | .findAccount identity => Sys2Proof.Machine.execFindAccount identity s
  | .topup slot amount => Sys2Proof.Machine.execTopup slot amount s
  | .setLimit slot limit => Sys2Proof.Machine.execSetLimit slot limit s
  | .setAccountState slot state => Sys2Proof.Machine.execSetAccountState slot state s
  | .deleteAccount slot => Sys2Proof.Machine.execDeleteAccount slot s
  | .readJournal => Sys2Proof.Machine.execReadJournal s
  | .releaseJournal serial => Sys2Proof.Machine.execReleaseJournal serial s
  | .hostFrameComplete kind body check => Sys2Proof.Machine.execHostFrameComplete kind body check s
  | .hostFrameGapTimeout => Sys2Proof.Machine.execHostFrameGapTimeout s
  | .requestTaken => Sys2Proof.Machine.execRequestTaken s
  | .replySent pieces => Sys2Proof.Machine.execReplySent pieces s
  | .rawLevelChange station line level => Sys2Proof.Machine.execRawLevelChange station line level s
  | .lineLevelRecognized station line level => Sys2Proof.Machine.execLineLevelRecognized station line level s
  | .feed station => Sys2Proof.Machine.execFeed station s
  | .delivery station => Sys2Proof.Machine.execDelivery station s
  | .jamRise station => Sys2Proof.Machine.execJamRise station s
  | .jamFall station => Sys2Proof.Machine.execJamFall station s
  | .readyRise station => Sys2Proof.Machine.execReadyRise station s
  | .readyFall station => Sys2Proof.Machine.execReadyFall station s
  | .stoppedRise station => Sys2Proof.Machine.execStoppedRise station s
  | .transitExpiry station => Sys2Proof.Machine.execTransitExpiry station s
  | .idleTimerExpiry station timer => Sys2Proof.Machine.execIdleTimerExpiry station timer s
  | .authTimerExpiry station => Sys2Proof.Machine.execAuthTimerExpiry station s
  | .pauseAckExpiry station => Sys2Proof.Machine.execPauseAckExpiry station s
  | .purgeWindowExpiry station => Sys2Proof.Machine.execPurgeWindowExpiry station s
  | .scrubVisit => Sys2Proof.Machine.execScrubVisit s
  | .timeBaseTick => Sys2Proof.Machine.execTimeBaseTick s
  | .periodAlarmDue => Sys2Proof.Machine.execPeriodAlarmDue s
  | .cardFrame station card => Sys2Proof.Machine.execCardFrame station card s
  | .endFrame station => Sys2Proof.Machine.execEndFrame station s
  | .malformedFrame station => Sys2Proof.Machine.execMalformedFrame station s
  | .readerGapTimeout station => Sys2Proof.Machine.execReaderGapTimeout station s
  | .indicatorFrameSent station => Sys2Proof.Machine.execIndicatorFrameSent station s
  | .pfailAsserted => Sys2Proof.Machine.execPfailAsserted s
  | .supplyFailure vbatHolds => Sys2Proof.Machine.execSupplyFailure vbatHolds s
  | .supplyReturn pieces => Sys2Proof.Machine.execSupplyReturn pieces s
  | .resetPinAsserted => Sys2Proof.Machine.execResetPinAsserted s
  | .resetPinDeasserted pieces => Sys2Proof.Machine.execResetPinDeasserted pieces s
  | .hostStartByte => Sys2Proof.Machine.execHostStartByte s
  | .hostBadLengthByte length => Sys2Proof.Machine.execHostBadLengthByte length s
  | .readerStartByte station => Sys2Proof.Machine.execReaderStartByte station s
  | .readerIdleResume station => Sys2Proof.Machine.execReaderIdleResume station s

end Sys2Proof.Machine
end

