-- ==== Sys2Proof/Machine/Idle.lean ====
section
/-! DEFINITION. What the part does by itself while no command waits (log 3): it goes on with a restart, makes
the event that is due, or lets one millisecond pass. -/

namespace Sys2Proof.Machine

/-! ### The events that are due (log 4) -/

/-- An instant has been reached. -/
def reached (now : Nat) : Option Nat → Bool
  | none => false
  | some t => decide (t ≤ now)

/-- The recognition whose window has elapsed on a line of station `i` (R1). -/
def State.lineDue (s : State) (i : StationId) (n : Line) : Option Instr :=
  if reached s.now ((s.station i).elapses n) then
    match n, ((s.station i).lines.get n).level with
    | .feed, false => some (.feed i)
    | .deliver, false => some (.delivery i)
    | .jam, false => some (.jamRise i)
    | .jam, true => some (.jamFall i)
    | .ready, false => some (.readyRise i)
    | .ready, true => some (.readyFall i)
    | .stopped, false => some (.stoppedRise i)
    | _, level => some (.lineLevelRecognized i n (!level))
  else none

/-- An idle timer has reached its expiry (R39). -/
def State.idleDue (s : State) (i : StationId) (t : TimerId) : Bool :=
  match (s.station i).timer t with
  | .running expiry => decide (expiry ≤ s.now)
  | _ => false

/-- The authorization timer of an AUTHORIZING session has expired (R59). -/
def State.authDue (s : State) (i : StationId) : Bool :=
  reached s.now (s.station i).authTimer && (s.station i).session.any Session.authorizing

/-- The pause-ack timer of a HOLDING session has expired (R99). -/
def State.pauseAckDue (s : State) (i : StationId) : Bool :=
  reached s.now (s.station i).pauseTimer &&
    (s.station i).session.any fun x => !x.suspended && decide (x.phase = .holding)

/-- The purge window of a RECOVER station has ended (R118). -/
def State.purgeDue (s : State) (i : StationId) : Bool :=
  reached s.now (s.station i).purgeTimer && decide ((s.station i).state = .recover)

/-- The order in which the idle step takes the lines of a station whose windows elapse at one instant: READY before
JAM, as the two rises one level window after a restart come (R186; log 4). -/
def dueLines : List Line := [.feed, .deliver, .colour, .large, .duplex, .ready, .jam, .stopped]

/-- The first event due at a station: its lines, the transit timer, the idle timers, the others. -/
def State.stationDue (s : State) (i : StationId) : Option Instr :=
  match dueLines.findSome? (s.lineDue i) with
  | some c => some c
  | none =>
      if s.transitDue i then some (.transitExpiry i)
      else if s.idleDue i .a then some (.idleTimerExpiry i .a)
      else if s.idleDue i .b then some (.idleTimerExpiry i .b)
      else if s.authDue i then some (.authTimerExpiry i)
      else if s.pauseAckDue i then some (.pauseAckExpiry i)
      else if s.purgeDue i then some (.purgeWindowExpiry i)
      else none

/-- The event due, if one is: a queued frame to take, then the events of the stations in turn, the scrub, the
period alarm, the second of the time base. -/
def State.due (s : State) : Option Instr :=
  if s.alive ∧ s.reply = none ∧ s.receiveQueue ≠ [] then some .requestTaken
  else
    match if s.running then allStations.findSome? s.stationDue else none with
    | some c => some c
    | none =>
        if s.running ∧ reached s.now s.scrubDue then some .scrubVisit
        else if s.running ∧ s.alarmDue then some .periodAlarmDue
        else if s.timeRuns ∧ 1000 ≤ s.divider then some .timeBaseTick
        else none

/-! ### A millisecond -/

/-- More damage to a slot's content (R132): what could no longer be corrected stays so, and correctable damage
leaves no content sound (log 32). -/
def Damage.worsen (d : Damage) (correctable : Bool) : Damage :=
  match d with
  | .uncorrectable => .uncorrectable
  | _ => if correctable then .correctable else .uncorrectable

/-- The table after the damage that one millisecond brings (R132; log 13). -/
def harmSlots (d : Option (Nat × Bool)) : List (Nat × Slot) → List (Nat × Slot)
  | [] => []
  | (m, x) :: rest =>
      (m, match d with
        | none => x
        | some (n, correctable) =>
            if n = m then { x with damage := x.damage.worsen correctable } else x) :: harmSlots d rest

/-- One millisecond passes (log 3): the interval count in RUNNING, the time base wherever it is supplied (R147),
and whatever damage the time brings to the account memory (R132). -/
def State.tick (s : State) : State :=
  { s with
    now := if s.running then s.now + 1 else s.now
    divider := if s.timeRuns then s.divider + 1 else s.divider
    slots := harmSlots (Config.memoryDamage s.freeCount) s.slots
    freeCount := s.freeCount + 1 }

/-- The step with no command waiting (log 3). -/
def State.idle (s : State) : Result :=
  if s.restart.isSome then .next s.restartStep
  else
    match s.due with
    | some c => exec c s
    | none => .next s.tick

end Sys2Proof.Machine
end

