-- ==== Sys2Proof/Safety.lean ====
section
/-! DEFINITION. What is true of the part at every moment of a sound run: the promises of the spec that hold
between any two events, each a predicate on states. -/

namespace Sys2Proof.Machine

/-! ### Bounded storage -/

/-- A station's lists are within their capacities: the path (R7), the waiting indicator frames (R48), the
in-doubt list (R110). -/
def Station.Bounded (st : Station) : Prop :=
  st.path.length ≤ Config.pathCapacity ∧
  st.reader.waiting.length ≤ Config.indicatorCapacity ∧
  ∀ r ∈ st.jam, r.listed.length ≤ Config.doubtCapacity

/-- Every list of the part is within its capacity, the receive queue (R163) too. -/
def State.Bounded (s : State) : Prop :=
  (∀ i, (s.station i).Bounded) ∧ s.receiveQueue.length ≤ Config.receiveQueueCapacity

/-! ### The notice set (R172) -/

/-- The kinds posted for the device as a whole (R172). -/
def NoticeKind.forDevice : NoticeKind → Bool
  | .powerFail => true
  | .memoryFault => true
  | .journalLow => true
  | .memoryCorrected => true
  | .periodTurned => true
  | _ => false

/-- An entry's station fits its kind's scope: 0 for a device kind, 1 to 8 for a station kind (R172). -/
def Notice.Scoped (n : Notice) : Prop :=
  n.station ≤ 8 ∧ (n.station = 0 ↔ n.kind.forDevice = true)

/-- The pending set is in its canonical form, no pair twice, every entry within its scope. -/
def State.NoticesKept (s : State) : Prop :=
  s.notices.Pairwise (fun m n => m.rank < n.rank) ∧ ∀ n ∈ s.notices, n.Scoped

/-! ### The account table -/

/-- The account table is in its canonical form (R124). -/
def State.SlotsKept (s : State) : Prop := slotsWf s.slots = true

/-- No two slots hold one identity (R125). -/
def State.IdentitiesDistinct (s : State) : Prop :=
  s.slots.Pairwise fun p q => p.2.identity ≠ q.2.identity

/-- An account's figures bear its held (R126): the balance, or the limit less the stored spent. -/
def Account.Solvent (a : Account) : Prop :=
  match a.figures with
  | .prepaid balance => a.held ≤ balance
  | .department limit spent _ => spent + a.held ≤ limit

/-- Every slot that is not SUSPECT holds exactly what its bound sessions hold, and counts them (R126). -/
def State.HoldsMatch (s : State) : Prop :=
  ∀ n x, s.slot n = some x → x.suspect = false →
    x.account.held = s.boundHold n ∧ x.account.openCount = (s.bound n).length ∧
      x.account.Solvent

/-- Every CAMPUS session is bound to a slot that is not FREE (R126, R141). -/
def State.BoundSlotsHeld (s : State) : Prop :=
  ∀ i x n, (s.station i).session = some x → x.payment = .campus n → (s.slot n).isSome

/-- Only BANK sessions are AUTHORIZING, or SUSPENDED from it (R51, R57). -/
def State.AuthorizationsKept (s : State) : Prop :=
  ∀ i x, (s.station i).session = some x → x.phase = .authorizing → ∃ r token, x.payment = .bank r token

/-! ### The journal (R153, R154) -/

/-- One reservation stands for each session (R153); records and reservations fit the journal, with one place more
while a session exists (R154, R157); a full journal's newest record is a RESTART record (R156, R157). -/
def State.JournalKept (s : State) : Prop :=
  s.reservations = s.sessions.length ∧
  s.journal.length + s.reservations ≤ Config.journalCapacity ∧
  (s.reservations ≠ 0 → s.journal.length + s.reservations < Config.journalCapacity) ∧
  (s.journal.length = Config.journalCapacity → ∃ r, s.journal.getLast? = some (.restart r))

/-! ### Money (R86, R88, R89) -/

/-- A station's money is whole: each COVERED sheet of the path belongs to the station's session, its pending
tenths are their prices, and what is charged and pending lies within the hold (R86). While the session is
AUTHORIZING nothing is charged and no sheet is COVERED (R57, R87). -/
def Station.MoneyKept (st : Station) : Prop :=
  match st.session with
  | none => ∀ e ∈ st.path, e.isCovered = false
  | some x =>
      (∀ e ∈ st.path, e.isCovered = true → e.serial = some x.serial) ∧
      x.pending = (st.path.map Sheet.coveredPrice).sum ∧
      x.charged + x.pending ≤ 10 * x.hold ∧
      (x.phase = .authorizing → x.charged = 0 ∧ ∀ e ∈ st.path, e.isCovered = false)

/-- Every station's money is whole. -/
def State.MoneyKept (s : State) : Prop := ∀ i, (s.station i).MoneyKept

/-! ### Session counts (R73) -/

/-- Each count of a session is within its top, where it saturates: the extend count within 255 (R65), the others
within 4,294,967,295 (R73, R89). -/
def Session.CountsKept (x : Session) : Prop :=
  x.fed ≤ Config.top32 ∧ (∀ k : Kind, x.covered[k.val] ≤ Config.top32) ∧ x.uncovered ≤ Config.top32 ∧
  x.uncoveredValue ≤ Config.top32 ∧ x.unpermitted ≤ Config.top32 ∧ x.jammed ≤ Config.top32 ∧
  x.extendCount ≤ 255

/-- Every session's counts are within their tops. -/
def State.CountsKept (s : State) : Prop := ∀ i, ∀ x ∈ (s.station i).session, x.CountsKept

/-! ### Jams (R107, R108) -/

/-- The jam record is OPEN. -/
def Station.jamOpen (st : Station) : Bool := st.jam.any fun r => r.lost.isNone

/-- A station has an OPEN jam record exactly while it is JAMMED or RECOVER (R108, R111, R118, R29). -/
def Station.JamKept (st : Station) : Prop :=
  st.jamOpen = true ↔ st.state = .jammed ∨ st.state = .recover

/-- Every station's jam record agrees with its state. -/
def State.JamsKept (s : State) : Prop := ∀ i, (s.station i).JamKept

/-! ### The restart in progress (R182 to R184) -/

/-- What the pieces made so far of a restart have left: the paths written off are empty, the sessions settled
are NONE (R183, R184). -/
def State.RestartKept (s : State) : Prop :=
  ∀ r ∈ s.restart, ∀ i : StationId,
    (9 + i.val < r.next → (s.station i).path = []) ∧
    (17 + i.val < r.next → (s.station i).session = none)

/-- Everything a sound run keeps. -/
structure State.Sound (s : State) : Prop where
  bounded : s.Bounded
  notices : s.NoticesKept
  slots : s.SlotsKept
  identities : s.IdentitiesDistinct
  holds : s.HoldsMatch
  boundSlots : s.BoundSlotsHeld
  authorizations : s.AuthorizationsKept
  journal : s.JournalKept
  money : s.MoneyKept
  counts : s.CountsKept
  jams : s.JamsKept
  restart : s.RestartKept

/-! ### When a command is served -/

/-- The host line is free and the part works: a request sent now is taken at once (R164). -/
def State.LineFree (s : State) : Prop := s.alive = true ∧ s.reply = none ∧ s.receiveQueue = []

/-- The host line is free in the RUNNING device: a request sent now is answered by its owning rule. -/
def State.Serving (s : State) : Prop := s.LineFree ∧ s.device = .running

/-- The part once it has begun a reply of kind `kind` with a status code and fields (R165). -/
def State.replied (s : State) (kind status : Byte) (fields : List Byte) : State :=
  { s with
    hostCondition := .hunting
    reply := some { kind := kind, body := status :: fields, restarts := false } }

/-! ### What a change of pending leaves of a session -/

/-- The session's tier and ceiling after a change, from record `x` to record `y`, that leaves `path` in its station's
path: the tier that the covered count reaches (R82), and the ceiling of that tier where it changed (R85). -/
def Session.Tiered (x y : Session) (path : List Sheet) : Prop :=
  y.tier = x.plan.tierFor (min 65535 (y.covered.toList.sum +
    (path.filter fun e => decide (e.serial = some x.serial) && e.isCovered).length)) ∧
  y.ceiling = if y.tier = x.tier then x.ceiling else x.plan.ceilingAt x.rate y.tier

/-- What the hand-over of `path` to a jam leaves of the session's record (R112, R90): each sheet that carries its
serial counts as jammed, the prices of the COVERED ones leave pending, nothing is charged, tier and ceiling follow.
The phase, FORCED and the pause are the pause evaluation's. -/
def Session.Released (x y : Session) (path : List Sheet) : Prop :=
  (∃ tier ceiling phase forced, y = { x with
    jammed := min 4294967295 (x.jammed + (path.filter fun e => decide (e.serial = some x.serial)).length)
    pending := x.pending -
      ((path.filter fun e => decide (e.serial = some x.serial)).map fun e =>
        match e.coverage with
        | .covered p => p
        | _ => 0).sum
    tier := tier, ceiling := ceiling, phase := phase, forced := forced }) ∧
  x.Tiered y []

/-- The outcome of a pause evaluation (R93 to R96, R102), at instant `now`, that finds the session in the phase of `x`
and leaves it as `y`: with the pause condition true an ACTIVE session becomes HOLDING with the pause-ack timer and
PAUSED to the reader, and another stays; with it false a HOLDING or HELD session becomes ACTIVE with ACCEPT to the
reader, and an ACTIVE one stays. -/
def Station.PauseFollows (before after : Station) (now : Nat) (x y : Session) : Prop :=
  if y.pauseCondition before.profile then
    if x.phase = .active then
      y.phase = .holding ∧ y.forced = x.forced ∧ after.pauseTimer = some (now + 1000 * before.profile.pauseAck) ∧
        after.reader = before.reader.produce (.paused ((10 * y.hold - y.charged - y.pending) / 10))
    else
      y.phase = x.phase ∧ y.forced = x.forced ∧ after.pauseTimer = before.pauseTimer ∧ after.reader = before.reader
  else if x.phase = .active then
    y.phase = x.phase ∧ y.forced = x.forced ∧ after.pauseTimer = before.pauseTimer ∧ after.reader = before.reader
  else
    y.phase = .active ∧ y.forced = false ∧ after.pauseTimer = none ∧
      after.reader = before.reader.produce (.accept y.hold)

/-- The pending notices after that evaluation at station `i` (R95): PAUSED where the session became HOLDING. -/
def pauseNotices (before : Station) (i : StationId) (x y : Session) (notices : List Notice) : List Notice :=
  if y.pauseCondition before.profile ∧ x.phase = .active then insertNotice ⟨.paused, i.val + 1⟩ notices
  else notices

/-- The station with the idle timer of a linked activity reloaded (R40): unchanged while OFFLINE and for a duration
of NONE. -/
def Station.Reloaded (before : Station) (now : Nat) (link : TimerId) (after : Station) : Prop :=
  (∀ d, before.state ≠ .offline → before.duration link = some d →
    after.timer link = .running (now + 1000 * d)) ∧
  (before.state = .offline ∨ before.duration link = none → after.timer link = before.timer link) ∧
  ∀ other, other ≠ link → after.timer other = before.timer other

/-! ### What a delivery leaves -/

/-- The meters after the delivery of sheet `e` (R11, R20): delivered for its kind, and the one of its coverage. -/
def Meters.afterDelivery (m : Meters) (e : Sheet) : Meters :=
  { m with
    delivered := m.delivered.set e.kind.val ((m.delivered[e.kind.val] + 1) % 100000000)
    uncovered := match e.coverage with
      | .uncovered _ => (m.uncovered + 1) % 100000000
      | _ => m.uncovered
    unpermitted := match e.coverage with
      | .unpermitted => (m.unpermitted + 1) % 100000000
      | _ => m.unpermitted }

/-- The record of a session after the delivery of sheet `e` that carries its serial (R89): a COVERED price moves from
pending to charged, an UNCOVERED sheet is counted with its would-be price, an UNPERMITTED one is counted. -/
def Session.afterDelivery (x : Session) (e : Sheet) : Session :=
  match e.coverage with
  | .covered p =>
      { x with
        charged := x.charged + p
        pending := x.pending - p
        covered := x.covered.set e.kind.val (min 4294967295 (x.covered[e.kind.val] + 1)) }
  | .uncovered p =>
      { x with
        uncovered := min 4294967295 (x.uncovered + 1)
        uncoveredValue := min 4294967295 (x.uncoveredValue + p) }
  | .unpermitted => { x with unpermitted := min 4294967295 (x.unpermitted + 1) }

/-! ### Refused frames -/

/-- The station once a frame of its reader is refused (R49): the REFUSE frame is produced, the refusal is the last
one, and the port is left in the given condition. -/
def Station.refused (st : Station) (refusal : LastRefusal) (condition : ReaderCondition) : Station :=
  { st with
    lastRefusal := some refusal
    reader := ({ st.reader with condition := condition } : ReaderPort).produce (.refuse refusal.reason) }

/-- What a refused frame leaves of a part whose station `i` was in SAVE (R45): the station wakes into READY and the
linked timer is reloaded; where that timer has no duration and the station is quiet, it is back in SAVE at the end of
the event. -/
def State.RefusedInSave (s : State) (i : StationId) (refusal : LastRefusal) (condition : ReaderCondition)
    (t : State) : Prop :=
  let woken : Station := { (s.station i).refused refusal condition with state := .ready }
  let link := (s.station i).profile.linkCard
  let posted := insertNotice ⟨.cardRefused, i.val + 1⟩ (insertNotice ⟨.stationChange, i.val + 1⟩ s.notices)
  (∀ d, (s.station i).duration link = some d →
    t = { s.setStation i (woken.setTimer link (.running (s.now + 1000 * d))) with notices := posted }) ∧
  ((s.station i).duration link = none → (s.station i).quiet = true → (s.station i).path = [] →
    t = { s.setStation i { woken with state := .save } with
      notices := insertNotice ⟨.stationChange, i.val + 1⟩ posted })

/-! ### Account figures -/

/-- The credit of an account's figures beside `held`, in period `period`, and the figures as a write aligns them
(R126, R127). -/
def Figures.Credits (f : Figures) (held period credit : Nat) (aligned : Figures) : Prop :=
  match f with
  | .prepaid balance => credit = balance - held ∧ aligned = .prepaid balance
  | .department limit spent p =>
      credit = limit - (if p = period then spent else 0) - held ∧
        aligned = .department limit (if p = period then spent else 0) period

/-! ### Events at a station -/

/-- The station whose lines, timers or reader a command is an event of. -/
def eventStation : Instr → Option StationId
  | .rawLevelChange i _ _ => some i
  | .lineLevelRecognized i _ _ => some i
  | .feed i => some i
  | .delivery i => some i
  | .jamRise i => some i
  | .jamFall i => some i
  | .readyRise i => some i
  | .readyFall i => some i
  | .stoppedRise i => some i
  | .transitExpiry i => some i
  | .idleTimerExpiry i _ => some i
  | .authTimerExpiry i => some i
  | .pauseAckExpiry i => some i
  | .purgeWindowExpiry i => some i
  | .cardFrame i _ => some i
  | .endFrame i => some i
  | .malformedFrame i => some i
  | .readerGapTimeout i => some i
  | .indicatorFrameSent i => some i
  | .readerStartByte i => some i
  | .readerIdleResume i => some i
  | _ => none

end Sys2Proof.Machine
end

