-- ==== Sys2Proof/Certificates/Slice0/Obligations.lean ====
section
/-! DEFINITION. The statements for the provers: what the numbered rules of spec/ say the commands and the part do. -/

open Sys2Proof Sys2Proof.Machine

/-! ## The queue and the host line -/

/-- The task's own statement in place of a fetch: a step runs the command at the front of the queue, with the
queue's rest. The model's choice of logs 3 and 4: with no command and no restart in progress, a step runs the
event that is due. The model's choice of logs 3, 13 and 28: with no command, no restart and nothing due, a
step lets one millisecond pass. It touches no more than the interval count, the divider of the time base, the
check-code condition of account content and the counter of the free value. -/
def Obligations.StepRunsFrontCommand : Prop :=
  (∀ (s : State) (c : Instr) (rest : List Instr), s.pending = c :: rest →
      step s = exec c { s with pending := rest }) ∧
  (∀ (s : State) (c : Instr), s.pending = [] → s.restart = none → s.due = some c → step s = exec c s) ∧
  (∀ s : State, s.pending = [] → s.restart = none → s.due = none →
      ∃ slots, step s = .next { s with
          now := if s.running then s.now + 1 else s.now
          divider := if s.timeRuns then s.divider + 1 else s.divider
          slots := slots
          freeCount := s.freeCount + 1 } ∧
        ∀ n, (getSlot n slots).map (fun x => (x.identity, x.suspect, x.account)) =
          (s.slot n).map (fun x => (x.identity, x.suspect, x.account)))

/-- No command changes the queue of waiting commands: exec's effect is on everything but it. -/
def Obligations.ExecKeepsQueue : Prop :=
  ∀ (c : Instr) (s t : State), exec c s = .next t → t.pending = s.pending

/-- R162: the 0xC5 byte, the bad length byte and the gap: what condition each leaves the controller in. R163:
a complete frame joins the queue of at most 4, good or bad by its check, or is dropped; also where no start
byte came before the command, which is the model's choice (log 10). -/
def Obligations.HostFramesAssemble : Prop :=
  (∀ s : State, s.alive = true →
      exec .hostStartByte s = .next { s with hostCondition := .assembling } ∧
      exec .hostFrameGapTimeout s = .next { s with hostCondition := .hunting } ∧
      ∀ b : Byte, b.toNat = 0 ∨ 241 < b.toNat →
        exec (.hostBadLengthByte b) s = .next { s with hostCondition := .hunting }) ∧
  (∀ (s : State) (kind : Byte) (body : List Byte) (check : BitVec 16),
      s.alive = true → body.length ≤ 240 →
      exec (.hostFrameComplete kind body check) s = .next
        (if s.receiveQueue.length < 4 then
          { s with
            hostCondition := .hunting
            receiveQueue := s.receiveQueue ++
              [{ kind := kind, body := body,
                 good := decide (check = crc16 (BitVec.ofNat 8 (body.length + 1) :: kind :: body)) }] }
        else { s with hostCondition := .hunting, linkOverrun := true }))

/-- R164, R165, R187: the answers to a bad frame, to a kind that names no request, and to a body that does not
fit its kind. R164, R187, R188: a queued frame that carries a well-formed request is answered as the request
sent on a free line is: taking the frame loses nothing of the request. -/
def Obligations.TakenFramesAnswered : Prop :=
  (∀ (s : State) (f : HostFrame) (rest : List HostFrame),
      s.alive = true → s.reply = none → s.receiveQueue = f :: rest →
      (f.good = false → exec .requestTaken s = .next { s with
          receiveQueue := rest, reply := some { kind := 0xFF, body := [1], restarts := false } }) ∧
      (f.good = true → requestFields f.kind f.body = none → exec .requestTaken s = .next { s with
          receiveQueue := rest
          reply := some
            { kind := if f.kind.toNat < 128 then f.kind ||| 0x80 else 0xFF, body := [2], restarts := false } }) ∧
      (f.good = true → requestFields f.kind f.body ≠ none → bodyFits f.kind f.body = false →
        exec .requestTaken s = .next { s with
          receiveQueue := rest
          reply := some { kind := f.kind ||| 0x80, body := [3], restarts := false } })) ∧
  (∀ (s : State) (r : Instr) (kind : Byte) (rest : List HostFrame),
      requestCode r = some kind → r.wellFormed = true →
      s.alive = true → s.reply = none →
      s.receiveQueue = { kind := kind, body := requestBody r, good := true } :: rest →
      ∃ t, exec r { s with receiveQueue := [], hostCondition := .hunting } = .next t ∧
        exec .requestTaken s =
          .next { t with receiveQueue := rest, hostCondition := s.hostCondition })

/-- R163, R164, log 9: a request sent while a reply is going out or a frame waits joins the receive queue, or
is dropped with 4 queued; it is not acted on. R166: in SHUTDOWN every request but GET-STATUS, TAKE-NOTICE and
RESET is answered SHUTDOWN and changes nothing. -/
def Obligations.RequestsWaitOrAreRefused : Prop :=
  (∀ (s : State) (r : Instr) (kind : Byte), requestCode r = some kind → s.alive = true →
      (s.reply ≠ none ∨ s.receiveQueue ≠ []) →
      exec r s = .next
        (if s.receiveQueue.length < 4 then
          { s with
            hostCondition := .hunting
            receiveQueue := s.receiveQueue ++ [{ kind := kind, body := requestBody r, good := true }] }
        else { s with hostCondition := .hunting, linkOverrun := true })) ∧
  (∀ (s : State) (r : Instr) (kind : Byte), requestCode r = some kind → r.wellFormed = true →
      s.LineFree → s.device = .shutdown →
      r ≠ .getStatus → r ≠ .takeNotice → r ≠ .reset →
      exec r s = .next (s.replied (kind ||| 0x80) 15 []))

/-- R164, R165, R171: every well-formed request on a free line is answered with the reply of its kind; it
changes nothing of the waiting commands, the device state, the supply, the restart, the receive queue and the
scrub, and only RESET's reply is one after which the part restarts. The model's choices: the request is taken
and answered within its own step (log 9), SET-TIME leaves the phase of the second, the divider, as it is (log
28), and no request moves the model's own counter of free values (log 14). -/
def Obligations.EveryRequestIsAnswered : Prop :=
  ∀ (s : State) (r : Instr) (kind : Byte), requestCode r = some kind → r.wellFormed = true → s.LineFree →
    ∃ (t : State) (body : List Byte), exec r s = .next { t with
        hostCondition := .hunting
        reply := some { kind := kind ||| 0x80, body := body, restarts := decide (r = .reset) } } ∧
      body ≠ [] ∧ t.pending = s.pending ∧ t.device = s.device ∧ t.marker = s.marker ∧
      t.mainSupply = s.mainSupply ∧ t.pfail = s.pfail ∧ t.resetPin = s.resetPin ∧ t.cameUp = s.cameUp ∧
      t.restart = s.restart ∧ t.divider = s.divider ∧ t.scrubPosition = s.scrubPosition ∧
      t.scrubDue = s.scrubDue ∧ t.receiveQueue = s.receiveQueue ∧ t.freeCount = s.freeCount

/-- R187, R188: what decoding reads from the kind and body of an encoded well-formed request is that request,
whatever its operands. -/
def Obligations.RequestRoundTrip : Prop :=
  ∀ (r : Instr) (kind : Byte), requestCode r = some kind → r.wellFormed = true →
    parseRequest kind (requestBody r) = .request r

/-- R189: a CARD or END frame read byte by byte is the frame that was sent. R187: the check over the nine
ASCII digits 1 to 9, and its high byte sent first. -/
def Obligations.ReaderFrameRoundTripAndCheck : Prop :=
  (∀ (i : StationId) (c : Instr), ((∃ card, c = .cardFrame i card) ∨ c = .endFrame i) → c.wellFormed = true →
      readReaderFrame i (readerFrameBytes (readerContents c)).tail = c) ∧
  (crc16 [0x31, 0x32, 0x33, 0x34, 0x35, 0x36, 0x37, 0x38, 0x39] = 0x29B1#16 ∧
    ∀ (kind : Byte) (body : List Byte), ∃ hi lo : Byte,
      frameBytes kind body = 0xC5#8 :: BitVec.ofNat 8 (body.length + 1) :: kind :: (body ++ [hi, lo]) ∧
      hi ++ lo = crc16 (BitVec.ofNat 8 (body.length + 1) :: kind :: body))

/-! ## Device requests -/

/-- R147, R148: SET-TIME takes the stamp, clears TIME-UNSET and tests the period alarm. That the divider of
the time base stands is the model's choice (log 28). -/
def Obligations.SetTimeTakesStamp : Prop :=
  ∀ (s : State) (x : BitVec 32), s.Serving →
    ((∀ a, s.alarm = some a → x.toNat < a) → exec (.setTime x) s = .next
      (({ s with stamp := x.toNat, timeUnset := false } : State).replied 0x82 0
        (bytesOf 4 x ++ leBytes 2 s.period ++ [0]))) ∧
    (∀ a, s.alarm = some a → a ≤ x.toNat → exec (.setTime x) s = .next
      (({ s with
          stamp := x.toNat, timeUnset := false, alarm := none, period := (s.period + 1) % 65536
          notices := insertNotice ⟨.periodTurned, 0⟩ s.notices } : State).replied 0x82 0
        (bytesOf 4 x ++ leBytes 2 ((s.period + 1) % 65536) ++ [1])))

/-- R146: SET-PERIOD-ALARM in each of its cases: a bad flag, no alarm, an alarm ahead, an alarm reached. R144,
R145: TURN-PERIOD turns the period by one, posts PERIOD-TURNED and leaves the alarm. -/
def Obligations.PeriodRequests : Prop :=
  (∀ (s : State), s.Serving →
      (∀ (p : Byte) (x : BitVec 32), 1 < p.toNat →
        exec (.setPeriodAlarm p (some x)) s = .next (s.replied 0x83 4 [])) ∧
      exec (.setPeriodAlarm 0 none) s = .next
        (({ s with alarm := none } : State).replied 0x83 0 (0 :: leBytes 2 s.period)) ∧
      (∀ x : BitVec 32, s.stamp < x.toNat → exec (.setPeriodAlarm 1 (some x)) s = .next
        (({ s with alarm := some x.toNat } : State).replied 0x83 0
          (1 :: (leBytes 4 x.toNat ++ leBytes 2 s.period)))) ∧
      (∀ x : BitVec 32, x.toNat ≤ s.stamp → exec (.setPeriodAlarm 1 (some x)) s = .next
        (({ s with
            alarm := none, period := (s.period + 1) % 65536
            notices := insertNotice ⟨.periodTurned, 0⟩ s.notices } : State).replied 0x83 0
          (0 :: leBytes 2 ((s.period + 1) % 65536))))) ∧
  (∀ s : State, s.Serving → exec .turnPeriod s = .next
      (({ s with
          period := (s.period + 1) % 65536
          notices := insertNotice ⟨.periodTurned, 0⟩ s.notices } : State).replied 0x84 0
        (leBytes 2 ((s.period + 1) % 65536))))

/-- R169, R174: SET-DEVICE replaces the mask; a mask naming a kind beyond the 12 changes nothing. R167: GET-
STATUS clears the link-overrun flag and nothing else, in every device state; its reply begins with the device
state, the stamp, TIME-UNSET and the period. R167, R160, R188: GET-STATUS answers every field as it stands, in
any device state, and clears the link-overrun flag and nothing else. R170, R143, R133, R21, R38: CLEAR-ALL
with no session, and with one. -/
def Obligations.DeviceRequests : Prop :=
  (∀ (s : State) (m : BitVec 16), s.Serving →
      exec (.setDevice m) s = .next
        (if m.toNat < 4096 then ({ s with noticeMask := m } : State).replied 0x85 0 (bytesOf 2 m)
        else s.replied 0x85 4 [])) ∧
  (∀ s : State, s.LineFree → ∃ fields,
      exec .getStatus s = .next (({ s with linkOverrun := false } : State).replied 0x81 0
        ((if s.device = .running then 0 else 1) :: (leBytes 4 s.stamp ++
          ((if s.timeUnset then 1 else 0) :: (leBytes 2 s.period ++ fields)))))) ∧
  (∀ s : State, s.LineFree →
      exec .getStatus s = .next (({ s with linkOverrun := false } : State).replied 0x81 0
        ([if s.device = .running then (0 : Byte) else 1] ++ leBytes 4 s.stamp ++ [if s.timeUnset then (1 : Byte) else 0] ++
          leBytes 2 s.period ++ (match s.alarm with | none => [(0 : Byte)] | some a => (1 : Byte) :: leBytes 4 a) ++
          leBytes 2 s.journal.length ++ leBytes 2 s.reservations ++
          leBytes 2 (512 - s.journal.length - s.reservations) ++ [if s.linkOverrun then (1 : Byte) else 0] ++
          (match s.lastCorrected with | none => [(0 : Byte)] | some k => (1 : Byte) :: leBytes 2 k) ++
          (match s.lastFault with | none => [(0 : Byte)] | some k => (1 : Byte) :: leBytes 2 k) ++
          leBytes 2 s.scrubPosition ++ leBytes 2 s.notices.length ++
          leBytes 2 (s.notices.filter fun n => s.noticeMask.getLsbD (n.kind.priority - 1)).length ++
          ([0, 1, 2, 3, 4, 5, 6, 7] : List StationId).flatMap fun i =>
            stationCode (s.station i).state ::
              match (s.station i).session with
              | none => [(0 : Byte)]
              | some x => if x.suspended then [6, phaseCode x.phase] else [phaseCode x.phase]))) ∧
  (∀ s : State, s.Serving →
      (s.sessions ≠ [] → exec .clearAll s = .next (s.replied 0x87 6 [])) ∧
      (s.sessions = [] → ∃ t, exec .clearAll s = .next t ∧
        t = ({ s with
            stations := t.stations, slots := [], lastCorrected := none, lastFault := none } : State).replied
          0x87 0 [] ∧
        ∀ i, t.station i = { s.station i with meters := Meters.zero, forcedStops := 0 }))

/-- R171, R164: RESET is answered OK in every device state; when its reply has been sent a restart of cause
COMMAND begins, and after any other reply the line is free and nothing else changes. -/
def Obligations.ResetRestartsAfterReply : Prop :=
  (∀ s : State, s.LineFree → exec .reset s = .next { s with
      hostCondition := .hunting
      reply := some { kind := 0x86, body := [0], restarts := true } }) ∧
  (∀ (s : State) (r : Reply) (p : Option Nat), s.alive = true → s.reply = some r → r.restarts = false →
    exec (.replySent p) s = .next { s with reply := none }) ∧
  (∀ (s : State) (r : Reply), s.alive = true → s.reply = some r → r.restarts = true →
    ∃ t, exec (.replySent (some 0)) s = .next t ∧
      t.restart = some { cause := .command, before := s.device, next := 0, settled := [],
                         corrected := false, faulted := false } ∧
      t.reply = none ∧ t.receiveQueue = [] ∧ t.linkOverrun = false ∧ t.hostCondition = .hunting ∧
      t.journal = s.journal ∧ t.slots = s.slots ∧ t.device = s.device)

/-- R173: TAKE-NOTICE hands out the enabled entry of lowest priority number, then lowest station, with the
number of enabled entries left; with none enabled it answers NONE. It is served in every device state. -/
def Obligations.TakeNoticeByPriority : Prop :=
  ∀ s : State, s.LineFree → s.NoticesKept →
    ((∀ n ∈ s.notices, s.enabled n = false) →
      exec .takeNotice s = .next (s.replied 0x88 0 [0, 0, 0])) ∧
    (∀ n ∈ s.notices, s.enabled n = true →
      (∀ m ∈ s.notices, s.enabled m = true →
        n.kind.priority < m.kind.priority ∨ (n.kind = m.kind ∧ n.station ≤ m.station)) →
      exec .takeNotice s = .next
        (({ s with notices := s.notices.filter fun m => decide (m ≠ n) } : State).replied 0x88 0
          (BitVec.ofNat 8 n.kind.priority :: BitVec.ofNat 8 n.station ::
            leBytes 2 ((s.notices.filter fun m => decide (m ≠ n)).countP s.enabled))))

/-! ## Station requests -/

/-- The requests that name a station answer BAD-VALUE to a number outside 1 to 8 and change nothing (R22, R27,
R28, R36, R37, R38, R46, R60, R61, R64, R69, R74, R123). -/
def Obligations.BadStationRefused : Prop :=
  ∀ (s : State) (n : Byte), s.Serving → n.toNat = 0 ∨ 8 < n.toNat →
    (∀ p, exec (.setProfile n p) s = .next (s.replied 0x90 4 [])) ∧
    exec (.readProfile n) s = .next (s.replied 0x91 4 []) ∧
    exec (.startStation n) s = .next (s.replied 0x92 4 []) ∧
    exec (.stopStation n) s = .next (s.replied 0x93 4 []) ∧
    exec (.wakeStation n) s = .next (s.replied 0x94 4 []) ∧
    exec (.readStation n) s = .next (s.replied 0x95 4 []) ∧
    exec (.readJam n) s = .next (s.replied 0x96 4 []) ∧
    exec (.readMeters n) s = .next (s.replied 0x97 4 []) ∧
    (∀ a r, exec (.openSession n a r) s = .next (s.replied 0xA0 4 [])) ∧
    exec (.endSession n) s = .next (s.replied 0xA1 4 []) ∧
    exec (.readSession n) s = .next (s.replied 0xA2 4 []) ∧
    exec (.readAuth n) s = .next (s.replied 0xA3 4 []) ∧
    ∀ r a, exec (.authResult n r a) s = .next (s.replied 0xA4 4 [])

/-- R36: SET-PROFILE at a station in service, with a field out of range, and accepted with an empty path: the
whole profile is replaced, recognized levels stand, and nothing else of the part changes. R2: an accepted SET-
PROFILE starts the candidate timings of a class afresh exactly where its window changes. R17, R30, R36: SET-
PROFILE at an OFFLINE station with sheets in its path: a new transit limit that the oldest sheet has not
reached leaves the path; one it has reached writes the path off in the same event (log 25). -/
def Obligations.SetProfileReplaces : Prop :=
  (∀ (s : State) (n : Byte) (i : StationId) (p : ProfileFields), s.Serving → n.toNat = i.val + 1 →
      ((s.station i).state ≠ .offline → exec (.setProfile n p) s = .next (s.replied 0x90 6 [])) ∧
      ((s.station i).state = .offline → profileValid p = false →
        exec (.setProfile n p) s = .next (s.replied 0x90 4 [])) ∧
      ((s.station i).state = .offline → profileValid p = true → (s.station i).path = [] →
        ∃ lines, exec (.setProfile n p) s = .next
            ((s.setStation i { s.station i with profile := profileOf p, lines := lines }).replied 0x90 0 []) ∧
          ∀ m : Line, (lines.get m).raw = ((s.station i).lines.get m).raw ∧
            (lines.get m).level = ((s.station i).lines.get m).level)) ∧
  (∀ (s : State) (n : Byte) (i : StationId) (p : ProfileFields) (m : Line), s.Serving →
      n.toNat = i.val + 1 → (s.station i).state = .offline → profileValid p = true → (s.station i).path = [] →
      ∃ t, exec (.setProfile n p) s = .next t ∧
        (((t.station i).lines.get m).timing.map Timing.since =
          if (s.station i).profile.window m = (profileOf p).window m
          then ((s.station i).lines.get m).timing.map Timing.since
          else ((s.station i).lines.get m).timing.map fun _ => s.now)) ∧
  (∀ (s : State) (n : Byte) (i : StationId) (p : ProfileFields) (e : Sheet) (rest : List Sheet), s.Serving →
      n.toNat = i.val + 1 → (s.station i).state = .offline → (s.station i).session = none → profileValid p = true →
      (s.station i).path = e :: rest → rest.length ≤ 8 →
      (s.now < e.fedAt + 1000 * p.transitLimit.toNat →
        ∃ lines, exec (.setProfile n p) s = .next
          ((s.setStation i { s.station i with profile := profileOf p, lines := lines }).replied 0x90 0 [])) ∧
      (p.transitLimit.toNat ≠ (s.station i).profile.transitLimit →
        e.fedAt + 1000 * p.transitLimit.toNat ≤ s.now →
        ∃ t r, exec (.setProfile n p) s = .next t ∧ (t.station i).path = [] ∧ (t.station i).state = .offline ∧
          (t.station i).profile = profileOf p ∧ (t.station i).jam = some r ∧ r.cause = .transit ∧
          r.serial = ((s.station i).jamSerial + 1) % 65536 ∧ r.stamp = s.stamp ∧ r.inDoubt = rest.length + 1 ∧
          r.purged = 0 ∧ r.repeats = 0 ∧ r.lost = some (rest.length + 1) ∧
          (t.station i).meters = { (s.station i).meters with
            jammed := ((s.station i).meters.jammed + (rest.length + 1)) % 100000000
            lost := ((s.station i).meters.lost + (rest.length + 1)) % 100000000
            purged := (s.station i).meters.purged % 100000000 } ∧
          t.notices = insertNotice ⟨.jam, i.val + 1⟩ s.notices ∧
          t.reply = some { kind := 0x90, body := [0], restarts := false } ∧ t.slots = s.slots ∧
          t.journal = s.journal ∧ ∀ j, j ≠ i → t.station j = s.station j))

/-- R37: READ-PROFILE of a station 1 to 8, in any station state, answers its number and the 22 fields of its
profile in the order of R35, and changes nothing; of any other number it answers BAD-VALUE. -/
def Obligations.ReadProfileFields : Prop :=
  ∀ (s : State) (n : Byte), s.Serving →
    (n.toNat = 0 ∨ 8 < n.toNat → exec (.readProfile n) s = .next (s.replied 0x91 4 [])) ∧
    ∀ i : StationId, n.toNat = i.val + 1 → ∀ p : Profile, (s.station i).profile = p →
      exec (.readProfile n) s = .next (s.replied 0x91 0
        (n :: (leBytes 1 p.plan ++ leBytes 4 p.presetHold ++ leBytes 4 p.minOpening ++ leBytes 1 p.allowance ++
          [match p.basis with | .worst => (0 : Byte) | .last => 1] ++ leBytes 1 p.walkInRate ++
          leBytes 1 p.transitLimit ++ leBytes 1 p.purgeWindow ++ leBytes 1 p.authTimeout ++
          leBytes 1 p.pauseAck ++ leBytes 1 p.pulseWindow ++ leBytes 1 p.levelWindow ++
          leBytes 1 p.sessionA ++ leBytes 1 p.sessionB ++ leBytes 1 p.idleA ++ leBytes 1 p.idleB ++
          [p.linkCard, p.linkFeed, p.linkDeliver, p.linkReadyRise, p.linkHost].map
            (fun l : TimerId => match l with | .a => (0 : Byte) | .b => 1) ++
          [if p.autoStart then 1 else 0])))

/-- R27: START-STATION at an OFFLINE station whose JAM is deasserted and which has no session: READY or NOT-
READY by the READY level, both idle timers at the durations of the idle pair, STATION-CHANGE posted, nothing
else changed. R27, R111, R34: START-STATION with JAM asserted declares a jam of cause LINE at once; the
station stands in JAMMED, and an empty path leaves an empty record. -/
def Obligations.StartStationStarts : Prop :=
  (∀ (s : State) (n : Byte) (i : StationId), s.Serving → n.toNat = i.val + 1 →
      ((s.station i).state ≠ .offline → exec (.startStation n) s = .next (s.replied 0x92 6 [])) ∧
      ((s.station i).state = .offline → (s.station i).session = none → (s.station i).lines.jam.level = false →
        exec (.startStation n) s = .next
          (({ s.setStation i { s.station i with
                state := if (s.station i).lines.ready.level then .ready else .notReady
                timerA := loadedTimer s.now (codeSeconds (s.station i).profile.idleA)
                timerB := loadedTimer s.now (codeSeconds (s.station i).profile.idleB) } with
              notices := insertNotice ⟨.stationChange, i.val + 1⟩ s.notices } : State).replied 0x92 0
            [if (s.station i).lines.ready.level then 2 else 1]))) ∧
  (∀ (s : State) (n : Byte) (i : StationId), s.Serving → n.toNat = i.val + 1 →
      (s.station i).state = .offline → (s.station i).session = none → (s.station i).path = [] →
      (s.station i).lines.jam.level = true →
      ∃ t r, exec (.startStation n) s = .next t ∧
        (t.station i).state = .jammed ∧ (t.station i).jam = some r ∧
        r = { serial := ((s.station i).jamSerial + 1) % 65536, cause := .line, stamp := s.stamp,
              inDoubt := 0, listed := [], purged := 0, repeats := 0, lost := none } ∧
        t.reply = some { kind := 0x92, body := [0, 4], restarts := false } ∧
        (∀ j, j ≠ i → t.station j = s.station j) ∧ t.slots = s.slots ∧ t.journal = s.journal)

/-- R28, R29, R58: STOP-STATION by the session at the station. R28, R29, R26: STOP-STATION at a JAMMED or
RECOVER station without a session closes its OPEN record, the sheets not purged lost; with a copying COUNTER
session and an empty path it settles the session with reason HOST and the station is OFFLINE in the same
request. R46, R40, R45: WAKE-STATION reloads the timer that the HOST link names, wakes a SAVE station into
READY, and refuses an OFFLINE one. -/
def Obligations.StopAndWakeStation : Prop :=
  (∀ (s : State) (n : Byte) (i : StationId), s.Serving → n.toNat = i.val + 1 →
      ((s.station i).state = .offline → exec (.stopStation n) s = .next (s.replied 0x93 6 [])) ∧
      ((s.station i).session = none → (s.station i).state = .ready ∨ (s.station i).state = .notReady ∨
          (s.station i).state = .save →
        exec (.stopStation n) s = .next
          (({ s.setStation i { s.station i with state := .offline, timerA := .stopped, timerB := .stopped } with
              notices := insertNotice ⟨.stationChange, i.val + 1⟩ s.notices } : State).replied 0x93 0 [0])) ∧
      (∀ x, (s.station i).session = some x → (s.station i).state ≠ .offline → x.authorizing = true →
        ∃ t, exec (.stopStation n) s = .next t ∧ (t.station i).session = none ∧
          (t.station i).state = .offline ∧ (t.station i).authTimer = none ∧
          t.reservations = s.reservations - 1 ∧ t.journal = s.journal ∧ t.slots = s.slots ∧
          (t.station i).reader = (s.station i).reader.produce (.closed 0) ∧
          t.reply = some { kind := 0x93, body := [0, 0], restarts := false }) ∧
      (∀ x, (s.station i).session = some x → (s.station i).state ≠ .offline → x.copying = true →
        (s.station i).path ≠ [] →
        exec (.stopStation n) s = .next
          ((s.setStation i { s.station i with
              session := some { x with phase := .closing .host, stopPending := true }
              pauseTimer := none }).replied 0x93 0 [1])) ∧
      (∀ x, (s.station i).session = some x → (s.station i).state ≠ .offline → x.closing = true →
        exec (.stopStation n) s = .next
          ((s.setStation i { s.station i with session := some { x with stopPending := true } }).replied
            0x93 0 [1]))) ∧
  (∀ (s : State) (n : Byte) (i : StationId), s.Serving → n.toNat = i.val + 1 →
      (∀ r, (s.station i).session = none → (s.station i).jam = some r → r.lost = none →
        (s.station i).state = .jammed ∨ (s.station i).state = .recover →
        exec (.stopStation n) s = .next
          (({ s.setStation i { s.station i with
                state := .offline, timerA := .stopped, timerB := .stopped, purgeTimer := none
                jam := some { r with lost := some (r.inDoubt - r.purged) }
                meters := { (s.station i).meters with
                  lost := ((s.station i).meters.lost + (r.inDoubt - r.purged)) % 100000000
                  purged := ((s.station i).meters.purged + r.purged) % 100000000 } } with
              notices := insertNotice
                ⟨if (s.station i).state = .recover then .recovered else .stationChange, i.val + 1⟩ s.notices } :
              State).replied 0x93 0 [0])) ∧
      (∀ x ref, (s.station i).session = some x → x.copying = true → (s.station i).path = [] →
        x.payment = .counter ref → (s.station i).state = .ready ∨ (s.station i).state = .notReady →
        ∃ t r, exec (.stopStation n) s = .next t ∧ (t.station i).session = none ∧ (t.station i).state = .offline ∧
          (t.station i).timerA = .stopped ∧ (t.station i).timerB = .stopped ∧ (t.station i).pauseTimer = none ∧
          t.journal = s.journal ++ [.settle r] ∧ r.reason = .host ∧ r.charged = (x.charged + 5) / 10 ∧
          r.sessionSerial = x.serial ∧ t.reservations = s.reservations - 1 ∧
          t.notices = insertNotice ⟨.stationChange, i.val + 1⟩ (insertNotice ⟨.sessionClosed, i.val + 1⟩ s.notices) ∧
          t.reply = some { kind := 0x93, body := [0, 0], restarts := false } ∧ t.slots = s.slots ∧
          ∀ j, j ≠ i → t.station j = s.station j)) ∧
  (∀ (s : State) (n : Byte) (i : StationId), s.Serving → n.toNat = i.val + 1 →
      ((s.station i).state = .offline → exec (.wakeStation n) s = .next (s.replied 0x94 6 [])) ∧
      (∀ d, (s.station i).state ≠ .offline → (s.station i).state ≠ .save →
        (s.station i).duration (s.station i).profile.linkHost = some d →
        exec (.wakeStation n) s = .next
          ((s.setStation i ((s.station i).setTimer (s.station i).profile.linkHost
              (.running (s.now + 1000 * d)))).replied 0x94 0 [stationCode (s.station i).state])) ∧
      (∀ d, (s.station i).state = .save →
        (s.station i).duration (s.station i).profile.linkHost = some d →
        exec (.wakeStation n) s = .next
          (({ s.setStation i (({ s.station i with state := .ready } : Station).setTimer
                (s.station i).profile.linkHost (.running (s.now + 1000 * d))) with
              notices := insertNotice ⟨.stationChange, i.val + 1⟩ s.notices } : State).replied 0x94 0 [2])))

/-- R38, R188: READ-STATION's reply begins with the station state, the session state, serial and stop-pending
where there is one, behind one presence byte (log 22), and the three copier outputs as R25 gives them. R38,
R23, R25, R42, R188: every field of READ-STATION as it stands, each optional one behind its presence byte.
Which fields share one presence byte, and the order of the eight levels, are the model's choice (logs 22, 38),
and so is that the durations and the quiet flag are taken from the profile's codes as they stand (log 39).
R123: READ-JAM at a station that never had a record, and the first fields of a record. R123, R188: the rest of
READ-JAM: the lost count of a CLOSED record and the purge window of an OPEN one, each behind its presence byte
(log 22), and the listed sheets in list order. R74, R191: READ-SESSION of a station with no session, and the
first fields of a summary. R74, R191: every field of READ-SESSION at a station with a session, in the order of
R74. -/
def Obligations.StationReports : Prop :=
  (∀ (s : State) (n : Byte) (i : StationId), s.Serving → n.toNat = i.val + 1 →
      ((s.station i).session = none → ∃ fields, exec (.readStation n) s = .next (s.replied 0x95 0
        (stationCode (s.station i).state :: 0 :: 0 :: 0 :: 0 :: flag (decide ((s.station i).state = .save)) ::
          fields))) ∧
      ∀ x, (s.station i).session = some x → x.suspended = false → ∃ fields,
        exec (.readStation n) s = .next (s.replied 0x95 0
          (stationCode (s.station i).state :: phaseCode x.phase :: 1 :: (leBytes 4 x.serial ++
            [flag x.stopPending,
             flag (decide ((s.station i).state = .ready ∧
               (x.phase = .active ∨ x.phase = .holding ∨ (x.phase = .held ∧ x.forced = false)))),
             flag (decide (x.phase = .holding ∨ x.phase = .held)),
             flag (decide ((s.station i).state = .save))] ++ fields)))) ∧
  (∀ (s : State) (n : Byte) (i : StationId) (st : Station), s.Serving → n.toNat = i.val + 1 → s.station i = st →
      ∀ (durationA durationB : Option Nat),
        durationA = codeSeconds (if st.session = none then st.profile.idleA else st.profile.sessionA) →
        durationB = codeSeconds (if st.session = none then st.profile.idleB else st.profile.sessionB) →
        exec (.readStation n) s = .next (s.replied 0x95 0
          ([stationCode st.state] ++
            (match st.session with
              | none => [(0 : Byte), 0]
              | some x => (if x.suspended then [6, phaseCode x.phase] else [phaseCode x.phase]) ++
                  1 :: (leBytes 4 x.serial ++ [if x.stopPending then (1 : Byte) else 0])) ++
            [if s.permit i then (1 : Byte) else 0, if s.pause i then (1 : Byte) else 0, if s.save i then (1 : Byte) else 0] ++
            leBytes 2 (durationA.getD 0) ++
            (match st.timerA with
              | .stopped => [(0 : Byte), 0]
              | .running t => (1 : Byte) :: 1 :: leBytes 2 ((t - s.now + 999) / 1000)
              | .expired => [(2 : Byte), 0]) ++
            leBytes 2 (durationB.getD 0) ++
            (match st.timerB with
              | .stopped => [(0 : Byte), 0]
              | .running t => (1 : Byte) :: 1 :: leBytes 2 ((t - s.now + 999) / 1000)
              | .expired => [(2 : Byte), 0]) ++
            [if (durationA ≠ none ∨ durationB ≠ none) ∧ (durationA ≠ none → st.timerA = .expired) ∧
                (durationB ≠ none → st.timerB = .expired) then (1 : Byte) else 0] ++
            leBytes 2 st.forcedStops ++
            (match st.lastRefusal with
              | none => [(0 : Byte)]
              | some r => (1 : Byte) :: refuseCode r.reason :: classCode r.card :: leBytes 4 r.stamp) ++
            (match st.jam with
              | none => [(0 : Byte)]
              | some r => (1 : Byte) :: (leBytes 2 r.serial ++ [if r.lost = none then (1 : Byte) else 2])) ++
            (([st.lines.feed, st.lines.deliver, st.lines.colour, st.lines.large, st.lines.duplex, st.lines.jam,
              st.lines.ready, st.lines.stopped].map fun l => if l.level then (1 : Byte) else 0)) ++
            leBytes 2 st.lastSheet ++ leBytes 1 st.path.length ++
            (st.path.flatMap fun e => leBytes 2 e.number ++ [BitVec.ofNat 8 e.kind.val] ++
              (match e.coverage with
                | .covered p => (1 : Byte) :: 1 :: leBytes 2 p
                | .uncovered p => (2 : Byte) :: 1 :: leBytes 2 p
                | .unpermitted => [(3 : Byte), 0]) ++
              (match e.serial with | none => [(0 : Byte)] | some k => (1 : Byte) :: leBytes 4 k)) ++
            (match st.path with | [] => [(0 : Byte)] | e :: _ => (1 : Byte) :: leBytes 4 (s.now - e.fedAt))))) ∧
  (∀ (s : State) (n : Byte) (i : StationId), s.Serving → n.toNat = i.val + 1 →
      ((s.station i).jam = none → exec (.readJam n) s = .next (s.replied 0x96 7 [])) ∧
      ∀ r, (s.station i).jam = some r → ∃ fields,
        exec (.readJam n) s = .next (s.replied 0x96 0
          (n :: (leBytes 2 r.serial ++ jamCode r.cause :: (leBytes 4 r.stamp ++
            (if r.lost = none then 1 else 2) :: (leBytes 4 r.inDoubt ++ (leBytes 4 r.purged ++
            (BitVec.ofNat 8 r.repeats :: fields)))))))) ∧
  (∀ (s : State) (n : Byte) (i : StationId) (r : JamRecord), s.Serving → n.toNat = i.val + 1 →
      (s.station i).jam = some r →
      exec (.readJam n) s = .next (s.replied 0x96 0
        (n :: (leBytes 2 r.serial ++ [jamCode r.cause] ++ leBytes 4 r.stamp ++ [if r.lost = none then (1 : Byte) else 2] ++
          leBytes 4 r.inDoubt ++ leBytes 4 r.purged ++ leBytes 1 r.repeats ++
          (match r.lost, (s.station i).purgeTimer with
            | some lost, _ => (1 : Byte) :: (leBytes 4 lost ++ [0])
            | none, none => [(0 : Byte), 1, 0, 0]
            | none, some t => [(0 : Byte), 1, 1, 1] ++ leBytes 2 ((t - s.now + 999) / 1000)) ++
          leBytes 1 r.listed.length ++
          r.listed.flatMap fun d => leBytes 2 d.number ++ [BitVec.ofNat 8 d.kind.val] ++
            (match d.coverage with
              | .covered p => (1 : Byte) :: 1 :: leBytes 2 p
              | .uncovered p => (2 : Byte) :: 1 :: leBytes 2 p
              | .unpermitted => [(3 : Byte), 0]) ++
            (match d.serial with | none => [(0 : Byte)] | some k => (1 : Byte) :: leBytes 4 k))))) ∧
  (∀ (s : State) (n : Byte) (i : StationId), s.Serving → n.toNat = i.val + 1 →
      ((s.station i).session = none → exec (.readSession n) s = .next (s.replied 0xA2 0 [n, 0])) ∧
      ∀ x, (s.station i).session = some x → x.suspended = false → ∃ fields,
        fields.length = 61 + (if x.lastKind = none then 0 else 1) + (if x.phase.closeReason = none then 0 else 1) ∧
        exec (.readSession n) s = .next (s.replied 0xA2 0
          (n :: phaseCode x.phase :: (leBytes 4 x.serial ++
            (match x.payment with
              | .campus slot => 1 :: leBytes 2 slot
              | .bank ref _ => 2 :: leBytes 2 ref
              | .counter ref => 3 :: leBytes 4 ref) ++
            leBytes 4 x.hold ++ leBytes 4 x.charged ++ leBytes 4 x.pending ++
            leBytes 4 (10 * x.hold - x.charged - x.pending) ++
            leBytes 1 x.tier.val ++ leBytes 2 x.ceiling ++ leBytes 1 x.rate ++ fields)))) ∧
  (∀ (s : State) (n : Byte) (i : StationId) (x : Session), s.Serving → n.toNat = i.val + 1 →
      (s.station i).session = some x → x.suspended = false →
      exec (.readSession n) s = .next (s.replied 0xA2 0
        (n :: phaseCode x.phase :: (leBytes 4 x.serial ++
          (match x.payment with
            | .campus slot => (1 : Byte) :: leBytes 2 slot
            | .bank ref _ => (2 : Byte) :: leBytes 2 ref
            | .counter ref => (3 : Byte) :: leBytes 4 ref) ++
          leBytes 4 x.hold ++ leBytes 4 x.charged ++ leBytes 4 x.pending ++
          leBytes 4 (10 * x.hold - x.charged - x.pending) ++
          leBytes 1 x.tier.val ++ leBytes 2 x.ceiling ++ leBytes 1 x.rate ++
          (match x.lastKind with | none => [(0 : Byte)] | some k => [1, BitVec.ofNat 8 k.val]) ++
          leBytes 4 x.fed ++
          leBytes 4 x.covered[0] ++ leBytes 4 x.covered[1] ++ leBytes 4 x.covered[2] ++ leBytes 4 x.covered[3] ++
          leBytes 4 x.covered[4] ++ leBytes 4 x.covered[5] ++ leBytes 4 x.covered[6] ++ leBytes 4 x.covered[7] ++
          leBytes 4 x.uncovered ++ leBytes 4 x.uncoveredValue ++ leBytes 4 x.unpermitted ++ leBytes 4 x.jammed ++
          leBytes 1 x.extendCount ++
          [(if x.clamped then (1 : Byte) else 0) + (if x.forced then (2 : Byte) else 0) + (if x.parked then (4 : Byte) else 0)] ++
          leBytes 4 x.opened ++
          (match x.phase with | .closing r => [(1 : Byte), reasonCode r] | _ => [(0 : Byte)]) ++
          [if x.stopPending then (1 : Byte) else 0]))))

/-- R22: READ-METERS of a station answers its number and its fourteen meters in order, as they stand; of any
other number BAD-VALUE; in SHUTDOWN it answers SHUTDOWN. -/
def Obligations.ReadMetersInOrder : Prop :=
  ∀ (s : State) (n : Byte), s.LineFree →
    (s.device = .running → n.toNat = 0 ∨ 8 < n.toNat → exec (.readMeters n) s = .next (s.replied 0x97 4 [])) ∧
    (s.device = .shutdown → exec (.readMeters n) s = .next (s.replied 0x97 15 [])) ∧
    (s.device = .running → ∀ i : StationId, n.toNat = i.val + 1 → ∀ m : Meters, (s.station i).meters = m →
      exec (.readMeters n) s = .next (s.replied 0x97 0
        (n :: ([m.delivered[0], m.delivered[1], m.delivered[2], m.delivered[3], m.delivered[4], m.delivered[5],
          m.delivered[6], m.delivered[7], m.jammed, m.lost, m.purged, m.orphan, m.unpermitted,
          m.uncovered].flatMap (leBytes 4)))))

/-! ## Session requests -/

/-- R64, R52, R153, R41, R95: OPEN-SESSION refused in the order of its checks, and accepted at a READY
station: the session's record, HOLDING where the pause condition is true at once and ACTIVE otherwise, its
reservation and both idle timers. R64, R45, R26: OPEN-SESSION at a SAVE station wakes it first: READY with
STATION-CHANGE, then the COUNTER session; the reader is sent ACCEPT with the hold, followed by PAUSED where
the pause condition is true at once. R160, R153: the reservation of an accepted OPEN-SESSION posts JOURNAL-LOW
exactly where it brings the free count from 33 down to 32. -/
def Obligations.OpenSessionCreates : Prop :=
  (∀ (s : State) (n : Byte) (i : StationId) (amount ref : BitVec 32), s.Serving → n.toNat = i.val + 1 →
      ((s.station i).state ≠ .ready → (s.station i).state ≠ .save →
        exec (.openSession n amount ref) s = .next (s.replied 0xA0 6 [])) ∧
      ((s.station i).session ≠ none → exec (.openSession n amount ref) s = .next (s.replied 0xA0 6 [])) ∧
      ((s.station i).state = .ready → (s.station i).session = none →
        (amount.toInt < 1 ∨ ((s.station i).profile.presetHold : Int) < amount.toInt) →
        exec (.openSession n amount ref) s = .next (s.replied 0xA0 4 [])) ∧
      ((s.station i).state = .ready → (s.station i).session = none → 1 ≤ amount.toInt →
        amount.toInt ≤ (s.station i).profile.presetHold → 510 < s.journal.length + s.reservations →
        exec (.openSession n amount ref) s = .next (s.replied 0xA0 11 [])) ∧
      ((s.station i).state = .ready → (s.station i).session = none → 1 ≤ amount.toInt →
        amount.toInt ≤ (s.station i).profile.presetHold → s.journal.length + s.reservations ≤ 510 →
        ∃ t x, exec (.openSession n amount ref) s = .next t ∧ (t.station i).session = some x ∧
          x.serial = (s.sessionSerial + 1) % 4294967296 ∧ x.payment = .counter ref.toNat ∧
          x.hold = amount.toNat ∧ x.charged = 0 ∧ x.pending = 0 ∧ x.fed = 0 ∧ x.opened = s.stamp ∧
          x.rate = (s.station i).profile.walkInRate ∧ x.plan = s.plan (s.station i).profile.plan ∧
          x.ceiling = x.plan.ceilingAt x.rate 0 ∧
          (x.phase = if x.pauseCondition (s.station i).profile then .holding else .active) ∧
          t.sessionSerial = x.serial ∧ t.reservations = s.reservations + 1 ∧
          (t.station i).timerA = loadedTimer s.now (codeSeconds (s.station i).profile.sessionA) ∧
          (t.station i).timerB = loadedTimer s.now (codeSeconds (s.station i).profile.sessionB) ∧
          t.reply = some { kind := 0xA0, body := 0 :: leBytes 4 x.serial, restarts := false } ∧
          t.journal = s.journal ∧ t.slots = s.slots ∧ ∀ j, j ≠ i → t.station j = s.station j)) ∧
  (∀ (s : State) (n : Byte) (i : StationId) (amount ref : BitVec 32), s.Serving → n.toNat = i.val + 1 →
      (s.station i).state = .save ∨ (s.station i).state = .ready → (s.station i).session = none →
      1 ≤ amount.toInt → amount.toInt ≤ (s.station i).profile.presetHold →
      s.journal.length + s.reservations ≤ 510 →
      ∃ t x, exec (.openSession n amount ref) s = .next t ∧ (t.station i).session = some x ∧
        x.serial = (s.sessionSerial + 1) % 4294967296 ∧ x.payment = .counter ref.toNat ∧ x.hold = amount.toNat ∧
        x.charged = 0 ∧ x.pending = 0 ∧ (t.station i).state = .ready ∧
        ((s.station i).state = .save → s.NoticesKept → ⟨.stationChange, i.val + 1⟩ ∈ t.notices) ∧
        (x.phase = .active ∧ (t.station i).reader = (s.station i).reader.produce (.accept amount.toNat) ∨
          x.phase = .holding ∧ (t.station i).pauseTimer = some (s.now + 1000 * (s.station i).profile.pauseAck) ∧
            (s.NoticesKept → ⟨.paused, i.val + 1⟩ ∈ t.notices) ∧ (t.station i).reader =
              ((s.station i).reader.produce (.accept amount.toNat)).produce (.paused amount.toNat)) ∧
        t.reservations = s.reservations + 1 ∧
        t.reply = some { kind := 0xA0, body := 0 :: leBytes 4 x.serial, restarts := false } ∧
        t.journal = s.journal ∧ t.slots = s.slots ∧ ∀ j, j ≠ i → t.station j = s.station j) ∧
  (∀ (s : State) (n : Byte) (i : StationId) (amount ref : BitVec 32), s.Serving → n.toNat = i.val + 1 →
      (s.station i).state = .ready ∨ (s.station i).state = .save → (s.station i).session = none →
      1 ≤ amount.toInt → amount.toInt ≤ (s.station i).profile.presetHold →
      s.journal.length + s.reservations ≤ 510 → s.NoticesKept →
      ∃ t, exec (.openSession n amount ref) s = .next t ∧
        (⟨.journalLow, 0⟩ ∈ t.notices ↔
          ⟨.journalLow, 0⟩ ∈ s.notices ∨ s.journal.length + s.reservations = 479))

/-- R69, R67, R70, R72: END-SESSION by the state of the session; with an empty path a COUNTER session is
settled in the request, charged to the nearest cent. R71, R126 to R128: the account step of a CAMPUS
settlement at END-SESSION with an empty path: a slot that reads sound is aligned, charged, released and
counted down, with the present stamp; one found SUSPECT, or by this read uncorrectable, is left uncharged and
the record is PARKED. -/
def Obligations.EndSessionSettles : Prop :=
  (∀ (s : State) (n : Byte) (i : StationId), s.Serving → n.toNat = i.val + 1 →
      ((s.station i).session = none → exec (.endSession n) s = .next (s.replied 0xA1 6 [])) ∧
      (∀ x, (s.station i).session = some x → x.authorizing = true →
        exec (.endSession n) s = .next (s.replied 0xA1 6 [])) ∧
      (∀ x, (s.station i).session = some x → x.closing = true →
        exec (.endSession n) s = .next (s.replied 0xA1 0 (leBytes 4 x.serial ++ [0]))) ∧
      (∀ x, (s.station i).session = some x → x.copying = true → (s.station i).path ≠ [] →
        exec (.endSession n) s = .next
          ((s.setStation i { s.station i with
              session := some { x with phase := .closing .host }, pauseTimer := none }).replied 0xA1 0
            (leBytes 4 x.serial ++ [0]))) ∧
      (∀ x ref, (s.station i).session = some x → x.copying = true → (s.station i).path = [] →
        x.payment = .counter ref → x.stopPending = false →
        ∃ t r, exec (.endSession n) s = .next t ∧ (t.station i).session = none ∧
          t.journal = s.journal ++ [.settle r] ∧ r.serial = (s.recordSerial + 1) % 4294967296 ∧
          r.charged = (x.charged + 5) / 10 ∧ r.hold = x.hold ∧ r.reason = .host ∧ r.sessionSerial = x.serial ∧
          r.paidBy = .counter ref ∧ r.station = i.val + 1 ∧ r.opened = x.opened ∧ r.closed = s.stamp ∧
          r.covered = x.covered ∧ t.reservations = s.reservations - 1 ∧ t.slots = s.slots ∧
          (t.station i).state = (s.station i).state ∧
          (t.station i).timerA = loadedTimer s.now (codeSeconds (s.station i).profile.idleA) ∧
          (t.station i).timerB = loadedTimer s.now (codeSeconds (s.station i).profile.idleB) ∧
          (t.station i).reader = (s.station i).reader.produce (.closed ((x.charged + 5) / 10)) ∧
          t.notices = insertNotice ⟨.sessionClosed, i.val + 1⟩ s.notices ∧
          t.reply = some { kind := 0xA1, body := 0 :: (leBytes 4 x.serial ++ [1]), restarts := false } ∧
          ∀ j, j ≠ i → t.station j = s.station j)) ∧
  (∀ (s : State) (n : Byte) (i : StationId) (x : Session) (k : Nat) (a : Slot), s.Serving → n.toNat = i.val + 1 →
      (s.station i).session = some x → x.copying = true → (s.station i).path = [] → x.payment = .campus k →
      x.stopPending = false → s.slot k = some a →
      ∃ t r, exec (.endSession n) s = .next t ∧ (t.station i).session = none ∧
        t.journal = s.journal ++ [.settle r] ∧ t.reservations = s.reservations - 1 ∧
        r.paidBy = .campus k a.identity ∧ r.charged = (x.charged + 5) / 10 ∧ r.hold = x.hold ∧ r.reason = .host ∧
        (∀ m, m ≠ k → t.slot m = s.slot m) ∧ (∀ j, j ≠ i → t.station j = s.station j) ∧
        (a.suspect = false → a.damage ≠ .uncorrectable → r.parked = x.parked ∧ t.lastFault = s.lastFault ∧
          t.lastCorrected = (if a.damage = .correctable then some k else s.lastCorrected) ∧
          t.slot k = some { a with
            damage := .sound
            account := { a.account with
              figures := (match a.account.figures with
                | .prepaid balance => .prepaid (balance - (x.charged + 5) / 10)
                | .department limit spent p =>
                    .department limit ((if p = s.period then spent else 0) + (x.charged + 5) / 10) s.period)
              held := a.account.held - x.hold
              openCount := a.account.openCount - 1
              lastUse := s.stamp } }) ∧
        (a.suspect = true → r.parked = true ∧ t.slots = s.slots ∧ t.lastFault = s.lastFault) ∧
        (a.suspect = false → a.damage = .uncorrectable → r.parked = true ∧ t.lastFault = some k ∧
          t.slot k = some { a with suspect := true }) ∧
        t.notices = insertNotice ⟨.sessionClosed, i.val + 1⟩
          (if a.suspect = true ∨ a.damage = .sound then s.notices
            else if a.damage = .correctable then insertNotice ⟨.memoryCorrected, 0⟩ s.notices
            else insertNotice ⟨.memoryFault, 0⟩ s.notices))

/-- R60: READ-AUTH answers the reference, the token and the preset hold of an AUTHORIZING session, WRONG-STATE
at any other station, BAD-VALUE for any other number, and changes nothing. -/
def Obligations.ReadAuthRequest : Prop :=
  ∀ (s : State) (n : Byte), s.Serving →
    (n.toNat = 0 ∨ 8 < n.toNat → exec (.readAuth n) s = .next (s.replied 0xA3 4 [])) ∧
    ∀ i : StationId, n.toNat = i.val + 1 →
      (∀ x ref token, (s.station i).session = some x → x.authorizing = true → x.payment = .bank ref token →
        exec (.readAuth n) s = .next (s.replied 0xA3 0
          (leBytes 2 ref ++ (leBytes 16 token.toNat ++ leBytes 4 (s.station i).profile.presetHold)))) ∧
      ((∀ x, (s.station i).session = some x → x.authorizing = false) →
        exec (.readAuth n) s = .next (s.replied 0xA3 6 []))

/-- R58, R61, R62, R63: AUTH-RESULT of a negative amount, unmatched, declined (the session ends with no record
as R58 gives: its reservation given up, both idle timers reloaded with the idle pair, REFUSE DECLINED of class
BANK and CARD-REFUSED, path and accounts as they were) and accepted. -/
def Obligations.AuthResultOutcomes : Prop :=
  ∀ (s : State) (n : Byte) (i : StationId) (ref : BitVec 16) (amount : BitVec 32), s.Serving →
    n.toNat = i.val + 1 →
    (amount.toInt < 0 → exec (.authResult n ref amount) s = .next (s.replied 0xA4 4 [])) ∧
    (0 ≤ amount.toInt → (∀ x, (s.station i).session = some x → x.awaits ref.toNat = false) →
      exec (.authResult n ref amount) s = .next (s.replied 0xA4 14 [if amount = 0 then 0 else 1])) ∧
    (∀ x, 0 ≤ amount.toInt → (s.station i).session = some x → x.awaits ref.toNat = true →
      (amount.toNat = 0 ∨ amount.toNat < (s.station i).profile.minOpening) →
      ∃ t, exec (.authResult n ref amount) s = .next t ∧ (t.station i).session = none ∧
        (t.station i).authTimer = none ∧ t.reservations = s.reservations - 1 ∧ t.journal = s.journal ∧
        (t.station i).lastRefusal = some ⟨.declined, .bank, s.stamp⟩ ∧
        (t.station i).reader = (s.station i).reader.produce (.refuse .declined) ∧
        (t.station i).timerA = loadedTimer s.now (codeSeconds (s.station i).profile.idleA) ∧
        (t.station i).timerB = loadedTimer s.now (codeSeconds (s.station i).profile.idleB) ∧
        (t.station i).path = (s.station i).path ∧ (t.station i).state = (s.station i).state ∧ t.slots = s.slots ∧
        t.notices = insertNotice ⟨.cardRefused, i.val + 1⟩ s.notices ∧
        t.reply = some { kind := 0xA4, body := [0, 2], restarts := false } ∧
        ∀ j, j ≠ i → t.station j = s.station j) ∧
    (∀ x, 0 ≤ amount.toInt → (s.station i).session = some x → x.awaits ref.toNat = true →
      0 < amount.toNat → (s.station i).profile.minOpening ≤ amount.toNat →
      ∃ t y, exec (.authResult n ref amount) s = .next t ∧ (t.station i).session = some y ∧
        y.hold = min amount.toNat (s.station i).profile.presetHold ∧ y.serial = x.serial ∧
        (y.phase = if y.pauseCondition (s.station i).profile then .holding else .active) ∧
        (t.station i).authTimer = none ∧
        (t.station i).timerA = loadedTimer s.now (codeSeconds (s.station i).profile.sessionA) ∧
        (t.station i).timerB = loadedTimer s.now (codeSeconds (s.station i).profile.sessionB) ∧
        t.reservations = s.reservations ∧ t.journal = s.journal ∧ t.slots = s.slots ∧
        t.reply = some { kind := 0xA4, body := 0 :: 1 :: leBytes 4 y.hold, restarts := false } ∧
        ∀ j, j ≠ i → t.station j = s.station j)

/-! ## Plans and prices -/

/-- R77, R76: LOAD-PLAN by its checks in order, and accepted: the plan replaced whole, no other plan and no
running session touched. R78: AMEND-PLAN naming a field beyond the 15, and an accepted amendment: each named
field takes the carried value of its place, each other keeps the stored one. -/
def Obligations.PlansReplaced : Prop :=
  (∀ (s : State) (n : Byte) (f : List (BitVec 16)), s.Serving → f.length = 15 →
      (7 < n.toNat → exec (.loadPlan n f) s = .next (s.replied 0xB0 4 [])) ∧
      (n.toNat ≤ 7 → (∃ d ∈ f.drop 11, 900 < d.toNat) → exec (.loadPlan n f) s = .next (s.replied 0xB0 4 [])) ∧
      (n.toNat ≤ 7 → (∀ d ∈ f.drop 11, d.toNat ≤ 900) → (Plan.ofFields (f.map BitVec.toNat)).valid = false →
        exec (.loadPlan n f) s = .next (s.replied 0xB0 5 [])) ∧
      (n.toNat ≤ 7 → (∀ d ∈ f.drop 11, d.toNat ≤ 900) → (Plan.ofFields (f.map BitVec.toNat)).valid = true →
        ∃ plans, exec (.loadPlan n f) s = .next (({ s with plans := plans } : State).replied 0xB0 0 []) ∧
          plans.toList[n.toNat]? = some (Plan.ofFields (f.map BitVec.toNat)) ∧
          ∀ k, k ≠ n.toNat → plans.toList[k]? = s.plans.toList[k]?)) ∧
  (∀ (s : State) (n : Byte) (mask : BitVec 16) (values : List (BitVec 16)), s.Serving →
      values.length = namedFields mask →
      (7 < n.toNat ∨ mask.getLsbD 15 = true →
        exec (.amendPlan n mask values) s = .next (s.replied 0xB1 4 [])) ∧
      ∀ (hn : n.toNat < 8) (p : Plan), p = (s.plans[n.toNat]).amend mask (values.map BitVec.toNat) →
        (∀ k : Nat, k < 15 → p.fields[k]? =
          if mask.getLsbD k then
            (values[(List.range k).countP fun m => mask.getLsbD m]?).map BitVec.toNat
          else (s.plans[n.toNat]).fields[k]?) ∧
        (mask.getLsbD 15 = false → carriesBadDiscount mask values = true →
          exec (.amendPlan n mask values) s = .next (s.replied 0xB1 4 [])) ∧
        (mask.getLsbD 15 = false → carriesBadDiscount mask values = false → p.valid = false →
          exec (.amendPlan n mask values) s = .next (s.replied 0xB1 5 [])) ∧
        (mask.getLsbD 15 = false → carriesBadDiscount mask values = false → p.valid = true →
          exec (.amendPlan n mask values) s = .next
            (({ s with plans := s.plans.set n.toNat p } : State).replied 0xB1 0 [])))

/-- R79: READ-PLAN answers the plan number and the plan's 15 fields in the order of R75, BAD-VALUE above 7,
and in SHUTDOWN it answers SHUTDOWN. -/
def Obligations.ReadPlanFields : Prop :=
  ∀ (s : State) (n : Byte), s.LineFree →
    (s.device = .shutdown → exec (.readPlan n) s = .next (s.replied 0xB2 15 [])) ∧
    (s.device = .running → 7 < n.toNat → exec (.readPlan n) s = .next (s.replied 0xB2 4 [])) ∧
    (s.device = .running → ∀ h : n.toNat < 8, ∀ p : Plan, s.plans[n.toNat] = p →
      exec (.readPlan n) s = .next (s.replied 0xB2 0
        (n :: ([p.base[0], p.base[1], p.base[2], p.base[3], p.base[4], p.base[5], p.base[6], p.base[7],
          p.thresholds[0], p.thresholds[1], p.thresholds[2], p.discounts[0], p.discounts[1], p.discounts[2],
          p.discounts[3]].flatMap (leBytes 2)))))

/-- R80, R83, R84: QUOTE: its refusals, and the price to the nearest tenth, clamped at 65,535 with the clamp
flag. R82, R85: a session's tier is the highest present threshold its covered count reaches, and the ceiling
bounds the price of every kind and is one of them. -/
def Obligations.Pricing : Prop :=
  (∀ (s : State) (n rate tier kind : Byte), s.Serving →
      (7 < n.toNat ∨ 250 < rate.toNat ∨ 3 < tier.toNat ∨ 7 < kind.toNat →
        exec (.quote n rate tier kind) s = .next (s.replied 0xB3 4 [])) ∧
      ∀ (hn : n.toNat < 8) (ht : tier.toNat < 4) (hk : kind.toNat < 8), rate.toNat ≤ 250 →
        (0 < tier.toNat → (s.plans[n.toNat]).threshold tier.toNat = 0 →
          exec (.quote n rate tier kind) s = .next (s.replied 0xB3 4 [])) ∧
        (tier.toNat = 0 ∨ (s.plans[n.toNat]).threshold tier.toNat ≠ 0 →
          ∀ q, q = ((s.plans[n.toNat]).base[kind.toNat] * rate.toNat *
              (1000 - (s.plans[n.toNat]).discounts[tier.toNat]) + 50000) / 100000 →
            exec (.quote n rate tier kind) s = .next (s.replied 0xB3 0
              (leBytes 2 (min 65535 q) ++ [if 65535 < q then 1 else 0])))) ∧
  ((∀ (p : Plan) (n : Nat), p.valid = true →
      (∀ k : Nat, 1 ≤ k → k ≤ 3 → p.threshold k ≠ 0 → p.threshold k ≤ n → k ≤ (p.tierFor n).val) ∧
      ((p.tierFor n).val ≠ 0 → p.threshold (p.tierFor n).val ≠ 0 ∧ p.threshold (p.tierFor n).val ≤ n)) ∧
    ∀ (p : Plan) (rate : Nat) (tier : Fin 4),
      (∀ k, p.priceAt rate tier k ≤ p.ceilingAt rate tier) ∧ (∃ k, p.priceAt rate tier k = p.ceilingAt rate tier) ∧
      p.ceilingAt rate tier ≤ 65535)

/-! ## Accounts -/

/-- R134, R135: LOAD-ACCOUNT at a FREE slot with an identity no slot holds, for each account kind: the account
as carried, with no hold, the present stamp and a fresh check code; and the first of its refusals. R134: LOAD-
ACCOUNT's later refusals: another slot holds the identity; sessions are bound to a slot in use. R134: LOAD-
ACCOUNT is BAD-VALUE for a kind that is neither, for a figure out of its range (a negative one too) and for a
spent above its limit. R134, R135: LOAD-ACCOUNT with its values in range, for both account kinds and whatever
the slot held: DUPLICATE, ACCOUNT-BUSY and RANGE in this order, and otherwise the slot written whole: a FREE
slot, the replacement of one that no session is bound to, and the repair of a SUSPECT one, its held and open-
session count taken from the sessions bound to it. -/
def Obligations.LoadAccountChecked : Prop :=
  (∀ (s : State) (slot : BitVec 16) (id : BitVec 40) (state rate : Byte), s.Serving →
      (∀ kind fig, (kind = 1 ∧ fig.length = 1 ∨ kind = 2 ∧ fig.length = 2) →
        (4095 < slot.toNat ∨ 9999999999 < id.toNat ∨ (state ≠ 1 ∧ state ≠ 2) ∨ 250 < rate.toNat) →
        exec (.loadAccount slot id kind state rate fig) s = .next (s.replied 0xC0 4 [])) ∧
      (slot.toNat < 4096 → id.toNat ≤ 9999999999 → (state = 1 ∨ state = 2) → rate.toNat ≤ 250 →
        s.slot slot.toNat = none → s.bound slot.toNat = [] → s.lookup id.toNat = none →
        (∀ b : BitVec 32, b.toNat ≤ 9999999 →
          exec (.loadAccount slot id 1 state rate [b]) s = .next
            (({ s with
                slots := putSlot slot.toNat
                  { identity := id.toNat, suspect := false, damage := .sound,
                    account := { blocked := decide (state = 2), rate := rate.toNat,
                                 figures := .prepaid b.toNat, held := 0, openCount := 0, lastUse := s.stamp } }
                  s.slots } : State).replied 0xC0 0 (bytesOf 2 slot ++ [0, 0, 0, 0, 0]))) ∧
        (∀ l p : BitVec 32, l.toNat ≤ 9999999 → p.toNat ≤ l.toNat →
          exec (.loadAccount slot id 2 state rate [l, p]) s = .next
            (({ s with
                slots := putSlot slot.toNat
                  { identity := id.toNat, suspect := false, damage := .sound,
                    account := { blocked := decide (state = 2), rate := rate.toNat,
                                 figures := .department l.toNat p.toNat s.period, held := 0, openCount := 0,
                                 lastUse := s.stamp } }
                  s.slots } : State).replied 0xC0 0 (bytesOf 2 slot ++ [0, 0, 0, 0, 0]))))) ∧
  (∀ (s : State) (slot : BitVec 16) (id : BitVec 40) (rate : Byte) (b : BitVec 32), s.Serving →
      slot.toNat < 4096 → id.toNat ≤ 9999999999 → rate.toNat ≤ 250 → b.toNat ≤ 9999999 →
      (∀ m, s.lookup id.toNat = some m → m ≠ slot.toNat →
        exec (.loadAccount slot id 1 1 rate [b]) s = .next (s.replied 0xC0 8 [])) ∧
      (∀ x, (∀ m, s.lookup id.toNat = some m → m = slot.toNat) → s.slot slot.toNat = some x →
        x.suspect = false → s.bound slot.toNat ≠ [] →
        exec (.loadAccount slot id 1 1 rate [b]) s = .next (s.replied 0xC0 9 []))) ∧
  (∀ (s : State) (slot : BitVec 16) (id : BitVec 40) (kind state rate : Byte) (fig : List (BitVec 32)), s.Serving →
      (kind ≠ 1 ∧ kind ≠ 2 ∧ (fig.length = 1 ∨ fig.length = 2)) ∨ (∃ b, kind = 1 ∧ fig = [b] ∧ 9999999 < b.toNat) ∨
        (∃ l p, kind = 2 ∧ fig = [l, p] ∧ (9999999 < l.toNat ∨ 9999999 < p.toNat ∨ l.toNat < p.toNat)) →
      exec (.loadAccount slot id kind state rate fig) s = .next (s.replied 0xC0 4 [])) ∧
  (∀ (s : State) (slot : BitVec 16) (id : BitVec 40) (kind state rate : Byte) (fig : List (BitVec 32))
      (figures : Figures) (held : Nat), s.Serving →
      slot.toNat < 4096 → id.toNat ≤ 9999999999 → (state = 1 ∨ state = 2) → rate.toNat ≤ 250 →
      (∃ b, kind = 1 ∧ fig = [b] ∧ b.toNat ≤ 9999999 ∧ figures = .prepaid b.toNat) ∨
        (∃ l p, kind = 2 ∧ fig = [l, p] ∧ l.toNat ≤ 9999999 ∧ p.toNat ≤ l.toNat ∧
          figures = .department l.toNat p.toNat s.period) →
      held = ((s.bound slot.toNat).map Session.hold).sum →
      (∀ m, s.lookup id.toNat = some m → m ≠ slot.toNat →
        exec (.loadAccount slot id kind state rate fig) s = .next (s.replied 0xC0 8 [])) ∧
      ((∀ m, s.lookup id.toNat = some m → m = slot.toNat) →
        (∀ x, s.slot slot.toNat = some x → s.bound slot.toNat ≠ [] → x.suspect = false ∨ x.identity ≠ id.toNat →
          exec (.loadAccount slot id kind state rate fig) s = .next (s.replied 0xC0 9 [])) ∧
        (s.bound slot.toNat = [] ∨ (∃ x, s.slot slot.toNat = some x ∧ x.suspect = true ∧ x.identity = id.toNat) →
          ((match figures with
              | .prepaid balance => balance < held
              | .department limit spent _ => limit < spent + held) →
            exec (.loadAccount slot id kind state rate fig) s = .next (s.replied 0xC0 10 [])) ∧
          ((match figures with
              | .prepaid balance => held ≤ balance
              | .department limit spent _ => spent + held ≤ limit) →
            exec (.loadAccount slot id kind state rate fig) s = .next
              (({ s with
                  slots := putSlot slot.toNat
                    { identity := id.toNat, suspect := false, damage := .sound
                      account := { blocked := decide (state = 2), rate := rate.toNat, figures := figures, held := held
                                   openCount := (s.bound slot.toNat).length, lastUse := s.stamp } } s.slots } :
                  State).replied 0xC0 0
                (bytesOf 2 slot ++ leBytes 4 held ++ leBytes 1 (s.bound slot.toNat).length))))))

/-- R136, R191: READ-ACCOUNT of each kind of slot whose content is sound or not read, with the record lengths
of R191; a slot above 4,095 is refused. R137: FIND-ACCOUNT of an identity out of range, of one no slot holds,
of a SUSPECT slot's, and of any slot's, which does what READ-ACCOUNT of the slot does and answers its record.
-/
def Obligations.AccountRecordsRead : Prop :=
  (∀ (s : State) (slot : BitVec 16), s.Serving →
      (4095 < slot.toNat → exec (.readAccount slot) s = .next (s.replied 0xC1 4 [])) ∧
      (slot.toNat < 4096 → s.slot slot.toNat = none →
        exec (.readAccount slot) s = .next (s.replied 0xC1 0 (bytesOf 2 slot ++ [0]))) ∧
      (∀ x, slot.toNat < 4096 → s.slot slot.toNat = some x → x.suspect = true →
        exec (.readAccount slot) s = .next
          (s.replied 0xC1 0 (bytesOf 2 slot ++ (3 :: leBytes 5 x.identity)))) ∧
      (∀ x b, slot.toNat < 4096 → s.slot slot.toNat = some x → x.suspect = false → x.damage = .sound →
        x.account.figures = .prepaid b → ∃ record, record.length = 27 ∧
        record = bytesOf 2 slot ++ ((if x.account.blocked then 2 else 1) :: (leBytes 5 x.identity ++
          (1 :: (leBytes 1 x.account.rate ++ leBytes 4 b ++ leBytes 4 x.account.held ++
            leBytes 1 x.account.openCount ++ leBytes 4 x.account.lastUse ++
            leBytes 4 (b - x.account.held))))) ∧
        exec (.readAccount slot) s = .next (s.replied 0xC1 0 record)) ∧
      (∀ x l p q, slot.toNat < 4096 → s.slot slot.toNat = some x → x.suspect = false → x.damage = .sound →
        x.account.figures = .department l p q → ∃ record, record.length = 37 ∧
        record = bytesOf 2 slot ++ ((if x.account.blocked then 2 else 1) :: (leBytes 5 x.identity ++
          (2 :: (leBytes 1 x.account.rate ++ leBytes 4 l ++ leBytes 4 p ++ leBytes 2 q ++
            leBytes 4 (if q = s.period then p else 0) ++ leBytes 4 x.account.held ++
            leBytes 1 x.account.openCount ++ leBytes 4 x.account.lastUse ++
            leBytes 4 (l - (if q = s.period then p else 0) - x.account.held))))) ∧
        exec (.readAccount slot) s = .next (s.replied 0xC1 0 record))) ∧
  (∀ (s : State) (id : BitVec 40), s.Serving →
      (9999999999 < id.toNat → exec (.findAccount id) s = .next (s.replied 0xC2 4 [])) ∧
      (id.toNat ≤ 9999999999 → (∀ p ∈ s.slots, p.2.identity ≠ id.toNat) →
        exec (.findAccount id) s = .next (s.replied 0xC2 7 [])) ∧
      (∀ n x, id.toNat ≤ 9999999999 → s.SlotsKept → s.IdentitiesDistinct → s.slot n = some x →
        x.identity = id.toNat → x.suspect = true →
        exec (.findAccount id) s = .next (s.replied 0xC2 0 (leBytes 2 n ++ (3 :: bytesOf 5 id)))) ∧
      (∀ n x, id.toNat ≤ 9999999999 → s.SlotsKept → s.IdentitiesDistinct → s.slot n = some x →
        x.identity = id.toNat → ∃ t record,
        exec (.readAccount (BitVec.ofNat 16 n)) s = .next (State.replied t 0xC1 0 record) ∧
        exec (.findAccount id) s = .next (State.replied t 0xC2 0 record)))

/-- R129, R130, R133: what a tested read finds and does, whoever makes it. -/
def Obligations.TestedReadActs : Prop :=
  ∀ (s : State) (n : Nat) (x : Slot), s.slot n = some x →
    (x.suspect = true → s.testedRead n = (s, .suspect x)) ∧
    (x.suspect = false → x.damage = .sound → s.testedRead n = (s, .content x)) ∧
    (x.suspect = false → x.damage = .correctable → ∃ t,
      s.testedRead n = (t, .content { x with damage := .sound }) ∧
      t = { s with slots := t.slots, lastCorrected := some n
                   notices := insertNotice ⟨.memoryCorrected, 0⟩ s.notices } ∧
      t.slot n = some { x with damage := .sound } ∧ ∀ m, m ≠ n → t.slot m = s.slot m) ∧
    (x.suspect = false → x.damage = .uncorrectable → ∃ t,
      s.testedRead n = (t, .suspect { x with suspect := true }) ∧
      t = { s with slots := t.slots, lastFault := some n
                   notices := insertNotice ⟨.memoryFault, 0⟩ s.notices } ∧
      t.slot n = some { x with suspect := true } ∧ ∀ m, m ≠ n → t.slot m = s.slot m)

/-- R138: TOPUP of a PREPAID account with sound content, refused outside its range and accepted within it; of
a DEPARTMENT account, a FREE and a SUSPECT slot. R139, R127: SET-LIMIT of a DEPARTMENT account with sound
content: the slot aligned, the limit set, the available credit answered; refused below what the period has
spent and the sessions hold, a negative limit too, which is the model's reading (log 21). R140: SET-ACCOUNT-
STATE: refused, and accepted on sound content. -/
def Obligations.AccountsAmended : Prop :=
  (∀ (s : State) (slot : BitVec 16) (amount : BitVec 32), s.Serving →
      (4095 < slot.toNat → exec (.topup slot amount) s = .next (s.replied 0xC3 4 [])) ∧
      (slot.toNat < 4096 → (∀ x, s.slot slot.toNat = some x → x.suspect = true) →
        exec (.topup slot amount) s = .next (s.replied 0xC3 6 [])) ∧
      ∀ x, slot.toNat < 4096 → s.slot slot.toNat = some x → x.suspect = false → x.damage = .sound →
        (∀ l p q, x.account.figures = .department l p q →
          exec (.topup slot amount) s = .next (s.replied 0xC3 6 [])) ∧
        ∀ b : Nat, x.account.figures = .prepaid b →
          (9999999 < (b : Int) + amount.toInt ∨ (b : Int) + amount.toInt < x.account.held →
            exec (.topup slot amount) s = .next (s.replied 0xC3 10 [])) ∧
          (∀ c : Nat, (c : Int) = b + amount.toInt → c ≤ 9999999 → x.account.held ≤ c →
            exec (.topup slot amount) s = .next
              (({ s with
                  slots := putSlot slot.toNat
                    { x with account := { x.account with figures := .prepaid c } } s.slots } : State).replied
                0xC3 0 (leBytes 4 c)))) ∧
  (∀ (s : State) (slot : BitVec 16) (limit : BitVec 32), s.Serving →
      (4095 < slot.toNat ∨ 9999999 < limit.toInt →
        exec (.setLimit slot limit) s = .next (s.replied 0xC4 4 [])) ∧
      (slot.toNat < 4096 → limit.toInt ≤ 9999999 → (∀ x, s.slot slot.toNat = some x → x.suspect = true) →
        exec (.setLimit slot limit) s = .next (s.replied 0xC4 6 [])) ∧
      ∀ x, slot.toNat < 4096 → limit.toInt ≤ 9999999 → s.slot slot.toNat = some x → x.suspect = false →
        x.damage = .sound →
        (∀ b, x.account.figures = .prepaid b → exec (.setLimit slot limit) s = .next (s.replied 0xC4 6 [])) ∧
        ∀ l p q e : Nat, x.account.figures = .department l p q → e = (if q = s.period then p else 0) →
          (limit.toInt < (e + x.account.held : Nat) →
            exec (.setLimit slot limit) s = .next (s.replied 0xC4 10 [])) ∧
          ((e + x.account.held : Nat) ≤ limit.toInt →
            exec (.setLimit slot limit) s = .next
              (({ s with
                  slots := putSlot slot.toNat
                    { x with account := { x.account with figures := .department limit.toNat e s.period } }
                    s.slots } : State).replied 0xC4 0
                (bytesOf 4 limit ++ leBytes 4 (limit.toNat - e - x.account.held))))) ∧
  (∀ (s : State) (slot : BitVec 16) (state : Byte), s.Serving →
      (4095 < slot.toNat ∨ (state ≠ 1 ∧ state ≠ 2) →
        exec (.setAccountState slot state) s = .next (s.replied 0xC5 4 [])) ∧
      (slot.toNat < 4096 → (state = 1 ∨ state = 2) → (∀ x, s.slot slot.toNat = some x → x.suspect = true) →
        exec (.setAccountState slot state) s = .next (s.replied 0xC5 6 [])) ∧
      ∀ x, slot.toNat < 4096 → (state = 1 ∨ state = 2) → s.slot slot.toNat = some x → x.suspect = false →
        x.damage = .sound →
        exec (.setAccountState slot state) s = .next
          (({ s with
              slots := putSlot slot.toNat
                { x with account := { x.account with blocked := decide (state = 2) } } s.slots } : State).replied
            0xC5 0 []))

/-- R141: DELETE-ACCOUNT. A freed slot's identity is in no slot afterwards, and its card is refused with
UNKNOWN-CARD. -/
def Obligations.DeleteAccountFrees : Prop :=
  ∀ (s : State) (slot : BitVec 16), s.Serving → s.SlotsKept → s.IdentitiesDistinct →
    (4095 < slot.toNat → exec (.deleteAccount slot) s = .next (s.replied 0xC6 4 [])) ∧
    (slot.toNat < 4096 → s.slot slot.toNat = none →
      exec (.deleteAccount slot) s = .next (s.replied 0xC6 7 [])) ∧
    (slot.toNat < 4096 → s.slot slot.toNat ≠ none → s.bound slot.toNat ≠ [] →
      exec (.deleteAccount slot) s = .next (s.replied 0xC6 9 [])) ∧
    (∀ x, slot.toNat < 4096 → s.slot slot.toNat = some x → s.bound slot.toNat = [] →
      ∃ slots, exec (.deleteAccount slot) s = .next (({ s with slots := slots } : State).replied 0xC6 0 []) ∧
        getSlot slot.toNat slots = none ∧ (∀ m, m ≠ slot.toNat → getSlot m slots = s.slot m) ∧
        ∀ (i : StationId) (id : BitVec 40), id.toNat = x.identity → x.identity ≤ 9999999999 →
          (s.station i).reader.condition ≠ .waitingIdle → (s.station i).state = .ready →
          (s.station i).session = none → s.journal.length + s.reservations ≤ 510 →
          ∃ u, exec (.cardFrame i (.campus id)) (({ s with slots := slots } : State).replied 0xC6 0 []) =
              .next u ∧
            (u.station i).lastRefusal = some ⟨.unknownCard, .campus, s.stamp⟩)

/-! ## The journal -/

/-- R158, R190: READ-JOURNAL of an empty queue, of a RESTART record, and the length of a SETTLE record by its
payment kind. R151, R188, R190: the SETTLE record that READ-JOURNAL carries, byte for byte. R159: RELEASE-
JOURNAL of an empty queue, with the oldest record's serial, and with any other. -/
def Obligations.JournalRequests : Prop :=
  (∀ s : State, s.Serving →
      (s.journal = [] → exec .readJournal s = .next (s.replied 0xD0 12 [])) ∧
      (∀ r rest, s.journal = .restart r :: rest →
        exec .readJournal s = .next (s.replied 0xD0 0 (leBytes 2 s.journal.length ++ (2 :: (leBytes 4 r.serial ++
          leBytes 4 r.stamp ++ [match r.cause with | .supply => (1 : Byte) | .retainLost => 2 | .pin => 3 | .command => 4] ++
          leBytes 1 r.repeats ++ leBytes 1 r.settled))))) ∧
      ∀ r rest, s.journal = .settle r :: rest → ∃ record,
        record.length = (match r.paidBy with | .campus _ _ => 84 | .bank _ => 79 | .counter _ => 81) ∧
        exec .readJournal s = .next (s.replied 0xD0 0 (leBytes 2 s.journal.length ++ (1 :: record)))) ∧
  (∀ (s : State) (r : SettleRecord) (rest : List Record), s.Serving → s.journal = .settle r :: rest →
      exec .readJournal s = .next (s.replied 0xD0 0 (leBytes 2 s.journal.length ++ ((1 : Byte) :: (
        leBytes 4 r.serial ++ leBytes 4 r.opened ++ leBytes 4 r.closed ++ leBytes 1 r.station ++
        leBytes 4 r.sessionSerial ++
        (match r.paidBy with
          | .campus slot identity => (1 : Byte) :: (leBytes 2 slot ++ leBytes 5 identity)
          | .bank ref => (2 : Byte) :: leBytes 2 ref
          | .counter ref => (3 : Byte) :: leBytes 4 ref) ++
        leBytes 4 r.hold ++ leBytes 4 r.charged ++
        leBytes 4 r.covered[0] ++ leBytes 4 r.covered[1] ++ leBytes 4 r.covered[2] ++ leBytes 4 r.covered[3] ++
        leBytes 4 r.covered[4] ++ leBytes 4 r.covered[5] ++ leBytes 4 r.covered[6] ++ leBytes 4 r.covered[7] ++
        leBytes 4 r.uncovered ++ leBytes 4 r.uncoveredValue ++ leBytes 4 r.unpermitted ++ leBytes 4 r.jammed ++
        leBytes 1 r.extendCount ++
        [(match r.reason with
            | .customer => (1 : Byte) | .walkAway => 2 | .host => 3 | .power => 4 | .reset => 5),
          (if r.clamped then (1 : Byte) else 0) + (if r.forced then (2 : Byte) else 0) + (if r.parked then (4 : Byte) else 0)]))))) ∧
  (∀ (s : State) (serial : BitVec 32), s.Serving →
      (s.journal = [] → exec (.releaseJournal serial) s = .next (s.replied 0xD1 12 [])) ∧
      ∀ r rest, s.journal = r :: rest →
        (r.serial = serial.toNat → exec (.releaseJournal serial) s = .next
          (({ s with journal := rest } : State).replied 0xD1 0
            (leBytes 2 rest.length ++ leBytes 2 (512 - rest.length - s.reservations)))) ∧
        (r.serial ≠ serial.toNat →
          exec (.releaseJournal serial) s = .next (s.replied 0xD1 13 (leBytes 4 r.serial))))

/-! ## Copier lines and sheets -/

/-- 00, "How the blocks work together": the blocks of one station are its own. An event at a station leaves
every other station, its own profile, and everything of the part but the interval count, the account table,
the journal, the counters that sessions take from and the notices as it was. That the time base stands where
an event carries the interval count forward is the model's choice (log 45). -/
def Obligations.StationEventsAreLocal : Prop :=
  ∀ (c : Instr) (i : StationId) (s t : State), eventStation c = some i → exec c s = .next t →
    (∀ j, j ≠ i → t.station j = s.station j) ∧ (t.station i).profile = (s.station i).profile ∧
    t = { s with
      stations := t.stations
      now := t.now
      sessionSerial := t.sessionSerial
      authRef := t.authRef
      slots := t.slots
      lastCorrected := t.lastCorrected
      lastFault := t.lastFault
      journal := t.journal
      reservations := t.reservations
      recordSerial := t.recordSerial
      notices := t.notices }

/-- R1, R5, R23: a change of the raw level starts, keeps or abandons a candidate timing in RUNNING, and only
moves the pin otherwise. That a level which returns once its window has been reached abandons the timing too
is the model's choice (log 42), and so is that every timing started here is an ordinary one, also on a FEED or
DELIVER pin that was asserted at the restart and dipped within its first window (R4; log 46). R1, R3, R6: the
recognition of a level that has no event changes the recognized level of that line, ends its timing, and
nothing else but the interval count (logs 5, 7, 45). R4: a FEED or DELIVER assertion that began before the
part was watching is recognized without an event. That it is no activity and reloads no timer is the model's
choice (log 43), and so is the instant to which it brings the interval count, without the time base (logs 5,
45). R1, R2, R7: a recognition whose window has been timed in the ordinary way: where a candidate timing has
run since an instant, the recognition is the one that needs no timing (log 7), made at the instant at which
the window elapses (logs 5, 45), with the timing ended. So the statements for an untimed line give the event
of every timed recognition. -/
def Obligations.CopierInputsFiltered : Prop :=
  (∀ (s : State) (i : StationId) (m : Line) (v : Bool) (l : LineState), (s.station i).lines.get m = l →
      ∃ l', exec (.rawLevelChange i m v) s =
          .next (s.setStation i { s.station i with lines := (s.station i).lines.set m l' }) ∧
        l'.raw = v ∧ l'.level = l.level ∧
        (s.running = false → l'.timing = l.timing) ∧
        (s.running = true → v = l.level → l'.timing = none) ∧
        (s.running = true → v ≠ l.level → l.timing = none → l'.timing = some ⟨s.now, false⟩) ∧
        (s.running = true → v ≠ l.level → l.timing ≠ none → l'.timing = l.timing)) ∧
  (∀ (s : State) (i : StationId) (m : Line) (v : Bool), s.running = true →
      ((s.station i).lines.get m).level ≠ v →
      m = .colour ∨ m = .large ∨ m = .duplex ∨ ((m = .feed ∨ m = .deliver ∨ m = .stopped) ∧ v = false) →
      ∃ n, s.now ≤ n ∧ exec (.lineLevelRecognized i m v) s = .next
        (({ s with now := n } : State).setStation i
          { s.station i with lines := (s.station i).lines.set m { raw := v, level := v, timing := none } })) ∧
  (∀ (s : State) (i : StationId) (b : Bool) (since : Nat), s.running = true →
      let m : Line := if b then .feed else .deliver
      ((s.station i).lines.get m).level = false →
      ((s.station i).lines.get m).timing = some ⟨since, true⟩ →
      exec (if b then .feed i else .delivery i) s = .next
        (({ s with now := max s.now (since + (s.station i).profile.pulseWindow) } : State).setStation i
          { s.station i with
            lines := (s.station i).lines.set m { raw := true, level := true, timing := none } })) ∧
  (∀ (s : State) (i : StationId) (m : Line) (v : Bool) (since : Nat) (c : Instr), s.running = true →
      ((s.station i).lines.get m).level = !v → ((s.station i).lines.get m).timing = some ⟨since, false⟩ →
      c = .lineLevelRecognized i m v ∨ (m = .feed ∧ v = true ∧ c = .feed i) ∨
        (m = .deliver ∧ v = true ∧ c = .delivery i) ∨ (m = .jam ∧ v = true ∧ c = .jamRise i) ∨
        (m = .jam ∧ v = false ∧ c = .jamFall i) ∨ (m = .ready ∧ v = true ∧ c = .readyRise i) ∨
        (m = .ready ∧ v = false ∧ c = .readyFall i) ∨ (m = .stopped ∧ v = true ∧ c = .stoppedRise i) →
      exec c s = exec c (({ s with now := max s.now (since +
          (if m = .jam ∨ m = .ready ∨ m = .stopped then (s.station i).profile.levelWindow
            else (s.station i).profile.pulseWindow)) } : State).setStation i
        { s.station i with
          lines := (s.station i).lines.set m { (s.station i).lines.get m with timing := none } }))

/-- In each clause the FEED line carries no candidate timing: the recognition is immediate, as log 7 lets a
command be; TimedRecognition in CopierInputsFiltered carries each to the timed one. R6, R8, R87 (first line):
a feed at a READY station with no session, room in its path and a duration for the linked timer joins the list
UNPERMITTED, with the next number and the kind of the recognized lines, and reloads that timer; nothing else
changes. R6, R8, R87, R40: a feed at a station of any state but SAVE, with no session and room in its path: it
joins the list UNPERMITTED with no serial; the linked timer is reloaded except while OFFLINE or for a duration
of NONE. R40, R45, R26, R8: a feed at a SAVE station with no session wakes it into READY with STATION-CHANGE
and joins its path; the quiet test that ends the event finds the path not empty. R87, R88, R92: a feed in an
ACTIVE session of a READY station: COVERED when its price fits the available credit, with its price into
pending and its kind as last kind; UNCOVERED when it does not, with no money moved. Charged and hold stand in
both. R87, R88, R82, R85, R93: a feed while PERMIT is asserted, in an ACTIVE, HOLDING or HELD session: COVERED
with the tier and ceiling brought up to date and the pause evaluated, or UNCOVERED with neither. R87, R73: a
feed while PERMIT is deasserted at a station with a session, of any station state but SAVE and any session
state: UNPERMITTED with the session's serial, counted as fed, no money moved and no pause evaluated. R10,
R111, R34, R110: a feed that finds eight sheets in the path of a READY or NOT-READY station with no session
hands nine sheets to a jam of cause OVERRUN, through the exit test into RECOVER where the levels allow it.
R10, R88, R93, R112, R34: the same overrun at a station with an ACTIVE, HOLDING or HELD session. The ninth
sheet is covered as at any feed and leaves the session as fed and the station as mid; a COVERED one evaluates
the pause there, and the hand-over releases all nine sheets and evaluates it again, in that order, which is
the model's choice (log 44). R10, R87, R112, R113, R68, R72: the same overrun with an AUTHORIZING session,
whose nine sheets are counted as fed and jammed with no pause evaluation, and with a CLOSING COUNTER session,
which is settled in the same event for what was delivered; a stop-pending one leaves the station OFFLINE with
the record CLOSED. R10, R30: an overrun at an OFFLINE station writes the nine sheets off: a record of cause
OVERRUN opened and closed in the event with every sheet lost, JAM posted, the station OFFLINE and its idle
timers as before. R10, R114, R112, R34: an overrun at a JAMMED or RECOVER station folds the nine sheets into
the open record, the repeat count up by one; the exit test leaves the station in RECOVER with a fresh purge
window or in JAMMED. A session that copies counts its own of the sheets as fed and jammed, and its pause is
evaluated. -/
def Obligations.FeedJoinsPath : Prop :=
  (∀ (s : State) (i : StationId) (d : Nat), s.running = true →
      (s.station i).lines.feed.level = false → (s.station i).lines.feed.timing = none →
      (s.station i).session = none → (s.station i).path.length < 8 →
      (s.station i).state = .ready →
      (s.station i).duration (s.station i).profile.linkFeed = some d →
      exec (.feed i) s = .next
        (s.setStation i (({ s.station i with
            lines := { (s.station i).lines with feed := { raw := true, level := true, timing := none } }
            lastSheet := ((s.station i).lastSheet + 1) % 65536
            path := (s.station i).path ++
              [{ number := ((s.station i).lastSheet + 1) % 65536
                 kind := ⟨(if (s.station i).lines.colour.level then 4 else 0) +
                   (if (s.station i).lines.large.level then 2 else 0) +
                   (if (s.station i).lines.duplex.level then 1 else 0),
                   by split <;> split <;> split <;> decide⟩
                 fedAt := s.now, coverage := .unpermitted, serial := none }] } : Station).setTimer
          (s.station i).profile.linkFeed (.running (s.now + 1000 * d))))) ∧
  (∀ (s : State) (i : StationId) (e : Sheet) (fed : Station), s.running = true →
      (s.station i).lines.feed.level = false → (s.station i).lines.feed.timing = none →
      (s.station i).session = none → (s.station i).path.length < 8 → (s.station i).state ≠ .save →
      e = { number := ((s.station i).lastSheet + 1) % 65536, kind := (s.station i).lines.kind, fedAt := s.now
            coverage := .unpermitted, serial := none } →
      fed = { s.station i with
        lines := { (s.station i).lines with feed := { raw := true, level := true, timing := none } }
        lastSheet := ((s.station i).lastSheet + 1) % 65536
        path := (s.station i).path ++ [e] } →
      ((s.station i).state = .offline ∨ (s.station i).duration (s.station i).profile.linkFeed = none →
        exec (.feed i) s = .next (s.setStation i fed)) ∧
      (∀ d, (s.station i).state ≠ .offline → (s.station i).duration (s.station i).profile.linkFeed = some d →
        exec (.feed i) s = .next (s.setStation i
          (fed.setTimer (s.station i).profile.linkFeed (.running (s.now + 1000 * d)))))) ∧
  (∀ (s : State) (i : StationId), s.running = true →
      (s.station i).lines.feed.level = false → (s.station i).lines.feed.timing = none →
      (s.station i).session = none → (s.station i).path.length < 8 → (s.station i).state = .save →
      ∃ t e, exec (.feed i) s = .next t ∧ (t.station i).state = .ready ∧
        (t.station i).path = (s.station i).path ++ [e] ∧ e.coverage = .unpermitted ∧ e.serial = none ∧
        e.number = ((s.station i).lastSheet + 1) % 65536 ∧ e.kind = (s.station i).lines.kind ∧ e.fedAt = s.now ∧
        (s.station i).Reloaded s.now (s.station i).profile.linkFeed (t.station i) ∧
        (t.station i).session = none ∧ (t.station i).meters = (s.station i).meters ∧
        t.notices = insertNotice ⟨.stationChange, i.val + 1⟩ s.notices ∧
        t.journal = s.journal ∧ t.slots = s.slots ∧ ∀ j, j ≠ i → t.station j = s.station j) ∧
  (∀ (s : State) (i : StationId) (x : Session) (price : Nat), s.running = true →
      (s.station i).lines.feed.level = false → (s.station i).lines.feed.timing = none →
      (s.station i).session = some x → (s.station i).state = .ready → x.phase = .active → x.suspended = false →
      (s.station i).path.length < 8 → price = x.plan.priceAt x.rate x.tier (s.station i).lines.kind →
      ∃ t y e, exec (.feed i) s = .next t ∧ (t.station i).session = some y ∧
        (t.station i).path = (s.station i).path ++ [e] ∧
        e.number = ((s.station i).lastSheet + 1) % 65536 ∧ e.kind = (s.station i).lines.kind ∧
        e.fedAt = s.now ∧ e.serial = some x.serial ∧
        y.fed = min 4294967295 (x.fed + 1) ∧ y.charged = x.charged ∧ y.hold = x.hold ∧ y.serial = x.serial ∧
        (price ≤ 10 * x.hold - x.charged - x.pending →
          e.coverage = .covered price ∧ y.pending = x.pending + price ∧
          y.lastKind = some (s.station i).lines.kind) ∧
        (10 * x.hold - x.charged - x.pending < price →
          e.coverage = .uncovered price ∧ y.pending = x.pending ∧ y.lastKind = x.lastKind ∧ y.tier = x.tier ∧
          y.phase = .active) ∧
        (∀ j, j ≠ i → t.station j = s.station j) ∧ t.slots = s.slots ∧ t.journal = s.journal ∧
        t.reservations = s.reservations) ∧
  (∀ (s : State) (i : StationId) (x : Session) (price : Nat) (e : Sheet), s.running = true →
      (s.station i).lines.feed.level = false → (s.station i).lines.feed.timing = none →
      (s.station i).session = some x → s.permit i = true → (s.station i).path.length < 8 →
      price = x.plan.priceAt x.rate x.tier (s.station i).lines.kind →
      e = { number := ((s.station i).lastSheet + 1) % 65536, kind := (s.station i).lines.kind, fedAt := s.now
            coverage := if price ≤ 10 * x.hold - x.charged - x.pending then .covered price else .uncovered price
            serial := some x.serial } →
      ∃ t y, exec (.feed i) s = .next t ∧ (t.station i).path = (s.station i).path ++ [e] ∧
        (t.station i).session = some y ∧
        (s.station i).Reloaded s.now (s.station i).profile.linkFeed (t.station i) ∧
        (price ≤ 10 * x.hold - x.charged - x.pending →
          (∃ tier ceiling phase forced, y = { x with
            fed := min 4294967295 (x.fed + 1), pending := x.pending + price
            clamped := x.clamped || x.plan.clampsAt x.rate x.tier (s.station i).lines.kind
            lastKind := some (s.station i).lines.kind
            tier := tier, ceiling := ceiling, phase := phase, forced := forced }) ∧
          x.Tiered y ((s.station i).path ++ [e]) ∧ (s.station i).PauseFollows (t.station i) s.now x y ∧
          t.notices = pauseNotices (s.station i) i x y s.notices) ∧
        (10 * x.hold - x.charged - x.pending < price →
          y = { x with
            fed := min 4294967295 (x.fed + 1)
            clamped := x.clamped || x.plan.clampsAt x.rate x.tier (s.station i).lines.kind } ∧
          (t.station i).pauseTimer = (s.station i).pauseTimer ∧ (t.station i).reader = (s.station i).reader ∧
          t.notices = s.notices) ∧
        (t.station i).state = .ready ∧ (t.station i).meters = (s.station i).meters ∧
        t.journal = s.journal ∧ t.slots = s.slots ∧ ∀ j, j ≠ i → t.station j = s.station j) ∧
  (∀ (s : State) (i : StationId) (x : Session), s.running = true →
      (s.station i).lines.feed.level = false → (s.station i).lines.feed.timing = none →
      (s.station i).session = some x → s.permit i = false → (s.station i).path.length < 8 →
      (s.station i).state ≠ .save →
      ∃ t, exec (.feed i) s = .next t ∧
        (t.station i).path = (s.station i).path ++ [{ number := ((s.station i).lastSheet + 1) % 65536
                                                      kind := (s.station i).lines.kind, fedAt := s.now
                                                      coverage := .unpermitted, serial := some x.serial }] ∧
        (t.station i).session = some { x with fed := min 4294967295 (x.fed + 1) } ∧
        (s.station i).Reloaded s.now (s.station i).profile.linkFeed (t.station i) ∧
        (t.station i).state = (s.station i).state ∧ (t.station i).pauseTimer = (s.station i).pauseTimer ∧
        (t.station i).reader = (s.station i).reader ∧ (t.station i).meters = (s.station i).meters ∧
        t.notices = s.notices ∧ t.journal = s.journal ∧ t.slots = s.slots ∧
        ∀ j, j ≠ i → t.station j = s.station j) ∧
  (∀ (s : State) (i : StationId) (healthy : Prop) [Decidable healthy], s.running = true →
      (s.station i).lines.feed.level = false → (s.station i).lines.feed.timing = none →
      (s.station i).session = none → (s.station i).path.length = 8 →
      (s.station i).state = .ready ∨ (s.station i).state = .notReady →
      (healthy ↔ (s.station i).lines.jam.level = false ∧ (s.station i).lines.ready.level = true) →
      ∃ t r, exec (.feed i) s = .next t ∧ (t.station i).path = [] ∧
        (t.station i).state = (if healthy then .recover else .jammed) ∧
        (t.station i).lastSheet = ((s.station i).lastSheet + 1) % 65536 ∧
        (t.station i).jam = some r ∧ r.cause = .overrun ∧ r.inDoubt = 9 ∧ r.purged = 0 ∧ r.repeats = 0 ∧
        r.lost = none ∧ r.stamp = s.stamp ∧ r.serial = ((s.station i).jamSerial + 1) % 65536 ∧
        (t.station i).meters = { (s.station i).meters with
          jammed := ((s.station i).meters.jammed + 9) % 100000000 } ∧
        (healthy → (t.station i).purgeTimer = some (s.now + 1000 * (s.station i).profile.purgeWindow)) ∧
        t.notices = (if healthy then
            insertNotice ⟨.stationChange, i.val + 1⟩ (insertNotice ⟨.jam, i.val + 1⟩ s.notices)
          else insertNotice ⟨.jam, i.val + 1⟩ s.notices) ∧ t.journal = s.journal ∧ t.slots = s.slots ∧
        ∀ j, j ≠ i → t.station j = s.station j) ∧
  (∀ (s : State) (i : StationId) (x : Session) (price : Nat) (e : Sheet) (healthy : Prop) [Decidable healthy],
      s.running = true → (s.station i).lines.feed.level = false → (s.station i).lines.feed.timing = none →
      (s.station i).session = some x → x.copying = true → (s.station i).path.length = 8 →
      (s.station i).state = .ready ∨ (s.station i).state = .notReady →
      (healthy ↔ (s.station i).lines.jam.level = false ∧ (s.station i).lines.ready.level = true) →
      price = x.plan.priceAt x.rate x.tier (s.station i).lines.kind →
      e = { number := ((s.station i).lastSheet + 1) % 65536, kind := (s.station i).lines.kind, fedAt := s.now
            coverage :=
              if s.permit i then
                if price ≤ 10 * x.hold - x.charged - x.pending then .covered price else .uncovered price
              else .unpermitted
            serial := some x.serial } →
      ∃ t fed mid y r, exec (.feed i) s = .next t ∧ mid.profile = (s.station i).profile ∧
        (e.isCovered = true →
          (∃ tier ceiling phase forced, fed = { x with
            fed := min 4294967295 (x.fed + 1), pending := x.pending + price
            clamped := x.clamped || x.plan.clampsAt x.rate x.tier (s.station i).lines.kind
            lastKind := some (s.station i).lines.kind
            tier := tier, ceiling := ceiling, phase := phase, forced := forced }) ∧
          x.Tiered fed ((s.station i).path ++ [e]) ∧ (s.station i).PauseFollows mid s.now x fed) ∧
        (e.isCovered = false →
          fed = { x with
            fed := min 4294967295 (x.fed + 1)
            clamped := x.clamped ||
              (s.permit i && x.plan.clampsAt x.rate x.tier (s.station i).lines.kind) } ∧
          mid.pauseTimer = (s.station i).pauseTimer ∧ mid.reader = (s.station i).reader) ∧
        (t.station i).session = some y ∧ fed.Released y ((s.station i).path ++ [e]) ∧
        mid.PauseFollows (t.station i) s.now fed y ∧ (t.station i).path = [] ∧
        (t.station i).state = (if healthy then .recover else .jammed) ∧
        (t.station i).lastSheet = ((s.station i).lastSheet + 1) % 65536 ∧
        (s.station i).Reloaded s.now (s.station i).profile.linkFeed (t.station i) ∧
        (t.station i).jam = some r ∧ r.cause = .overrun ∧ r.inDoubt = 9 ∧ r.purged = 0 ∧ r.repeats = 0 ∧
        r.lost = none ∧ r.stamp = s.stamp ∧ r.serial = ((s.station i).jamSerial + 1) % 65536 ∧
        (t.station i).meters = { (s.station i).meters with
          jammed := ((s.station i).meters.jammed + 9) % 100000000 } ∧
        (healthy → (t.station i).purgeTimer = some (s.now + 1000 * (s.station i).profile.purgeWindow)) ∧
        t.notices =
          (let posted := insertNotice ⟨.jam, i.val + 1⟩ (pauseNotices mid i fed y
            (if e.isCovered then pauseNotices (s.station i) i x fed s.notices else s.notices))
          if healthy then insertNotice ⟨.stationChange, i.val + 1⟩ posted else posted) ∧
        t.reservations = s.reservations ∧ t.journal = s.journal ∧ t.slots = s.slots ∧
        ∀ j, j ≠ i → t.station j = s.station j) ∧
  (∀ (s : State) (i : StationId) (x : Session) (healthy : Prop) [Decidable healthy] (path : List Sheet),
      s.running = true → (s.station i).lines.feed.level = false → (s.station i).lines.feed.timing = none →
      (s.station i).session = some x → x.suspended = false → (s.station i).path.length = 8 →
      (s.station i).state = .ready ∨ (s.station i).state = .notReady →
      (healthy ↔ (s.station i).lines.jam.level = false ∧ (s.station i).lines.ready.level = true) →
      path = (s.station i).path ++
        [{ number := ((s.station i).lastSheet + 1) % 65536, kind := (s.station i).lines.kind, fedAt := s.now
           coverage := .unpermitted, serial := some x.serial }] →
      (x.phase = .authorizing → ∃ t y r, exec (.feed i) s = .next t ∧ (t.station i).path = [] ∧
        (t.station i).state = (if healthy then .recover else .jammed) ∧
        (t.station i).jam = some r ∧ r.cause = .overrun ∧ r.inDoubt = 9 ∧ r.lost = none ∧
        (t.station i).session = some y ∧ y.phase = .authorizing ∧ y.forced = x.forced ∧
        Session.Released { x with fed := min 4294967295 (x.fed + 1) } y path ∧
        (t.station i).reader = (s.station i).reader ∧ (t.station i).authTimer = (s.station i).authTimer ∧
        (t.station i).meters.jammed = ((s.station i).meters.jammed + 9) % 100000000 ∧
        t.notices = (if healthy then
            insertNotice ⟨.stationChange, i.val + 1⟩ (insertNotice ⟨.jam, i.val + 1⟩ s.notices)
          else insertNotice ⟨.jam, i.val + 1⟩ s.notices) ∧
        t.reservations = s.reservations ∧ t.journal = s.journal ∧ t.slots = s.slots ∧
        ∀ j, j ≠ i → t.station j = s.station j) ∧
      (∀ reason ref, x.phase = .closing reason → x.payment = .counter ref →
        ∃ t q r, exec (.feed i) s = .next t ∧ (t.station i).path = [] ∧ (t.station i).session = none ∧
        (t.station i).state = (if x.stopPending then .offline else if healthy then .recover else .jammed) ∧
        (t.station i).jam = some r ∧ r.cause = .overrun ∧ r.inDoubt = 9 ∧
        r.lost = (if x.stopPending then some 9 else none) ∧
        t.journal = s.journal ++ [.settle q] ∧ q.reason = reason ∧ q.charged = (x.charged + 5) / 10 ∧
        q.sessionSerial = x.serial ∧ q.jammed = min 4294967295
          (x.jammed + (path.filter fun e => decide (e.serial = some x.serial)).length) ∧
        (t.station i).reader = (s.station i).reader.produce (.closed ((x.charged + 5) / 10)) ∧
        (t.station i).timerA =
          (if x.stopPending then .stopped else loadedTimer s.now (codeSeconds (s.station i).profile.idleA)) ∧
        (t.station i).timerB =
          (if x.stopPending then .stopped else loadedTimer s.now (codeSeconds (s.station i).profile.idleB)) ∧
        (t.station i).meters.jammed = ((s.station i).meters.jammed + 9) % 100000000 ∧
        (t.station i).meters.lost =
          (if x.stopPending then ((s.station i).meters.lost + 9) % 100000000 else (s.station i).meters.lost) ∧
        t.notices =
          (let posted := insertNotice ⟨.sessionClosed, i.val + 1⟩ (if healthy then
              insertNotice ⟨.stationChange, i.val + 1⟩ (insertNotice ⟨.jam, i.val + 1⟩ s.notices)
            else insertNotice ⟨.jam, i.val + 1⟩ s.notices)
          if x.stopPending then insertNotice ⟨if healthy then .recovered else .stationChange, i.val + 1⟩ posted
          else posted) ∧
        t.reservations = s.reservations - 1 ∧ t.slots = s.slots ∧ ∀ j, j ≠ i → t.station j = s.station j)) ∧
  (∀ (s : State) (i : StationId), s.running = true →
      (s.station i).lines.feed.level = false → (s.station i).lines.feed.timing = none →
      (s.station i).session = none → (s.station i).path.length = 8 → (s.station i).state = .offline →
      ∃ t r, exec (.feed i) s = .next t ∧ (t.station i).path = [] ∧ (t.station i).state = .offline ∧
        (t.station i).session = none ∧ (t.station i).lastSheet = ((s.station i).lastSheet + 1) % 65536 ∧
        (t.station i).jam = some r ∧ r.cause = .overrun ∧ r.inDoubt = 9 ∧ r.purged = 0 ∧ r.repeats = 0 ∧
        r.lost = some 9 ∧ r.stamp = s.stamp ∧ r.serial = ((s.station i).jamSerial + 1) % 65536 ∧
        (t.station i).meters = { (s.station i).meters with
          jammed := ((s.station i).meters.jammed + 9) % 100000000
          lost := ((s.station i).meters.lost + 9) % 100000000
          purged := (s.station i).meters.purged % 100000000 } ∧
        (t.station i).timerA = (s.station i).timerA ∧ (t.station i).timerB = (s.station i).timerB ∧
        t.notices = insertNotice ⟨.jam, i.val + 1⟩ s.notices ∧ t.journal = s.journal ∧ t.slots = s.slots ∧
        ∀ j, j ≠ i → t.station j = s.station j) ∧
  (∀ (s : State) (i : StationId) (r : JamRecord) (healthy : Prop) [Decidable healthy] (path : List Sheet)
        (serial : Option Nat), s.running = true →
      (s.station i).lines.feed.level = false → (s.station i).lines.feed.timing = none →
      (s.station i).path.length = 8 → (s.station i).state = .jammed ∨ (s.station i).state = .recover →
      (s.station i).jam = some r → r.purged ≤ r.inDoubt → r.inDoubt + 9 ≤ 4294967295 →
      (healthy ↔ (s.station i).lines.jam.level = false ∧ (s.station i).lines.ready.level = true) →
      serial = (s.station i).session.map Session.serial →
      path = (s.station i).path ++
        [{ number := ((s.station i).lastSheet + 1) % 65536, kind := (s.station i).lines.kind, fedAt := s.now
           coverage := .unpermitted, serial := serial }] →
      (∀ x, (s.station i).session = some x → x.copying = true) →
      ∃ t listed, exec (.feed i) s = .next t ∧ (t.station i).path = [] ∧
        (t.station i).state = (if healthy then .recover else .jammed) ∧
        (t.station i).lastSheet = ((s.station i).lastSheet + 1) % 65536 ∧
        (t.station i).purgeTimer =
          (if healthy then some (s.now + 1000 * (s.station i).profile.purgeWindow) else none) ∧
        (t.station i).jam = some { r with
          inDoubt := r.inDoubt + 9, repeats := min 255 (r.repeats + 1), listed := listed } ∧
        (t.station i).meters = { (s.station i).meters with
          jammed := ((s.station i).meters.jammed + 9) % 100000000 } ∧
        (s.station i).Reloaded s.now (s.station i).profile.linkFeed (t.station i) ∧
        ((s.station i).session = none → (t.station i).session = none ∧
          (t.station i).reader = (s.station i).reader ∧
          t.notices = (if healthy then
              insertNotice ⟨.stationChange, i.val + 1⟩ (insertNotice ⟨.jam, i.val + 1⟩ s.notices)
            else insertNotice ⟨.jam, i.val + 1⟩ s.notices)) ∧
        (∀ x, (s.station i).session = some x → ∃ y, (t.station i).session = some y ∧
          Session.Released { x with fed := min 4294967295 (x.fed + 1) } y path ∧
          (s.station i).PauseFollows (t.station i) s.now x y ∧
          t.notices =
            (let posted := insertNotice ⟨.jam, i.val + 1⟩ (pauseNotices (s.station i) i x y s.notices)
            if healthy then insertNotice ⟨.stationChange, i.val + 1⟩ posted else posted)) ∧
        t.journal = s.journal ∧ t.slots = s.slots ∧ ∀ j, j ≠ i → t.station j = s.station j)

/-- R11, R12, R89: a delivery with more than one sheet in the path pops the oldest, counts it on the meters,
and moves a COVERED price of the present session from pending to charged; an entry of another session changes
no session. The line carries no candidate timing here (log 7); TimedRecognition in CopierInputsFiltered
carries each clause to the timed recognition. R11, R12, R14, R68, R70: the delivery of the last sheet in the
path of a CLOSING COUNTER session charges it, where it is a COVERED sheet of that session, and settles the
session in the same event. R11, R68, R72, R28, R29: the delivery of the last sheet in the path of a CLOSING
COUNTER session that is stop-pending settles it, and the station enters OFFLINE in the same event with both
idle timers stopped. R11, R12, R14, R89, R93, R42: the delivery of the only sheet in the path, at a station
without a session or with one that is not CLOSING: the meters of its kind and coverage rise, and the session
whose serial it carries moves a COVERED price from pending to charged or counts the sheet, with the pause
evaluation where it copies. The quiet test of the empty-path report finds nothing here: the station is not
READY, or the activity's timer runs anew, or the station was not quiet, or the session does not copy. (A SAVE
station has no sheet in its path.) R14, R42, R43, R44, R40: the delivery of the only sheet in the path of a
READY station that is quiet, with no duration for the timer that DELIVER is linked to: without a session the
station enters SAVE with STATION-CHANGE; a COUNTER session that copies takes the delivery and its pause
evaluation, which leave it as counted and the station as mid, and is then closed as abandoned and settled in
the same event. R11, R12, R89, R93: a delivery, with another sheet behind it: the meters of its kind and of
its coverage rise, and the present session whose serial it carries moves a COVERED price from pending to
charged or counts the sheet, an UNCOVERED one with its would-be price; the pause evaluation follows where the
session copies. R13, R117: a delivery that finds an empty path is an orphan, or in RECOVER with purges
outstanding a purge, which raises no meter. R117, R118, R20: the purge that brings the purged count to the in-
doubt count ends RECOVER in the same event: the record closes with nothing lost, the purged meter rises, READY
and RECOVERED. -/
def Obligations.DeliveryTakesOldest : Prop :=
  (∀ (s : State) (i : StationId) (e f : Sheet) (rest : List Sheet), s.running = true →
      (s.station i).lines.deliver.level = false → (s.station i).lines.deliver.timing = none →
      (s.station i).path = e :: f :: rest → s.now < f.fedAt + 1000 * (s.station i).profile.transitLimit →
      ∃ t, exec (.delivery i) s = .next t ∧ (t.station i).path = f :: rest ∧
        (∀ k : Kind, (t.station i).meters.delivered[k.val] =
          if k = e.kind then ((s.station i).meters.delivered[k.val] + 1) % 100000000
          else (s.station i).meters.delivered[k.val]) ∧
        (t.station i).meters.jammed = (s.station i).meters.jammed ∧
        (t.station i).meters.orphan = (s.station i).meters.orphan ∧
        (∀ x p, (s.station i).session = some x → e.serial = some x.serial → e.coverage = .covered p →
          ∃ y, (t.station i).session = some y ∧ y.charged = x.charged + p ∧ y.pending = x.pending - p ∧
            y.hold = x.hold ∧
            y.covered[e.kind.val] = min 4294967295 (x.covered[e.kind.val] + 1)) ∧
        (∀ x, (s.station i).session = some x → e.serial ≠ some x.serial → (t.station i).session = some x) ∧
        (∀ j, j ≠ i → t.station j = s.station j) ∧ t.slots = s.slots ∧ t.journal = s.journal) ∧
  (∀ (s : State) (i : StationId) (e : Sheet) (x : Session) (p ref : Nat) (reason : CloseReason),
      s.running = true → (s.station i).state ≠ .save →
      (s.station i).lines.deliver.level = false → (s.station i).lines.deliver.timing = none →
      (s.station i).path = [e] → (s.station i).session = some x → x.phase = .closing reason →
      x.suspended = false → x.stopPending = false → x.payment = .counter ref →
      p = (if e.serial = some x.serial then e.coveredPrice else 0) →
      ∃ t r, exec (.delivery i) s = .next t ∧ (t.station i).session = none ∧ (t.station i).path = [] ∧
        (t.station i).state = (s.station i).state ∧
        (t.station i).timerA = loadedTimer s.now (codeSeconds (s.station i).profile.idleA) ∧
        (t.station i).timerB = loadedTimer s.now (codeSeconds (s.station i).profile.idleB) ∧
        (t.station i).reader = (s.station i).reader.produce (.closed ((x.charged + p + 5) / 10)) ∧
        t.notices = insertNotice ⟨.sessionClosed, i.val + 1⟩ s.notices ∧
        t.journal = s.journal ++ [.settle r] ∧ r.charged = (x.charged + p + 5) / 10 ∧ r.reason = reason ∧
        r.sessionSerial = x.serial ∧ r.serial = (s.recordSerial + 1) % 4294967296 ∧
        t.reservations = s.reservations - 1 ∧ t.slots = s.slots ∧ ∀ j, j ≠ i → t.station j = s.station j) ∧
  (∀ (s : State) (i : StationId) (e : Sheet) (x : Session) (p ref : Nat) (reason : CloseReason),
      s.running = true → (s.station i).state = .ready ∨ (s.station i).state = .notReady →
      (s.station i).lines.deliver.level = false → (s.station i).lines.deliver.timing = none →
      (s.station i).path = [e] → (s.station i).session = some x → x.phase = .closing reason →
      x.suspended = false → x.stopPending = true → x.payment = .counter ref →
      p = (if e.serial = some x.serial then e.coveredPrice else 0) →
      ∃ t r, exec (.delivery i) s = .next t ∧ (t.station i).session = none ∧ (t.station i).path = [] ∧
        (t.station i).state = .offline ∧ (t.station i).timerA = .stopped ∧ (t.station i).timerB = .stopped ∧
        t.journal = s.journal ++ [.settle r] ∧ r.charged = (x.charged + p + 5) / 10 ∧ r.reason = reason ∧
        r.sessionSerial = x.serial ∧ r.serial = (s.recordSerial + 1) % 4294967296 ∧
        (t.station i).reader = (s.station i).reader.produce (.closed ((x.charged + p + 5) / 10)) ∧
        t.notices = insertNotice ⟨.stationChange, i.val + 1⟩ (insertNotice ⟨.sessionClosed, i.val + 1⟩ s.notices) ∧
        t.reservations = s.reservations - 1 ∧ t.slots = s.slots ∧ ∀ j, j ≠ i → t.station j = s.station j) ∧
  (∀ (s : State) (i : StationId) (e : Sheet), s.running = true → (s.station i).state ≠ .save →
      (s.station i).lines.deliver.level = false → (s.station i).lines.deliver.timing = none →
      (s.station i).path = [e] →
      (∀ x, (s.station i).session = some x → x.phase.closeReason = none) →
      ((s.station i).state ≠ .ready ∨ (s.station i).quiet = false ∨
        (∃ d, (s.station i).duration (s.station i).profile.linkDeliver = some d) ∨
        ∃ x, (s.station i).session = some x ∧ x.copying = false) →
      ∃ t, exec (.delivery i) s = .next t ∧ (t.station i).path = [] ∧
        (t.station i).state = (s.station i).state ∧
        (s.station i).Reloaded s.now (s.station i).profile.linkDeliver (t.station i) ∧
        (t.station i).meters = (s.station i).meters.afterDelivery e ∧
        ((s.station i).session = none → (t.station i).session = none ∧
          (t.station i).reader = (s.station i).reader ∧ t.notices = s.notices) ∧
        (∀ x, (s.station i).session = some x → e.serial ≠ some x.serial → (t.station i).session = some x ∧
          (t.station i).pauseTimer = (s.station i).pauseTimer ∧ (t.station i).reader = (s.station i).reader ∧
          t.notices = s.notices) ∧
        (∀ x, (s.station i).session = some x → e.serial = some x.serial →
          (x.copying = false → (t.station i).session = some (x.afterDelivery e) ∧
            (t.station i).pauseTimer = (s.station i).pauseTimer ∧ (t.station i).reader = (s.station i).reader ∧
            t.notices = s.notices) ∧
          (x.copying = true → ∃ phase forced,
            (t.station i).session = some { x.afterDelivery e with phase := phase, forced := forced } ∧
            (s.station i).PauseFollows (t.station i) s.now x { x.afterDelivery e with phase := phase, forced := forced } ∧
            t.notices = pauseNotices (s.station i) i x { x.afterDelivery e with phase := phase, forced := forced }
              s.notices)) ∧
        t.reservations = s.reservations ∧ t.journal = s.journal ∧ t.slots = s.slots ∧
        ∀ j, j ≠ i → t.station j = s.station j) ∧
  (∀ (s : State) (i : StationId) (e : Sheet), s.running = true → (s.station i).state = .ready →
      (s.station i).lines.deliver.level = false → (s.station i).lines.deliver.timing = none →
      (s.station i).path = [e] → (s.station i).quiet = true →
      (s.station i).duration (s.station i).profile.linkDeliver = none →
      ((s.station i).session = none → exec (.delivery i) s = .next
        { s.setStation i { s.station i with
            lines := { (s.station i).lines with deliver := { raw := true, level := true, timing := none } }
            state := .save
            path := []
            meters := (s.station i).meters.afterDelivery e } with
          notices := insertNotice ⟨.stationChange, i.val + 1⟩ s.notices }) ∧
      (∀ x ref, (s.station i).session = some x → x.copying = true → x.stopPending = false →
        x.payment = .counter ref →
        ∃ t counted mid r, exec (.delivery i) s = .next t ∧ mid.profile = (s.station i).profile ∧
          (e.serial = some x.serial → ∃ phase forced,
            counted = { x.afterDelivery e with phase := phase, forced := forced } ∧
            (s.station i).PauseFollows mid s.now x counted) ∧
          (e.serial ≠ some x.serial → counted = x ∧ mid.reader = (s.station i).reader) ∧
          (t.station i).state = .ready ∧ (t.station i).session = none ∧ (t.station i).path = [] ∧
          (t.station i).pauseTimer = none ∧ (t.station i).meters = (s.station i).meters.afterDelivery e ∧
          t.journal = s.journal ++ [.settle r] ∧ r.reason = .walkAway ∧ r.charged = (counted.charged + 5) / 10 ∧
          r.sessionSerial = x.serial ∧ r.covered = counted.covered ∧ r.uncovered = counted.uncovered ∧
          r.unpermitted = counted.unpermitted ∧
          (t.station i).reader = mid.reader.produce (.closed ((counted.charged + 5) / 10)) ∧
          (t.station i).timerA = loadedTimer s.now (codeSeconds (s.station i).profile.idleA) ∧
          (t.station i).timerB = loadedTimer s.now (codeSeconds (s.station i).profile.idleB) ∧
          t.notices = insertNotice ⟨.sessionClosed, i.val + 1⟩
            (if e.serial = some x.serial then pauseNotices (s.station i) i x counted s.notices else s.notices) ∧
          t.reservations = s.reservations - 1 ∧ t.slots = s.slots ∧ ∀ j, j ≠ i → t.station j = s.station j)) ∧
  (∀ (s : State) (i : StationId) (e f : Sheet) (rest : List Sheet), s.running = true →
      (s.station i).lines.deliver.level = false → (s.station i).lines.deliver.timing = none →
      (s.station i).path = e :: f :: rest → s.now < f.fedAt + 1000 * (s.station i).profile.transitLimit →
      ∃ t, exec (.delivery i) s = .next t ∧ (t.station i).path = f :: rest ∧
        (t.station i).meters = (s.station i).meters.afterDelivery e ∧
        (∀ x, (s.station i).session = some x → e.serial = some x.serial →
          (x.copying = false → (t.station i).session = some (x.afterDelivery e) ∧
            (t.station i).pauseTimer = (s.station i).pauseTimer) ∧
          (x.copying = true → ∃ phase forced,
            (t.station i).session = some { x.afterDelivery e with phase := phase, forced := forced } ∧
            (s.station i).PauseFollows (t.station i) s.now x { x.afterDelivery e with phase := phase, forced := forced })) ∧
        (∀ x, (s.station i).session = some x → e.serial ≠ some x.serial → (t.station i).session = some x) ∧
        (∀ j, j ≠ i → t.station j = s.station j) ∧ t.slots = s.slots ∧ t.journal = s.journal) ∧
  (∀ (s : State) (i : StationId), s.running = true →
      (s.station i).lines.deliver.level = false → (s.station i).lines.deliver.timing = none →
      (s.station i).path = [] →
      ((s.station i).state ≠ .recover → ((s.station i).state = .save → (s.station i).session = none) →
        ∃ t, exec (.delivery i) s = .next t ∧
        (t.station i).meters =
          { (s.station i).meters with orphan := ((s.station i).meters.orphan + 1) % 100000000 } ∧
        (t.station i).session = (s.station i).session ∧ (t.station i).jam = (s.station i).jam ∧
        t.slots = s.slots ∧ t.journal = s.journal ∧ ∀ j, j ≠ i → t.station j = s.station j) ∧
      (∀ r, (s.station i).state = .recover → (s.station i).jam = some r → r.purged + 1 < r.inDoubt →
        ∃ t, exec (.delivery i) s = .next t ∧ (t.station i).meters = (s.station i).meters ∧
          (t.station i).jam = some { r with purged := r.purged + 1 } ∧
          (t.station i).state = .recover ∧ (t.station i).session = (s.station i).session ∧
          ∀ j, j ≠ i → t.station j = s.station j)) ∧
  (∀ (s : State) (i : StationId) (r : JamRecord), s.running = true →
      (s.station i).lines.deliver.level = false → (s.station i).lines.deliver.timing = none →
      (s.station i).path = [] → (s.station i).state = .recover → (s.station i).jam = some r → r.lost = none →
      r.purged + 1 = r.inDoubt →
      exec (.delivery i) s = .next
        { s.setStation i { s.station i with
            lines := { (s.station i).lines with deliver := { raw := true, level := true, timing := none } }
            state := .ready
            purgeTimer := none
            jam := some { r with purged := r.inDoubt, lost := some 0 }
            meters := { (s.station i).meters with
              lost := (s.station i).meters.lost % 100000000
              purged := ((s.station i).meters.purged + r.inDoubt) % 100000000 }
            timerA := loadedTimer s.now ((s.station i).duration .a)
            timerB := loadedTimer s.now ((s.station i).duration .b) } with
          notices := insertNotice ⟨.recovered, i.val + 1⟩ s.notices })

/-- R33, R111, R30: a JAM rise with an empty path: a READY, NOT-READY or SAVE station opens a record of cause
LINE and stands in JAMMED; an OFFLINE station declares nothing. The line carries no candidate timing here (log
7); TimedRecognition in CopierInputsFiltered carries each clause to the timed recognition. R33, R111, R112,
R34: a JAM rise with an empty path at a READY or NOT-READY station with a session of any state opens a record
with nothing in doubt and leaves the station JAMMED; the session keeps its state and its money, and no pause
is evaluated (log 24): its record stands wherever its tier is in date. R33, R18, R112, R90, R93: a JAM rise
with sheets in the path and an ACTIVE, HOLDING or HELD session releases the session's sheets, brings tier and
ceiling up to date and evaluates the pause; the station stands JAMMED. R113, R112, R70, R72, R29, R118: a JAM
rise with sheets in the path of a CLOSING COUNTER session releases its sheets and settles it in the same
event, charging what was delivered; a stop-pending one leaves the station OFFLINE with its record CLOSED,
another leaves it JAMMED with its record OPEN. R30, R33, R110: a JAM rise at an OFFLINE station with sheets in
its path writes them off: a record of cause LINE opened and closed in the event with every sheet lost, JAM
posted, the station OFFLINE as before. R114: a jam at a JAMMED station folds into its open record: every sheet
of the path in doubt, the repeat count up by one, serial, cause, stamp and purged count kept. R114, R33, R110:
a JAM rise at a RECOVER station with no session folds into its open record: every sheet of the path in doubt,
the repeat count up by one, the purge window stopped, the station back in JAMMED. -/
def Obligations.JamRises : Prop :=
  (∀ (s : State) (i : StationId), s.running = true →
      (s.station i).lines.jam.level = false → (s.station i).lines.jam.timing = none → (s.station i).path = [] →
      ((s.station i).state = .offline → exec (.jamRise i) s = .next
        (s.setStation i { s.station i with
          lines := { (s.station i).lines with jam := { raw := true, level := true, timing := none } } })) ∧
      ((s.station i).state = .ready ∨ (s.station i).state = .notReady ∨ (s.station i).state = .save →
        (s.station i).session = none → ∃ t, exec (.jamRise i) s = .next t ∧
          (t.station i).state = .jammed ∧
          (t.station i).jam = some
            { serial := ((s.station i).jamSerial + 1) % 65536, cause := .line, stamp := s.stamp,
              inDoubt := 0, listed := [], purged := 0, repeats := 0, lost := none } ∧
          t.notices = insertNotice ⟨.jam, i.val + 1⟩ s.notices ∧ t.slots = s.slots ∧ t.journal = s.journal ∧
          ∀ j, j ≠ i → t.station j = s.station j)) ∧
  (∀ (s : State) (i : StationId) (x : Session), s.running = true →
      (s.station i).lines.jam.level = false → (s.station i).lines.jam.timing = none → (s.station i).path = [] →
      (s.station i).session = some x → (s.station i).state = .ready ∨ (s.station i).state = .notReady →
      ∃ t y, exec (.jamRise i) s = .next t ∧ (t.station i).state = .jammed ∧ (t.station i).path = [] ∧
        (t.station i).session = some y ∧ x.Released y [] ∧ y.phase = x.phase ∧ y.forced = x.forced ∧
        (x.jammed ≤ 4294967295 → x.tier = x.plan.tierFor (min 65535 x.covered.toList.sum) → y = x) ∧
        (t.station i).jamSerial = ((s.station i).jamSerial + 1) % 65536 ∧
        (t.station i).jam = some
          { serial := ((s.station i).jamSerial + 1) % 65536, cause := .line, stamp := s.stamp,
            inDoubt := 0, listed := [], purged := 0, repeats := 0, lost := none } ∧
        (t.station i).meters = { (s.station i).meters with jammed := (s.station i).meters.jammed % 100000000 } ∧
        (t.station i).timerA = (s.station i).timerA ∧ (t.station i).timerB = (s.station i).timerB ∧
        (t.station i).pauseTimer = (s.station i).pauseTimer ∧ (t.station i).authTimer = (s.station i).authTimer ∧
        (t.station i).reader = (s.station i).reader ∧
        t.notices = insertNotice ⟨.jam, i.val + 1⟩ s.notices ∧ t.reservations = s.reservations ∧
        t.slots = s.slots ∧ t.journal = s.journal ∧ ∀ j, j ≠ i → t.station j = s.station j) ∧
  (∀ (s : State) (i : StationId) (x : Session) (e : Sheet) (rest : List Sheet), s.running = true →
      (s.station i).lines.jam.level = false → (s.station i).lines.jam.timing = none →
      (s.station i).state = .ready ∨ (s.station i).state = .notReady →
      (s.station i).path = e :: rest → rest.length ≤ 7 → (s.station i).session = some x → x.copying = true →
      ∃ t y r, exec (.jamRise i) s = .next t ∧ (t.station i).state = .jammed ∧ (t.station i).path = [] ∧
        (t.station i).session = some y ∧ x.Released y (e :: rest) ∧
        (s.station i).PauseFollows (t.station i) s.now x y ∧
        (t.station i).jam = some r ∧ r.cause = .line ∧ r.inDoubt = rest.length + 1 ∧ r.purged = 0 ∧ r.repeats = 0 ∧
        r.lost = none ∧ r.stamp = s.stamp ∧ r.serial = ((s.station i).jamSerial + 1) % 65536 ∧
        (t.station i).meters = { (s.station i).meters with
          jammed := ((s.station i).meters.jammed + (rest.length + 1)) % 100000000 } ∧
        t.notices = insertNotice ⟨.jam, i.val + 1⟩ (pauseNotices (s.station i) i x y s.notices) ∧
        t.reservations = s.reservations ∧ t.journal = s.journal ∧ t.slots = s.slots ∧
        ∀ j, j ≠ i → t.station j = s.station j) ∧
  (∀ (s : State) (i : StationId) (x : Session) (e : Sheet) (rest : List Sheet) (ref : Nat) (reason : CloseReason),
      s.running = true → (s.station i).lines.jam.level = false → (s.station i).lines.jam.timing = none →
      (s.station i).state = .ready ∨ (s.station i).state = .notReady →
      (s.station i).path = e :: rest → rest.length ≤ 7 → (s.station i).session = some x →
      x.phase = .closing reason → x.suspended = false → x.payment = .counter ref →
      ∃ t q r, exec (.jamRise i) s = .next t ∧ (t.station i).session = none ∧ (t.station i).path = [] ∧
        t.journal = s.journal ++ [.settle q] ∧ q.reason = reason ∧ q.charged = (x.charged + 5) / 10 ∧
        q.sessionSerial = x.serial ∧
        q.jammed = min 4294967295
          (x.jammed + ((e :: rest).filter fun e => decide (e.serial = some x.serial)).length) ∧
        t.reservations = s.reservations - 1 ∧
        (t.station i).reader = (s.station i).reader.produce (.closed ((x.charged + 5) / 10)) ∧
        (t.station i).jam = some r ∧ r.cause = .line ∧ r.inDoubt = rest.length + 1 ∧ r.purged = 0 ∧
        (x.stopPending = false → (t.station i).state = .jammed ∧ r.lost = none ∧
          (t.station i).timerA = loadedTimer s.now (codeSeconds (s.station i).profile.idleA) ∧
          (t.station i).timerB = loadedTimer s.now (codeSeconds (s.station i).profile.idleB)) ∧
        (x.stopPending = true → (t.station i).state = .offline ∧ r.lost = some (rest.length + 1) ∧
          (t.station i).timerA = .stopped ∧ (t.station i).timerB = .stopped ∧
          (t.station i).meters.lost = ((s.station i).meters.lost + (rest.length + 1)) % 100000000) ∧
        (t.station i).meters.jammed = ((s.station i).meters.jammed + (rest.length + 1)) % 100000000 ∧
        t.notices = (if x.stopPending then insertNotice ⟨.stationChange, i.val + 1⟩
            (insertNotice ⟨.sessionClosed, i.val + 1⟩ (insertNotice ⟨.jam, i.val + 1⟩ s.notices))
          else insertNotice ⟨.sessionClosed, i.val + 1⟩ (insertNotice ⟨.jam, i.val + 1⟩ s.notices)) ∧
        t.slots = s.slots ∧ ∀ j, j ≠ i → t.station j = s.station j) ∧
  (∀ (s : State) (i : StationId) (e : Sheet) (rest : List Sheet), s.running = true →
      (s.station i).lines.jam.level = false → (s.station i).lines.jam.timing = none →
      (s.station i).state = .offline → (s.station i).path = e :: rest → rest.length ≤ 7 →
      (s.station i).session = none →
      ∃ t r, exec (.jamRise i) s = .next t ∧ (t.station i).state = .offline ∧ (t.station i).path = [] ∧
        (t.station i).session = none ∧ (t.station i).jam = some r ∧ r.cause = .line ∧ r.stamp = s.stamp ∧
        r.serial = ((s.station i).jamSerial + 1) % 65536 ∧ r.inDoubt = rest.length + 1 ∧ r.purged = 0 ∧
        r.repeats = 0 ∧ r.lost = some (rest.length + 1) ∧
        (t.station i).meters = { (s.station i).meters with
          jammed := ((s.station i).meters.jammed + (rest.length + 1)) % 100000000
          lost := ((s.station i).meters.lost + (rest.length + 1)) % 100000000
          purged := (s.station i).meters.purged % 100000000 } ∧
        (t.station i).timerA = (s.station i).timerA ∧ (t.station i).timerB = (s.station i).timerB ∧
        t.notices = insertNotice ⟨.jam, i.val + 1⟩ s.notices ∧ t.journal = s.journal ∧ t.slots = s.slots ∧
        ∀ j, j ≠ i → t.station j = s.station j) ∧
  (∀ (s : State) (i : StationId) (r : JamRecord), s.running = true →
      (s.station i).lines.jam.level = false → (s.station i).lines.jam.timing = none →
      (s.station i).state = .jammed → (s.station i).session = none → (s.station i).jam = some r → r.lost = none →
      r.inDoubt + (s.station i).path.length ≤ 4294967295 →
      ∃ t q, exec (.jamRise i) s = .next t ∧ (t.station i).jam = some q ∧ (t.station i).state = .jammed ∧
        (t.station i).path = [] ∧ q.serial = r.serial ∧ q.cause = r.cause ∧ q.stamp = r.stamp ∧
        q.purged = r.purged ∧ q.lost = none ∧ q.repeats = min 255 (r.repeats + 1) ∧
        q.inDoubt = r.inDoubt + (s.station i).path.length ∧
        (t.station i).meters.jammed =
          ((s.station i).meters.jammed + (s.station i).path.length) % 100000000 ∧
        ∀ j, j ≠ i → t.station j = s.station j) ∧
  (∀ (s : State) (i : StationId) (r : JamRecord), s.running = true →
      (s.station i).lines.jam.level = false → (s.station i).lines.jam.timing = none →
      (s.station i).state = .recover → (s.station i).session = none → (s.station i).jam = some r →
      r.inDoubt + (s.station i).path.length ≤ 4294967295 →
      ∃ t listed, exec (.jamRise i) s = .next t ∧ (t.station i).state = .jammed ∧ (t.station i).path = [] ∧
        (t.station i).session = none ∧ (t.station i).purgeTimer = none ∧
        (t.station i).jam = some { r with
          inDoubt := r.inDoubt + (s.station i).path.length, repeats := min 255 (r.repeats + 1), listed := listed } ∧
        (t.station i).meters = { (s.station i).meters with
          jammed := ((s.station i).meters.jammed + (s.station i).path.length) % 100000000 } ∧
        t.notices = insertNotice ⟨.jam, i.val + 1⟩ s.notices ∧ t.journal = s.journal ∧ t.slots = s.slots ∧
        ∀ j, j ≠ i → t.station j = s.station j)

/-- R34, R116, R117: the exit test at a JAM fall and at a READY rise: a JAMMED station with both levels right
enters RECOVER with its purge window running for the whole window. The line carries no candidate timing here
(log 7); TimedRecognition in CopierInputsFiltered carries each clause to the timed recognition. R117, R34: an
exit test that finds a JAMMED station's purge complete already (a record with nothing in doubt always) takes
it through RECOVER into READY in one event, at a JAM fall and at a READY rise. R31, R32: READY rising at an
OFFLINE station, and READY falling by station state with an empty path. R31, R33, R18, R111, R112, R114: READY
falling with sheets in the path: at a READY station a jam of cause DROPOUT, which releases the session's
sheets where there is one, and leaves the station JAMMED; at a RECOVER station a fold into the open record,
with the purge window stopped. -/
def Obligations.StationLevelsAct : Prop :=
  (∀ (s : State) (i : StationId) (r : JamRecord), s.running = true → (s.station i).state = .jammed →
      (s.station i).jam = some r → r.purged < r.inDoubt →
      ((s.station i).lines.jam.level = true → (s.station i).lines.jam.timing = none →
        (s.station i).lines.ready.level = true → ∃ t, exec (.jamFall i) s = .next t ∧
          (t.station i).state = .recover ∧ (t.station i).jam = some r ∧
          (t.station i).purgeTimer = some (s.now + 1000 * (s.station i).profile.purgeWindow) ∧
          (t.station i).path = (s.station i).path ∧ (t.station i).session = (s.station i).session ∧
          t.notices = insertNotice ⟨.stationChange, i.val + 1⟩ s.notices ∧
          ∀ j, j ≠ i → t.station j = s.station j) ∧
      ((s.station i).lines.jam.level = false → (s.station i).lines.ready.level = false →
        (s.station i).lines.ready.timing = none → ∃ t, exec (.readyRise i) s = .next t ∧
          (t.station i).state = .recover ∧ (t.station i).jam = some r ∧
          (t.station i).purgeTimer = some (s.now + 1000 * (s.station i).profile.purgeWindow) ∧
          ∀ j, j ≠ i → t.station j = s.station j)) ∧
  (∀ (s : State) (i : StationId) (r : JamRecord) (lines : Lines) (c : Instr), s.running = true →
      (s.station i).state = .jammed → (s.station i).jam = some r → r.lost = none → r.inDoubt ≤ r.purged →
      (c = .jamFall i ∧ (s.station i).lines.jam.level = true ∧ (s.station i).lines.jam.timing = none ∧
          (s.station i).lines.ready.level = true ∧
          lines = { (s.station i).lines with jam := { raw := false, level := false, timing := none } }) ∨
        (c = .readyRise i ∧ (s.station i).lines.ready.level = false ∧ (s.station i).lines.ready.timing = none ∧
          (s.station i).lines.jam.level = false ∧
          lines = { (s.station i).lines with ready := { raw := true, level := true, timing := none } }) →
      exec c s = .next
        { s.setStation i { s.station i with
            lines := lines
            state := .ready
            purgeTimer := none
            jam := some { r with lost := some 0 }
            meters := { (s.station i).meters with
              lost := (s.station i).meters.lost % 100000000
              purged := ((s.station i).meters.purged + r.purged) % 100000000 }
            timerA := loadedTimer s.now ((s.station i).duration .a)
            timerB := loadedTimer s.now ((s.station i).duration .b) } with
          notices := insertNotice ⟨.recovered, i.val + 1⟩ (insertNotice ⟨.stationChange, i.val + 1⟩ s.notices) }) ∧
  (∀ (s : State) (i : StationId), s.running = true → (s.station i).lines.ready.timing = none →
      ((s.station i).lines.ready.level = false → (s.station i).state = .offline →
        exec (.readyRise i) s = .next (s.setStation i { s.station i with
          lines := { (s.station i).lines with ready := { raw := true, level := true, timing := none } } })) ∧
      (∀ d, (s.station i).lines.ready.level = false → (s.station i).state = .notReady →
        (s.station i).duration (s.station i).profile.linkReadyRise = some d →
        exec (.readyRise i) s = .next
          { s.setStation i (({ s.station i with
                state := .ready
                lines := { (s.station i).lines with ready := { raw := true, level := true, timing := none } } } :
                Station).setTimer (s.station i).profile.linkReadyRise (.running (s.now + 1000 * d))) with
            notices := insertNotice ⟨.stationChange, i.val + 1⟩ s.notices }) ∧
      ((s.station i).lines.ready.level = true → (s.station i).path = [] →
        (s.station i).state = .ready ∨ (s.station i).state = .save →
        exec (.readyFall i) s = .next
          { s.setStation i { s.station i with
                state := .notReady
                lines := { (s.station i).lines with ready := { raw := false, level := false, timing := none } } } with
            notices := insertNotice ⟨.stationChange, i.val + 1⟩ s.notices }) ∧
      ((s.station i).lines.ready.level = true → (s.station i).path = [] → (s.station i).state = .recover →
        exec (.readyFall i) s = .next
          { s.setStation i { s.station i with
                state := .jammed
                purgeTimer := none
                lines := { (s.station i).lines with ready := { raw := false, level := false, timing := none } } } with
            notices := insertNotice ⟨.jam, i.val + 1⟩ s.notices })) ∧
  (∀ (s : State) (i : StationId) (e : Sheet) (rest : List Sheet), s.running = true →
      (s.station i).lines.ready.level = true → (s.station i).lines.ready.timing = none →
      (s.station i).path = e :: rest → rest.length ≤ 7 →
      ((s.station i).state = .ready → (s.station i).session = none →
        ∃ t r, exec (.readyFall i) s = .next t ∧ (t.station i).state = .jammed ∧ (t.station i).path = [] ∧
          (t.station i).session = none ∧ (t.station i).jam = some r ∧ r.cause = .dropout ∧
          r.inDoubt = rest.length + 1 ∧ r.purged = 0 ∧ r.repeats = 0 ∧ r.lost = none ∧ r.stamp = s.stamp ∧
          r.serial = ((s.station i).jamSerial + 1) % 65536 ∧
          (t.station i).lines.ready = { raw := false, level := false, timing := none } ∧
          (t.station i).meters = { (s.station i).meters with
            jammed := ((s.station i).meters.jammed + (rest.length + 1)) % 100000000 } ∧
          t.notices = insertNotice ⟨.jam, i.val + 1⟩ s.notices ∧ t.journal = s.journal ∧ t.slots = s.slots ∧
          ∀ j, j ≠ i → t.station j = s.station j) ∧
      (∀ x, (s.station i).state = .ready → (s.station i).session = some x → x.copying = true →
        ∃ t y r, exec (.readyFall i) s = .next t ∧ (t.station i).state = .jammed ∧ (t.station i).path = [] ∧
          (t.station i).session = some y ∧ x.Released y (e :: rest) ∧
          (s.station i).PauseFollows (t.station i) s.now x y ∧
          (t.station i).jam = some r ∧ r.cause = .dropout ∧ r.inDoubt = rest.length + 1 ∧ r.lost = none ∧
          (t.station i).meters = { (s.station i).meters with
            jammed := ((s.station i).meters.jammed + (rest.length + 1)) % 100000000 } ∧
          t.notices = insertNotice ⟨.jam, i.val + 1⟩ (pauseNotices (s.station i) i x y s.notices) ∧
          t.reservations = s.reservations ∧ t.journal = s.journal ∧ t.slots = s.slots ∧
          ∀ j, j ≠ i → t.station j = s.station j) ∧
      (∀ r, (s.station i).state = .recover → (s.station i).session = none → (s.station i).jam = some r →
        r.inDoubt + (rest.length + 1) ≤ 4294967295 →
        ∃ t listed, exec (.readyFall i) s = .next t ∧ (t.station i).state = .jammed ∧ (t.station i).path = [] ∧
          (t.station i).purgeTimer = none ∧
          (t.station i).jam = some { r with
            inDoubt := r.inDoubt + (rest.length + 1), repeats := min 255 (r.repeats + 1), listed := listed } ∧
          (t.station i).meters = { (s.station i).meters with
            jammed := ((s.station i).meters.jammed + (rest.length + 1)) % 100000000 } ∧
          t.notices = insertNotice ⟨.jam, i.val + 1⟩ s.notices ∧ t.journal = s.journal ∧ t.slots = s.slots ∧
          ∀ j, j ≠ i → t.station j = s.station j))

/-- R98, R99, R38: the two answers to a pause: a STOPPED rise makes HELD and stops the pause-ack timer; the
timer's expiry makes HELD with FORCED and counts a forced stop, up to 65,535 (logs 5 and 45 for the interval
count and the time base). A rise that finds no session, or one that is not HOLDING, has no effect but the
recognized level. The STOPPED line carries no candidate timing here (log 7); TimedRecognition carries the rise
to the timed one. R98: a STOPPED rise at a station without a session, or with one that is not HOLDING, changes
the recognized level and nothing else. R25: PERMIT, PAUSE and SAVE of a station in the RUNNING device, and
none of them in SHUTDOWN. -/
def Obligations.PauseAndOutputs : Prop :=
  (∀ (s : State) (i : StationId) (x : Session) (expiry : Nat), s.running = true →
      (s.station i).session = some x → x.phase = .holding → x.suspended = false →
      (s.station i).pauseTimer = some expiry → s.now ≤ expiry →
      ((s.station i).lines.stopped.level = false → (s.station i).lines.stopped.timing = none →
        exec (.stoppedRise i) s = .next (s.setStation i { s.station i with
          lines := { (s.station i).lines with stopped := { raw := true, level := true, timing := none } }
          session := some { x with phase := .held }
          pauseTimer := none })) ∧
      exec (.pauseAckExpiry i) s = .next (({ s with now := expiry } : State).setStation i { s.station i with
          session := some { x with phase := .held, forced := true }
          pauseTimer := none
          forcedStops := min 65535 ((s.station i).forcedStops + 1) })) ∧
  (∀ (s : State) (i : StationId), s.running = true →
      (s.station i).lines.stopped.level = false → (s.station i).lines.stopped.timing = none →
      (∀ x, (s.station i).session = some x → x.phase ≠ .holding) →
      exec (.stoppedRise i) s = .next (s.setStation i { s.station i with
        lines := { (s.station i).lines with stopped := { raw := true, level := true, timing := none } } })) ∧
  (∀ (s : State) (i : StationId), s.mainSupply = true → s.resetPin = false →
      (s.device = .shutdown → s.permit i = false ∧ s.pause i = false ∧ s.save i = false) ∧
      (s.device = .running → (s.save i = true ↔ (s.station i).state = .save)) ∧
      (s.device = .running → (s.station i).session = none → s.permit i = false ∧ s.pause i = false) ∧
      ∀ x, s.device = .running → (s.station i).session = some x → x.suspended = false →
        (s.pause i = true ↔ x.phase = .holding ∨ x.phase = .held) ∧
        (s.permit i = true ↔ (s.station i).state = .ready ∧
          (x.phase = .active ∨ x.phase = .holding ∨ (x.phase = .held ∧ x.forced = false))))

/-! ## Timers -/

/-- R16, R18, R111, R34, R26: the transit expiry at a READY or NOT-READY station without a session hands the
whole path to a jam of cause TRANSIT: with JAM deasserted and READY asserted the station passes through JAMMED
into RECOVER with its purge window running, otherwise it stands in JAMMED. At an OFFLINE station the path is
written off (R30). The expiry command brings the interval count to the timer's instant (log 5) and leaves the
time base (log 45). R16, R18, R112, R90, R93: the transit expiry with an ACTIVE, HOLDING or HELD session
releases the session's sheets, brings tier and ceiling up to date and evaluates the pause, at the instant of
the expiry (logs 5, 45). R16, R114, R34, R117: the transit expiry at a JAMMED or RECOVER station with no
session folds the path into the open record; with JAM deasserted and READY asserted the station passes into
RECOVER with a fresh purge window, otherwise it stands in JAMMED. The command brings the interval count to the
timer's instant (log 5). R118, R20, R34: the end of the purge window closes the record with its lost count,
raises the lost and purged meters, and leaves the station READY with RECOVERED posted (logs 5 and 45 for the
interval count and the time base). -/
def Obligations.TransitAndPurgeExpire : Prop :=
  (∀ (s : State) (i : StationId) (e : Sheet) (rest : List Sheet) (healthy : Prop) [Decidable healthy] (now : Nat),
      s.running = true → (s.station i).path = e :: rest → rest.length ≤ 8 → (s.station i).session = none →
      now = max s.now (e.fedAt + 1000 * (s.station i).profile.transitLimit) →
      (healthy ↔ (s.station i).lines.jam.level = false ∧ (s.station i).lines.ready.level = true) →
      ((s.station i).state = .ready ∨ (s.station i).state = .notReady →
        ∃ t r, exec (.transitExpiry i) s = .next t ∧ (t.station i).path = [] ∧ (t.station i).session = none ∧
          (t.station i).state = (if healthy then .recover else .jammed) ∧
          (t.station i).purgeTimer = (if healthy then some (now + 1000 * (s.station i).profile.purgeWindow)
            else (s.station i).purgeTimer) ∧
          t.notices = (if healthy then
              insertNotice ⟨.stationChange, i.val + 1⟩ (insertNotice ⟨.jam, i.val + 1⟩ s.notices)
            else insertNotice ⟨.jam, i.val + 1⟩ s.notices) ∧
          (t.station i).jam = some r ∧ r.cause = .transit ∧ r.inDoubt = rest.length + 1 ∧ r.purged = 0 ∧
          r.repeats = 0 ∧ r.lost = none ∧ r.stamp = s.stamp ∧
          r.serial = ((s.station i).jamSerial + 1) % 65536 ∧
          (t.station i).meters = { (s.station i).meters with
            jammed := ((s.station i).meters.jammed + (rest.length + 1)) % 100000000 } ∧
          t.now = now ∧ t.journal = s.journal ∧ t.slots = s.slots ∧ ∀ j, j ≠ i → t.station j = s.station j) ∧
      ((s.station i).state = .offline →
        ∃ t r, exec (.transitExpiry i) s = .next t ∧ (t.station i).path = [] ∧ (t.station i).state = .offline ∧
          t.notices = insertNotice ⟨.jam, i.val + 1⟩ s.notices ∧ (t.station i).jam = some r ∧ r.cause = .transit ∧
          r.inDoubt = rest.length + 1 ∧ r.lost = some (rest.length + 1) ∧ t.now = now ∧
          t.journal = s.journal ∧ t.slots = s.slots ∧ ∀ j, j ≠ i → t.station j = s.station j)) ∧
  (∀ (s : State) (i : StationId) (x : Session) (e : Sheet) (rest : List Sheet) (healthy : Prop) [Decidable healthy]
      (now : Nat), s.running = true →
      (s.station i).path = e :: rest → rest.length ≤ 7 → (s.station i).session = some x → x.copying = true →
      (s.station i).state = .ready ∨ (s.station i).state = .notReady →
      now = max s.now (e.fedAt + 1000 * (s.station i).profile.transitLimit) →
      (healthy ↔ (s.station i).lines.jam.level = false ∧ (s.station i).lines.ready.level = true) →
      ∃ t y r, exec (.transitExpiry i) s = .next t ∧ (t.station i).path = [] ∧
        (t.station i).state = (if healthy then .recover else .jammed) ∧ t.now = now ∧
        (t.station i).session = some y ∧ x.Released y (e :: rest) ∧
        (s.station i).PauseFollows (t.station i) now x y ∧
        (t.station i).jam = some r ∧ r.cause = .transit ∧ r.inDoubt = rest.length + 1 ∧ r.lost = none ∧
        (t.station i).meters = { (s.station i).meters with
          jammed := ((s.station i).meters.jammed + (rest.length + 1)) % 100000000 } ∧
        t.reservations = s.reservations ∧ t.journal = s.journal ∧ t.slots = s.slots ∧
        ∀ j, j ≠ i → t.station j = s.station j) ∧
  (∀ (s : State) (i : StationId) (e : Sheet) (rest : List Sheet) (r : JamRecord) (healthy : Prop)
      [Decidable healthy] (now : Nat), s.running = true → (s.station i).path = e :: rest → rest.length ≤ 8 →
      (s.station i).session = none → (s.station i).state = .jammed ∨ (s.station i).state = .recover →
      (s.station i).jam = some r → r.purged ≤ r.inDoubt → r.inDoubt + (rest.length + 1) ≤ 4294967295 →
      now = max s.now (e.fedAt + 1000 * (s.station i).profile.transitLimit) →
      (healthy ↔ (s.station i).lines.jam.level = false ∧ (s.station i).lines.ready.level = true) →
      ∃ t listed, exec (.transitExpiry i) s = .next t ∧ (t.station i).path = [] ∧
        (t.station i).state = (if healthy then .recover else .jammed) ∧
        (t.station i).purgeTimer =
          (if healthy then some (now + 1000 * (s.station i).profile.purgeWindow) else none) ∧
        (t.station i).jam = some { r with
          inDoubt := r.inDoubt + (rest.length + 1), repeats := min 255 (r.repeats + 1), listed := listed } ∧
        (t.station i).meters = { (s.station i).meters with
          jammed := ((s.station i).meters.jammed + (rest.length + 1)) % 100000000 } ∧
        t.notices = (if healthy then
            insertNotice ⟨.stationChange, i.val + 1⟩ (insertNotice ⟨.jam, i.val + 1⟩ s.notices)
          else insertNotice ⟨.jam, i.val + 1⟩ s.notices) ∧
        t.now = now ∧ t.journal = s.journal ∧ t.slots = s.slots ∧ ∀ j, j ≠ i → t.station j = s.station j) ∧
  (∀ (s : State) (i : StationId) (r : JamRecord) (expiry : Nat), s.running = true →
      (s.station i).state = .recover → (s.station i).jam = some r → r.lost = none →
      (s.station i).purgeTimer = some expiry → s.now ≤ expiry →
      exec (.purgeWindowExpiry i) s = .next
        { s.setStation i { s.station i with
            state := .ready
            purgeTimer := none
            jam := some { r with lost := some (r.inDoubt - r.purged) }
            meters := { (s.station i).meters with
              lost := ((s.station i).meters.lost + (r.inDoubt - r.purged)) % 100000000
              purged := ((s.station i).meters.purged + r.purged) % 100000000 }
            timerA := loadedTimer expiry ((s.station i).duration .a)
            timerB := loadedTimer expiry ((s.station i).duration .b) } with
          now := expiry
          notices := insertNotice ⟨.recovered, i.val + 1⟩ s.notices })

/-- R39, R42, R43, R44: the expiry that leaves a READY station with an empty path quiet enters SAVE with no
session, and closes a COUNTER session as abandoned. The expiry command brings the interval count to the
timer's instant (log 5) and leaves the time base (log 45). R39, R42: an idle expiry anywhere else makes the
timer EXPIRED and nothing more: a station that is not READY or has sheets in its path, one whose other timer
has a duration and is not EXPIRED, one with no duration at all, and one whose session is AUTHORIZING or
CLOSING. R59, R58, R49: the authorization timer's expiry ends the session without a record and refuses TIMEOUT
(logs 5 and 45 for the interval count and the time base). -/
def Obligations.SessionTimersExpire : Prop :=
  (∀ (s : State) (i : StationId) (timer other : TimerId) (expiry d : Nat), s.running = true → timer ≠ other →
      (s.station i).timer timer = .running expiry → s.now ≤ expiry → (s.station i).duration timer = some d →
      (s.station i).duration other = none ∨ (s.station i).timer other = .expired →
      ((s.station i).session = none → (s.station i).state = .ready → (s.station i).path = [] →
        exec (.idleTimerExpiry i timer) s = .next
          { s.setStation i (({ s.station i with state := .save } : Station).setTimer timer .expired) with
            now := expiry
            notices := insertNotice ⟨.stationChange, i.val + 1⟩ s.notices }) ∧
      (∀ x ref, (s.station i).session = some x → (s.station i).state = .ready → (s.station i).path = [] →
        x.copying = true → x.stopPending = false → x.payment = .counter ref →
        ∃ t r, exec (.idleTimerExpiry i timer) s = .next t ∧ (t.station i).session = none ∧
          (t.station i).state = .ready ∧ t.journal = s.journal ++ [.settle r] ∧ r.reason = .walkAway ∧
          r.charged = (x.charged + 5) / 10 ∧ r.sessionSerial = x.serial ∧ t.now = expiry ∧
          (t.station i).timerA = loadedTimer expiry (codeSeconds (s.station i).profile.idleA) ∧
          (t.station i).timerB = loadedTimer expiry (codeSeconds (s.station i).profile.idleB) ∧
          t.reservations = s.reservations - 1 ∧ t.slots = s.slots)) ∧
  (∀ (s : State) (i : StationId) (timer other : TimerId) (expiry : Nat), s.running = true → timer ≠ other →
      (s.station i).timer timer = .running expiry → s.now ≤ expiry →
      ((s.station i).state ≠ .ready ∨ (s.station i).path ≠ [] ∨
        ((s.station i).duration other ≠ none ∧ (s.station i).timer other ≠ .expired) ∨
        ((s.station i).duration timer = none ∧ (s.station i).duration other = none) ∨
        ∃ x, (s.station i).session = some x ∧ x.copying = false) →
      exec (.idleTimerExpiry i timer) s = .next
        { s.setStation i ((s.station i).setTimer timer .expired) with now := expiry }) ∧
  (∀ (s : State) (i : StationId) (x : Session) (expiry : Nat), s.running = true →
      (s.station i).session = some x → x.authorizing = true → (s.station i).authTimer = some expiry →
      s.now ≤ expiry →
      exec (.authTimerExpiry i) s = .next
        { s.setStation i { s.station i with
            session := none
            authTimer := none
            lastRefusal := some ⟨.timeout, .bank, s.stamp⟩
            reader := (s.station i).reader.produce (.refuse .timeout)
            timerA := loadedTimer expiry (codeSeconds (s.station i).profile.idleA)
            timerB := loadedTimer expiry (codeSeconds (s.station i).profile.idleB) } with
          now := expiry
          reservations := s.reservations - 1
          notices := insertNotice ⟨.cardRefused, i.val + 1⟩ s.notices })

/-- R131: a scrub visit to a FREE, SUSPECT or sound slot moves the position and nothing else but the timing of
the visits. The model's choices: the command brings the interval count to the visit's instant (log 5) and
leaves the time base (log 45), and the next visit is due 250 ms from there (log 40). R131, R129, R130, R133: a
scrub visit to a damaged slot that is not SUSPECT: a correctable one is written back and noted, an
uncorrectable one becomes SUSPECT; each posts its notice. The visit's instant is the model's choice of logs 5
and 45, the next visit's that of log 40. R147, R146, R144: a second of the time base, without and with the
alarm reached, and the alarm falling due. That the second sets the divider to 0 is the model's choice (log
28). R147: the stamp also advances on VBAT alone, with the main supply absent and the retained domain held;
the alarm is not tested there. Where neither supplies the time base nothing changes: the validity marker
stands for VBAT (log 16), and until the supply's return the main supply counts as absent (log 47), both the
model's. -/
def Obligations.PeriodicEvents : Prop :=
  (∀ (s : State) (d : Nat), s.running = true → s.scrubDue = some d → s.now ≤ d →
      (∀ x, s.slot s.scrubPosition = some x → x.suspect = true ∨ x.damage = .sound) →
      exec .scrubVisit s = .next
        { s with now := d, scrubDue := some (d + 250), scrubPosition := (s.scrubPosition + 1) % 4096 }) ∧
  (∀ (s : State) (d : Nat) (x : Slot), s.running = true → s.scrubDue = some d → s.now ≤ d →
      s.slot s.scrubPosition = some x → x.suspect = false →
      (x.damage = .correctable → ∃ t, exec .scrubVisit s = .next t ∧
        t = { s with
          now := d, scrubDue := some (d + 250), scrubPosition := (s.scrubPosition + 1) % 4096
          slots := t.slots, lastCorrected := some s.scrubPosition
          notices := insertNotice ⟨.memoryCorrected, 0⟩ s.notices } ∧
        t.slot s.scrubPosition = some { x with damage := .sound } ∧
        ∀ m, m ≠ s.scrubPosition → t.slot m = s.slot m) ∧
      (x.damage = .uncorrectable → ∃ t, exec .scrubVisit s = .next t ∧
        t = { s with
          now := d, scrubDue := some (d + 250), scrubPosition := (s.scrubPosition + 1) % 4096
          slots := t.slots, lastFault := some s.scrubPosition
          notices := insertNotice ⟨.memoryFault, 0⟩ s.notices } ∧
        t.slot s.scrubPosition = some { x with suspect := true } ∧
        ∀ m, m ≠ s.scrubPosition → t.slot m = s.slot m)) ∧
  (∀ s : State, s.mainSupply = true →
      ((s.running = false ∨ ∀ a, s.alarm = some a → (s.stamp + 1) % 4294967296 < a) →
        exec .timeBaseTick s = .next { s with stamp := (s.stamp + 1) % 4294967296, divider := 0 }) ∧
      (∀ a, s.running = true → s.alarm = some a → a ≤ (s.stamp + 1) % 4294967296 →
        exec .timeBaseTick s = .next
          { s with
            stamp := (s.stamp + 1) % 4294967296
            divider := 0
            alarm := none
            period := (s.period + 1) % 65536
            notices := insertNotice ⟨.periodTurned, 0⟩ s.notices }) ∧
      (∀ a, s.running = true → s.alarm = some a → a ≤ s.stamp → exec .periodAlarmDue s = .next
          { s with
            alarm := none
            period := (s.period + 1) % 65536
            notices := insertNotice ⟨.periodTurned, 0⟩ s.notices })) ∧
  (∀ s : State, s.mainSupply = false →
      (s.marker = true →
        exec .timeBaseTick s = .next { s with stamp := (s.stamp + 1) % 4294967296, divider := 0 }) ∧
      (s.marker = false → exec .timeBaseTick s = .next s))

/-! ## Card readers -/

/-- R54, R55, R49: the refusals OUT-OF-SERVICE, JOURNAL-FULL and UNKNOWN-CARD of a CAMPUS card at a station
without a session, each with its reason, last refusal and CARD-REFUSED; and a card at a station with an
AUTHORIZING or CLOSING session is refused BUSY (R53). In every clause a frame is taken also at a port that is
not assembling, the command standing for its start byte too (log 10), and a station without a session answers
a card by R54 also right after a walk-away close (log 37): both are the model's choices. R49, R53 to R55, R40:
what a refusal of a card leaves of the station: the last refusal, the REFUSE frame, a reader port that looks
for a start byte, the linked timer reloaded as an activity reloads it, and nothing else; in the cases of the
refusals OUT-OF-SERVICE, JOURNAL-FULL and BUSY of cards of both classes, and UNKNOWN-CARD. R55, R65, R126,
R129, R130: the refusals that the account itself brings, at an admission and at an extend by the session's own
card: UNAVAILABLE for a SUSPECT slot and for one that this read finds uncorrectable, BLOCKED, and LOW-CREDIT
by the credit, with a minimum opening amount at an admission only. The session stands as it was. R53, R47,
R178: in SHUTDOWN every frame of a reader is refused: a CARD of either class and END with OUT-OF-SERVICE, a
malformed frame with READ-ERROR; the refusal is all that changes, and no timer is reloaded. R45, R40, R42,
R47, R53, R54: a frame refused at a SAVE station wakes it first: END with BUSY, a malformed frame with READ-
ERROR, a card of either class with JOURNAL-FULL and a CAMPUS card with UNKNOWN-CARD. A gap of 100 ms within a
frame is refused READ-ERROR in the same way, and the port then looks for a start byte at once, the gap being
the idle line that it would wait for, which is the model's reading (log 12). -/
def Obligations.CardRefusals : Prop :=
  (∀ (s : State) (i : StationId) (id : BitVec 40), s.running = true →
      (s.station i).reader.condition ≠ .waitingIdle → id.toNat ≤ 9999999999 → (s.station i).state ≠ .save →
      ∀ reason : RefuseReason,
        ((s.station i).session = none ∧
          (((s.station i).state ≠ .ready ∧ reason = .outOfService) ∨
           ((s.station i).state = .ready ∧ 510 < s.journal.length + s.reservations ∧ reason = .journalFull) ∨
           ((s.station i).state = .ready ∧ s.journal.length + s.reservations ≤ 510 ∧
             s.lookup id.toNat = none ∧ reason = .unknownCard)) ∨
         (∃ x, (s.station i).session = some x ∧ x.copying = false ∧ reason = .busy)) →
        ∃ t, exec (.cardFrame i (.campus id)) s = .next t ∧
          (t.station i).lastRefusal = some ⟨reason, .campus, s.stamp⟩ ∧
          (t.station i).reader.sending = ((s.station i).reader.produce (.refuse reason)).sending ∧
          (t.station i).reader.waiting = ((s.station i).reader.produce (.refuse reason)).waiting ∧
          t.notices = insertNotice ⟨.cardRefused, i.val + 1⟩ s.notices ∧
          (t.station i).session = (s.station i).session ∧ (t.station i).state = (s.station i).state ∧
          t.slots = s.slots ∧ t.journal = s.journal ∧ t.reservations = s.reservations ∧
          ∀ j, j ≠ i → t.station j = s.station j) ∧
  (∀ (s : State) (i : StationId) (card : Card) (reason : RefuseReason) (refused : Station), s.running = true →
      (s.station i).reader.condition ≠ .waitingIdle → (s.station i).state ≠ .save →
      (∀ id, card = .campus id → id.toNat ≤ 9999999999) →
      ((s.station i).session = none ∧
          (((s.station i).state ≠ .ready ∧ reason = .outOfService) ∨
           ((s.station i).state = .ready ∧ 510 < s.journal.length + s.reservations ∧ reason = .journalFull) ∨
           (∃ id, card = .campus id ∧ (s.station i).state = .ready ∧ s.journal.length + s.reservations ≤ 510 ∧
             s.lookup id.toNat = none ∧ reason = .unknownCard))) ∨
        (∃ x, (s.station i).session = some x ∧ reason = .busy ∧
          (x.copying = false ∨ (∃ token, card = .bank token) ∨ (∀ k, x.payment ≠ .campus k) ∨
            (∃ id k a, card = .campus id ∧ x.payment = .campus k ∧ s.slot k = some a ∧ a.identity ≠ id.toNat))) →
      refused = { s.station i with
        lastRefusal := some ⟨reason, (match card with | .campus _ => .campus | .bank _ => .bank), s.stamp⟩
        reader := ({ (s.station i).reader with condition := .looking } : ReaderPort).produce (.refuse reason) } →
      ((s.station i).state = .offline ∨ (s.station i).duration (s.station i).profile.linkCard = none →
        exec (.cardFrame i card) s = .next
          { s.setStation i refused with notices := insertNotice ⟨.cardRefused, i.val + 1⟩ s.notices }) ∧
      (∀ d, (s.station i).state ≠ .offline → (s.station i).duration (s.station i).profile.linkCard = some d →
        exec (.cardFrame i card) s = .next
          { s.setStation i (refused.setTimer (s.station i).profile.linkCard (.running (s.now + 1000 * d))) with
            notices := insertNotice ⟨.cardRefused, i.val + 1⟩ s.notices })) ∧
  (∀ (s : State) (i : StationId) (id : BitVec 40) (n credit : Nat) (a : Slot) (opening : Bool) (reason : RefuseReason),
      s.running = true → (s.station i).reader.condition ≠ .waitingIdle → id.toNat ≤ 9999999999 →
      (s.station i).state ≠ .save → s.slot n = some a →
      (opening = true ∧ (s.station i).session = none ∧ (s.station i).state = .ready ∧
          s.journal.length + s.reservations ≤ 510 ∧ s.lookup id.toNat = some n) ∨
        (opening = false ∧ ∃ x, (s.station i).session = some x ∧ x.copying = true ∧ x.payment = .campus n ∧
          a.identity = id.toNat) →
      credit = (match a.account.figures with
        | .prepaid balance => balance - a.account.held
        | .department limit spent p => limit - (if p = s.period then spent else 0) - a.account.held) →
      ((a.suspect = true ∨ a.damage = .uncorrectable) ∧ reason = .unavailable) ∨
        (a.suspect = false ∧ a.damage ≠ .uncorrectable ∧ a.account.blocked = true ∧ reason = .blocked) ∨
        (a.suspect = false ∧ a.damage ≠ .uncorrectable ∧ a.account.blocked = false ∧ reason = .lowCredit ∧
          (credit = 0 ∨ (opening = true ∧ credit < (s.station i).profile.minOpening))) →
      ∃ t, exec (.cardFrame i (.campus id)) s = .next t ∧
        (t.station i).lastRefusal = some ⟨reason, .campus, s.stamp⟩ ∧
        (t.station i).reader =
          ({ (s.station i).reader with condition := .looking } : ReaderPort).produce (.refuse reason) ∧
        (s.station i).Reloaded s.now (s.station i).profile.linkCard (t.station i) ∧
        (t.station i).session = (s.station i).session ∧ (t.station i).state = (s.station i).state ∧
        (t.station i).path = (s.station i).path ∧ (t.station i).meters = (s.station i).meters ∧
        (t.station i).pauseTimer = (s.station i).pauseTimer ∧
        t.notices = insertNotice ⟨.cardRefused, i.val + 1⟩
          (if a.suspect = false ∧ a.damage = .uncorrectable then insertNotice ⟨.memoryFault, 0⟩ s.notices
            else if a.suspect = false ∧ a.damage = .correctable then insertNotice ⟨.memoryCorrected, 0⟩ s.notices
            else s.notices) ∧
        t.slot n = some { a with
          suspect := a.suspect || decide (a.damage = .uncorrectable)
          damage := if a.suspect = false ∧ a.damage = .correctable then .sound else a.damage } ∧
        (∀ m, m ≠ n → t.slot m = s.slot m) ∧ t.journal = s.journal ∧ t.reservations = s.reservations ∧
        t.sessionSerial = s.sessionSerial ∧ ∀ j, j ≠ i → t.station j = s.station j) ∧
  (∀ (s : State) (i : StationId) (c : Instr) (refusal : LastRefusal) (condition : ReaderCondition),
      s.alive = true → s.device = .shutdown → (s.station i).reader.condition ≠ .waitingIdle →
      (∃ id, c = .cardFrame i (.campus id) ∧ id.toNat ≤ 9999999999 ∧
          refusal = ⟨.outOfService, .campus, s.stamp⟩ ∧ condition = .looking) ∨
        (∃ token, c = .cardFrame i (.bank token) ∧ refusal = ⟨.outOfService, .bank, s.stamp⟩ ∧
          condition = .looking) ∨
        (c = .endFrame i ∧ refusal = ⟨.outOfService, .none, s.stamp⟩ ∧ condition = .looking) ∨
        (c = .malformedFrame i ∧ refusal = ⟨.readError, .none, s.stamp⟩ ∧ condition = .waitingIdle) →
      exec c s = .next { s.setStation i ((s.station i).refused refusal condition) with
        notices := insertNotice ⟨.cardRefused, i.val + 1⟩ s.notices }) ∧
  (∀ (s : State) (i : StationId) (c : Instr) (refusal : LastRefusal) (condition : ReaderCondition),
      s.running = true → (s.station i).state = .save → (s.station i).session = none →
      (s.station i).reader.condition ≠ .waitingIdle →
      (c = .endFrame i ∧ refusal = ⟨.busy, .none, s.stamp⟩ ∧ condition = .looking) ∨
        (c = .malformedFrame i ∧ refusal = ⟨.readError, .none, s.stamp⟩ ∧ condition = .waitingIdle) ∨
        (c = .readerGapTimeout i ∧ (s.station i).reader.condition = .assembling ∧
          refusal = ⟨.readError, .none, s.stamp⟩ ∧ condition = .looking) ∨
        (∃ token, c = .cardFrame i (.bank token) ∧ 510 < s.journal.length + s.reservations ∧
          refusal = ⟨.journalFull, .bank, s.stamp⟩ ∧ condition = .looking) ∨
        (∃ id, c = .cardFrame i (.campus id) ∧ id.toNat ≤ 9999999999 ∧ condition = .looking ∧
          ((510 < s.journal.length + s.reservations ∧ refusal = ⟨.journalFull, .campus, s.stamp⟩) ∨
            (s.journal.length + s.reservations ≤ 510 ∧ s.lookup id.toNat = none ∧
              refusal = ⟨.unknownCard, .campus, s.stamp⟩))) →
      ∃ t, exec c s = .next t ∧ s.RefusedInSave i refusal condition t)

/-- R55, R56, R128, R52: the grant to a CAMPUS card: a hold of the smaller of the preset hold and the credit,
added to the account's held, and a session on that account at the account's rate. That the command needs no
start byte before it (log 10), and that a card right after a walk-away close is admitted (log 37), are the
model's choices in every clause. R55, R56, R126 to R128, R45, R95, R96, R160: the grant to a CAMPUS card at a
READY or a SAVE station, for both account kinds: the slot aligned to the present period and written, the
session with its timers, ACCEPT and then PAUSED where the pause condition is true at once, JOURNAL-LOW where
the reservation brings the free count to 32. R65, R103, R128: the session's own CAMPUS card extends an ACTIVE
session: hold and held rise by one extension. R65, R103, R102, R127, R128: an extend at a station that is not
in SAVE, for both account kinds, in ACTIVE, HOLDING and HELD: hold and held rise, the slot is aligned; the
reader is sent ACCEPT with the new hold; a pause whose condition is now false is lifted with no second ACCEPT,
and one whose condition is still true stands, with PAUSED after the ACCEPT. -/
def Obligations.CampusCardAccepted : Prop :=
  (∀ (s : State) (i : StationId) (id : BitVec 40) (n b : Nat) (a : Slot), s.running = true →
      (s.station i).reader.condition ≠ .waitingIdle → id.toNat ≤ 9999999999 →
      (s.station i).state = .ready → (s.station i).session = none →
      s.journal.length + s.reservations ≤ 510 → s.lookup id.toNat = some n → s.slot n = some a →
      a.suspect = false → a.damage = .sound → a.account.blocked = false → a.account.figures = .prepaid b →
      0 < b - a.account.held → (s.station i).profile.minOpening ≤ b - a.account.held →
      ∃ t x c, exec (.cardFrame i (.campus id)) s = .next t ∧ (t.station i).session = some x ∧
        x.payment = .campus n ∧ x.hold = min (s.station i).profile.presetHold (b - a.account.held) ∧
        x.charged = 0 ∧ x.pending = 0 ∧ x.rate = a.account.rate ∧ x.opened = s.stamp ∧
        x.serial = (s.sessionSerial + 1) % 4294967296 ∧
        (x.phase = if x.pauseCondition (s.station i).profile then .holding else .active) ∧
        t.slot n = some c ∧ c.identity = a.identity ∧ c.account =
          { a.account with
            held := a.account.held + x.hold
            openCount := a.account.openCount + 1
            lastUse := s.stamp } ∧
        (∀ m, m ≠ n → t.slot m = s.slot m) ∧ t.reservations = s.reservations + 1 ∧ t.journal = s.journal ∧
        ∀ j, j ≠ i → t.station j = s.station j) ∧
  (∀ (s : State) (i : StationId) (id : BitVec 40) (n credit : Nat) (a : Slot) (aligned : Figures), s.running = true →
      (s.station i).reader.condition ≠ .waitingIdle → id.toNat ≤ 9999999999 →
      (s.station i).state = .ready ∨ (s.station i).state = .save → (s.station i).session = none →
      s.journal.length + s.reservations ≤ 510 → s.lookup id.toNat = some n → s.slot n = some a →
      a.suspect = false → a.damage = .sound → a.account.blocked = false →
      a.account.figures.Credits a.account.held s.period credit aligned →
      0 < credit → (s.station i).profile.minOpening ≤ credit →
      ∃ t x, exec (.cardFrame i (.campus id)) s = .next t ∧ (t.station i).session = some x ∧
        (t.station i).state = .ready ∧ x.payment = .campus n ∧ x.hold = min (s.station i).profile.presetHold credit ∧
        x.serial = (s.sessionSerial + 1) % 4294967296 ∧ x.charged = 0 ∧ x.pending = 0 ∧ x.rate = a.account.rate ∧
        x.opened = s.stamp ∧
        t.slot n = some { a with account := { a.account with
          figures := aligned, held := a.account.held + x.hold, openCount := a.account.openCount + 1
          lastUse := s.stamp } } ∧
        (∀ m, m ≠ n → t.slot m = s.slot m) ∧
        (t.station i).timerA = loadedTimer s.now (codeSeconds (s.station i).profile.sessionA) ∧
        (t.station i).timerB = loadedTimer s.now (codeSeconds (s.station i).profile.sessionB) ∧
        (x.pauseCondition (s.station i).profile = false → x.phase = .active ∧
          (t.station i).pauseTimer = (s.station i).pauseTimer ∧ (t.station i).reader =
            ({ (s.station i).reader with condition := .looking } : ReaderPort).produce (.accept x.hold)) ∧
        (x.pauseCondition (s.station i).profile = true → x.phase = .holding ∧
          (t.station i).pauseTimer = some (s.now + 1000 * (s.station i).profile.pauseAck) ∧ (t.station i).reader =
            (({ (s.station i).reader with condition := .looking } : ReaderPort).produce (.accept x.hold)).produce
              (.paused x.hold)) ∧
        (∀ woken low, woken = (if (s.station i).state = .save then
              insertNotice ⟨.stationChange, i.val + 1⟩ s.notices else s.notices) →
          low = (if s.journal.length + s.reservations = 479 then insertNotice ⟨.journalLow, 0⟩ woken else woken) →
          t.notices = if x.phase = .holding then insertNotice ⟨.paused, i.val + 1⟩ low else low) ∧
        t.reservations = s.reservations + 1 ∧ t.journal = s.journal ∧ ∀ j, j ≠ i → t.station j = s.station j) ∧
  (∀ (s : State) (i : StationId) (id : BitVec 40) (n b : Nat) (a : Slot) (x : Session), s.running = true →
      (s.station i).reader.condition ≠ .waitingIdle → id.toNat ≤ 9999999999 →
      (s.station i).state = .ready → (s.station i).session = some x → x.copying = true →
      x.payment = .campus n → s.slot n = some a → a.identity = id.toNat → a.suspect = false →
      a.damage = .sound → a.account.blocked = false → a.account.figures = .prepaid b →
      0 < b - a.account.held →
      ∃ t y c extension, exec (.cardFrame i (.campus id)) s = .next t ∧ (t.station i).session = some y ∧
        extension = min (s.station i).profile.presetHold (b - a.account.held) ∧
        y.hold = x.hold + extension ∧ y.charged = x.charged ∧ y.pending = x.pending ∧
        y.extendCount = min 255 (x.extendCount + 1) ∧ t.slot n = some c ∧
        c.account = { a.account with held := a.account.held + extension, lastUse := s.stamp } ∧
        t.reservations = s.reservations ∧ t.journal = s.journal ∧ ∀ j, j ≠ i → t.station j = s.station j) ∧
  (∀ (s : State) (i : StationId) (id : BitVec 40) (n credit extension : Nat) (a : Slot) (aligned : Figures)
      (x : Session) (accepted : ReaderPort), s.running = true →
      (s.station i).reader.condition ≠ .waitingIdle → id.toNat ≤ 9999999999 → (s.station i).state ≠ .save →
      (s.station i).session = some x → x.copying = true → x.payment = .campus n → s.slot n = some a →
      a.identity = id.toNat → a.suspect = false → a.damage = .sound → a.account.blocked = false →
      a.account.figures.Credits a.account.held s.period credit aligned → 0 < credit →
      extension = min (s.station i).profile.presetHold credit →
      accepted = ({ (s.station i).reader with condition := .looking } : ReaderPort).produce
        (.accept (x.hold + extension)) →
      ∃ t y phase forced, exec (.cardFrame i (.campus id)) s = .next t ∧ (t.station i).session = some y ∧
        y = { x with
          hold := x.hold + extension, extendCount := min 255 (x.extendCount + 1), phase := phase, forced := forced } ∧
        (y.pauseCondition (s.station i).profile = false → phase = .active ∧
          forced = (if x.phase = .active then x.forced else false) ∧
          (t.station i).pauseTimer = (if x.phase = .active then (s.station i).pauseTimer else none) ∧
          (t.station i).reader = accepted ∧ t.notices = s.notices) ∧
        (y.pauseCondition (s.station i).profile = true → forced = x.forced ∧
          (t.station i).reader =
            accepted.produce (.paused ((10 * (x.hold + extension) - x.charged - x.pending) / 10)) ∧
          (x.phase = .active → phase = .holding ∧
            (t.station i).pauseTimer = some (s.now + 1000 * (s.station i).profile.pauseAck) ∧
            t.notices = insertNotice ⟨.paused, i.val + 1⟩ s.notices) ∧
          (x.phase ≠ .active → phase = x.phase ∧ (t.station i).pauseTimer = (s.station i).pauseTimer ∧
            t.notices = s.notices)) ∧
        t.slot n = some { a with account := { a.account with
          figures := aligned, held := a.account.held + extension, lastUse := s.stamp } } ∧
        (∀ m, m ≠ n → t.slot m = s.slot m) ∧
        (s.station i).Reloaded s.now (s.station i).profile.linkCard (t.station i) ∧
        (t.station i).state = (s.station i).state ∧ (t.station i).path = (s.station i).path ∧
        (t.station i).lastRefusal = (s.station i).lastRefusal ∧ t.reservations = s.reservations ∧
        t.journal = s.journal ∧ ∀ j, j ≠ i → t.station j = s.station j)

/-- R57: the admission of a BANK card: an AUTHORIZING session with a hold of 0, an auth reference that no
AUTHORIZING session carries, the authorization timer, and AUTH-REQUEST. The command needs no start byte before
it, the model's choice in every clause (log 10). R57, R45, R160, R41: the admission of a BANK card at a READY
or a SAVE station: the station stands in READY, both idle timers run with the session pair, the reader is sent
AUTHORIZING, and AUTH-REQUEST is posted after STATION-CHANGE for a wake and JOURNAL-LOW for a free count
brought to 32. -/
def Obligations.BankAdmission : Prop :=
  (∀ (s : State) (i : StationId) (token : BitVec 128), s.running = true →
      (s.station i).reader.condition ≠ .waitingIdle → (s.station i).state = .ready →
      (s.station i).session = none → s.journal.length + s.reservations ≤ 510 → s.authRef < 65536 →
      ∃ t x r, exec (.cardFrame i (.bank token)) s = .next t ∧ (t.station i).session = some x ∧
        x.payment = .bank r token ∧ x.hold = 0 ∧ x.phase = .authorizing ∧ x.suspended = false ∧
        x.rate = (s.station i).profile.walkInRate ∧ t.authRef = r ∧ r < 65536 ∧ r ∉ s.authRefs ∧
        (t.station i).authTimer = some (s.now + 1000 * (s.station i).profile.authTimeout) ∧
        (s.NoticesKept → ⟨.authRequest, i.val + 1⟩ ∈ t.notices) ∧ t.reservations = s.reservations + 1 ∧
        t.slots = s.slots ∧ t.journal = s.journal ∧ ∀ j, j ≠ i → t.station j = s.station j) ∧
  (∀ (s : State) (i : StationId) (token : BitVec 128), s.running = true →
      (s.station i).reader.condition ≠ .waitingIdle → (s.station i).state = .ready ∨ (s.station i).state = .save →
      (s.station i).session = none → s.journal.length + s.reservations ≤ 510 →
      ∃ t x r, exec (.cardFrame i (.bank token)) s = .next t ∧ (t.station i).session = some x ∧
        (t.station i).state = .ready ∧ x.payment = .bank r token ∧ x.hold = 0 ∧ x.phase = .authorizing ∧
        x.serial = (s.sessionSerial + 1) % 4294967296 ∧ x.opened = s.stamp ∧
        (t.station i).authTimer = some (s.now + 1000 * (s.station i).profile.authTimeout) ∧
        (t.station i).timerA = loadedTimer s.now (codeSeconds (s.station i).profile.sessionA) ∧
        (t.station i).timerB = loadedTimer s.now (codeSeconds (s.station i).profile.sessionB) ∧
        (t.station i).reader =
          ({ (s.station i).reader with condition := .looking } : ReaderPort).produce .authorizing ∧
        (∀ woken, woken = (if (s.station i).state = .save then
              insertNotice ⟨.stationChange, i.val + 1⟩ s.notices else s.notices) →
          t.notices = insertNotice ⟨.authRequest, i.val + 1⟩
            (if s.journal.length + s.reservations = 479 then insertNotice ⟨.journalLow, 0⟩ woken else woken)) ∧
        t.reservations = s.reservations + 1 ∧ t.slots = s.slots ∧ t.journal = s.journal ∧
        ∀ j, j ≠ i → t.station j = s.station j)

/-- R53, R66, R58, R69: END at a station that is not in SAVE: an ACTIVE, HOLDING or HELD session with sheets
in the path enters CLOSING; an AUTHORIZING one ends without a record; with none, or one CLOSING, END is
refused BUSY. The command needs no start byte before it, the model's choice in every clause (log 10). R66,
R67, R70, R72: END at an ACTIVE, HOLDING or HELD COUNTER session with an empty path settles it in the same
event with reason CUSTOMER. -/
def Obligations.EndKeyBySession : Prop :=
  (∀ (s : State) (i : StationId), s.running = true → (s.station i).reader.condition ≠ .waitingIdle →
      (s.station i).state ≠ .save →
      (∀ x, (s.station i).session = some x → x.copying = true → (s.station i).path ≠ [] →
        ∃ t, exec (.endFrame i) s = .next t ∧
          (t.station i).session = some { x with phase := .closing .customer } ∧
          (t.station i).pauseTimer = none ∧ (t.station i).path = (s.station i).path ∧ t.journal = s.journal ∧
          t.slots = s.slots ∧ t.notices = s.notices ∧ ∀ j, j ≠ i → t.station j = s.station j) ∧
      (∀ x, (s.station i).session = some x → x.authorizing = true →
        ∃ t, exec (.endFrame i) s = .next t ∧ (t.station i).session = none ∧ (t.station i).authTimer = none ∧
          t.reservations = s.reservations - 1 ∧ t.journal = s.journal ∧ t.slots = s.slots ∧
          t.notices = s.notices ∧ ∀ j, j ≠ i → t.station j = s.station j) ∧
      ((s.station i).session = none ∨ (∃ x, (s.station i).session = some x ∧ x.closing = true) →
        ∃ t, exec (.endFrame i) s = .next t ∧
          (t.station i).lastRefusal = some ⟨.busy, .none, s.stamp⟩ ∧
          (t.station i).session = (s.station i).session ∧
          t.notices = insertNotice ⟨.cardRefused, i.val + 1⟩ s.notices ∧ t.journal = s.journal ∧
          t.slots = s.slots ∧ ∀ j, j ≠ i → t.station j = s.station j)) ∧
  (∀ (s : State) (i : StationId) (x : Session) (ref : Nat), s.running = true →
      (s.station i).reader.condition ≠ .waitingIdle → (s.station i).state ≠ .save →
      (s.station i).session = some x → x.copying = true → (s.station i).path = [] → x.payment = .counter ref →
      x.stopPending = false →
      ∃ t r, exec (.endFrame i) s = .next t ∧ (t.station i).session = none ∧ (t.station i).pauseTimer = none ∧
        (t.station i).state = (s.station i).state ∧ t.journal = s.journal ++ [.settle r] ∧ r.reason = .customer ∧
        r.charged = (x.charged + 5) / 10 ∧ r.sessionSerial = x.serial ∧ r.paidBy = .counter ref ∧
        r.serial = (s.recordSerial + 1) % 4294967296 ∧ t.reservations = s.reservations - 1 ∧
        (t.station i).reader =
          ({ (s.station i).reader with condition := .looking } : ReaderPort).produce
            (.closed ((x.charged + 5) / 10)) ∧
        (t.station i).timerA = loadedTimer s.now (codeSeconds (s.station i).profile.idleA) ∧
        (t.station i).timerB = loadedTimer s.now (codeSeconds (s.station i).profile.idleB) ∧
        t.notices = insertNotice ⟨.sessionClosed, i.val + 1⟩ s.notices ∧ t.slots = s.slots ∧
        ∀ j, j ≠ i → t.station j = s.station j)

/-- R47, R49, R178: at a station that is not in SAVE, a malformed frame is refused READ-ERROR in either device
state and the port then waits for an idle line; a port that is not assembling takes one as well, since the
command stands for the frame's own start byte too (log 10). The 100 ms gap within a frame is refused in the
same way, and the port then looks for a start byte at once, the gap being the idle line it would wait for (log
12). A start byte and an idle line move the port. R48: when an indicator frame has been sent the oldest
waiting one begins; a frame produced while 4 wait discards the oldest waiting. -/
def Obligations.ReaderPorts : Prop :=
  (∀ (s : State) (i : StationId), s.alive = true →
      ((s.station i).reader.condition ≠ .waitingIdle → (s.station i).state ≠ .save →
        ∃ t, exec (.malformedFrame i) s = .next t ∧ (t.station i).reader.condition = .waitingIdle ∧
          (t.station i).lastRefusal = some ⟨.readError, .none, s.stamp⟩ ∧
          (t.station i).session = (s.station i).session ∧ (t.station i).state = (s.station i).state ∧
          t.notices = insertNotice ⟨.cardRefused, i.val + 1⟩ s.notices ∧ t.slots = s.slots ∧
          t.journal = s.journal ∧ ∀ j, j ≠ i → t.station j = s.station j) ∧
      ((s.station i).reader.condition = .assembling → (s.station i).state ≠ .save →
        ∃ t, exec (.readerGapTimeout i) s = .next t ∧ (t.station i).reader.condition = .looking ∧
          (t.station i).lastRefusal = some ⟨.readError, .none, s.stamp⟩ ∧
          (t.station i).session = (s.station i).session ∧
          t.notices = insertNotice ⟨.cardRefused, i.val + 1⟩ s.notices ∧
          ∀ j, j ≠ i → t.station j = s.station j) ∧
      ((s.station i).reader.condition = .looking → exec (.readerStartByte i) s = .next (s.setStation i
        { s.station i with reader := { (s.station i).reader with condition := .assembling } })) ∧
      ((s.station i).reader.condition = .waitingIdle → exec (.readerIdleResume i) s = .next (s.setStation i
        { s.station i with reader := { (s.station i).reader with condition := .looking } }))) ∧
  ((∀ (s : State) (i : StationId) (f : Indicator) (rest : List Indicator), s.mainSupply = true →
      s.resetPin = false → (s.station i).reader.waiting = f :: rest →
      exec (.indicatorFrameSent i) s = .next (s.setStation i { s.station i with
        reader := { (s.station i).reader with sending := some f, waiting := rest } })) ∧
    (∀ (s : State) (i : StationId), s.mainSupply = true → s.resetPin = false →
      (s.station i).reader.waiting = [] →
      exec (.indicatorFrameSent i) s = .next (s.setStation i { s.station i with
        reader := { (s.station i).reader with sending := none } })) ∧
    ∀ (p : ReaderPort) (f a b c d g : Indicator), p.sending = some g → p.waiting = [a, b, c, d] →
      (p.produce f).sending = some g ∧ (p.produce f).waiting = [b, c, d, f])

/-! ## Supply and restart -/

/-- R176, R177, R122, R174: a recognized PFAIL brings the RUNNING device into SHUTDOWN: every session
SUSPENDED from its state, every timer stopped, POWER-FAIL posted; no account, record, meter, jam record or
path changes. -/
def Obligations.PfailShutsDown : Prop :=
  ∀ s : State, s.running = true → ∃ t, exec .pfailAsserted s = .next t ∧
    t = { s with
      device := .shutdown, pfail := true, scrubDue := none, stations := t.stations
      notices := insertNotice ⟨.powerFail, 0⟩ s.notices } ∧
    ∀ i, (t.station i).session = (s.station i).session.map (fun x => { x with suspended := true }) ∧
      (t.station i).timerA = .stopped ∧ (t.station i).timerB = .stopped ∧ (t.station i).authTimer = none ∧
      (t.station i).pauseTimer = none ∧ (t.station i).purgeTimer = none ∧
      (t.station i).state = (s.station i).state ∧ (t.station i).path = (s.station i).path ∧
      (t.station i).jam = (s.station i).jam ∧ (t.station i).meters = (s.station i).meters ∧
      t.permit i = false ∧ t.pause i = false ∧ t.save i = false ∧
      ∀ m : Line, ((t.station i).lines.get m).level = ((s.station i).lines.get m).level ∧
        ((t.station i).lines.get m).timing = none

/-- R178, R179, R172: a supply failure and the RESET pin lose the volatile state and keep the retained domain.
That the validity marker falls with VBAT is the model's reading (log 16), and that without VBAT the contents
stand unread until the next restart is its choice (log 34). R178, R179: all that a supply failure and the
RESET pin leave: the volatile items at their start values, at every station the five timers stopped, each line
deasserted with no candidate timing and the reader port empty, and every other item as it stood, the serials,
references, counters, flags and positions of the retained domain among them. A frame being sent is lost (log
19), PFAIL's recognition is kept over the RESET pin (log 17), and the interval count stands (log 2). The
operand says whether VBAT holds (log 16); where it does not, that the contents stand unread until the next
restart is the model's choice (log 34). -/
def Obligations.VolatileStateLost : Prop :=
  (∀ (s : State) (c : Instr) (v : Bool), c = .supplyFailure v ∨ (c = .resetPinAsserted ∧ v = true) →
      ∃ t, exec c s = .next t ∧ t.notices = [] ∧ t.receiveQueue = [] ∧ t.linkOverrun = false ∧ t.reply = none ∧
        t.hostCondition = .hunting ∧ t.restart = none ∧ t.attn = false ∧ t.alive = false ∧
        t.marker = (s.marker && v) ∧ t.device = s.device ∧ t.journal = s.journal ∧
        t.reservations = s.reservations ∧ t.slots = s.slots ∧ t.plans = s.plans ∧ t.stamp = s.stamp ∧
        t.period = s.period ∧ t.alarm = s.alarm ∧ t.noticeMask = s.noticeMask ∧
        ∀ i, (t.station i).session = (s.station i).session ∧ (t.station i).path = (s.station i).path ∧
          (t.station i).jam = (s.station i).jam ∧ (t.station i).meters = (s.station i).meters ∧
          (t.station i).state = (s.station i).state ∧ (t.station i).profile = (s.station i).profile ∧
          (t.station i).timerA = .stopped ∧ (t.station i).timerB = .stopped ∧
          (t.station i).reader = { condition := .looking, sending := none, waiting := [] } ∧
          t.permit i = false ∧ t.pause i = false ∧ t.save i = false) ∧
  (∀ (s : State) (v : Bool),
      (∃ t, exec (.supplyFailure v) s = .next t ∧
        t = { s with
          mainSupply := false, pfail := false, cameUp := false, marker := s.marker && v, restart := none
          scrubDue := none, notices := [], hostCondition := .hunting, receiveQueue := [], linkOverrun := false
          reply := none, stations := t.stations } ∧
        ∀ i, t.station i = { s.station i with
            timerA := .stopped, timerB := .stopped, authTimer := none, pauseTimer := none, purgeTimer := none
            lines := (t.station i).lines, reader := { condition := .looking, sending := none, waiting := [] } } ∧
          ∀ m, (t.station i).lines.get m =
            { raw := ((s.station i).lines.get m).raw, level := false, timing := none }) ∧
      (∃ t, exec .resetPinAsserted s = .next t ∧
        t = { s with
          resetPin := true, restart := none, scrubDue := none, notices := [], hostCondition := .hunting
          receiveQueue := [], linkOverrun := false, reply := none, stations := t.stations } ∧
        ∀ i, t.station i = { s.station i with
            timerA := .stopped, timerB := .stopped, authTimer := none, pauseTimer := none, purgeTimer := none
            lines := (t.station i).lines, reader := { condition := .looking, sending := none, waiting := [] } } ∧
          ∀ m, (t.station i).lines.get m =
            { raw := ((s.station i).lines.get m).raw, level := false, timing := none }))

/-- R179, R180: which restart each trigger begins: the return of the supply after a power-up or in SHUTDOWN,
and the RESET pin's deassertion, of cause SUPPLY after a power-up and of cause PIN otherwise. The restart
stands before its first piece (log 15). -/
def Obligations.RestartTriggers : Prop :=
  ∀ (s : State) (c : Instr) (cause : RestartCause),
    (c = .supplyReturn (some 0) ∧ s.resetPin = false ∧ s.restart = none ∧ cause = .supply ∧
        (s.mainSupply = false ∨ s.cameUp = true ∨ s.device = .shutdown)) ∨
      (c = .resetPinDeasserted (some 0) ∧ s.resetPin = true ∧ s.mainSupply = true ∧
        ((s.cameUp = false ∧ cause = .pin) ∨ (s.cameUp = true ∧ s.pfail = false ∧ cause = .supply))) →
    ∃ t, exec c s = .next t ∧
      t.restart = some { cause := cause, before := s.device, next := 0, settled := [], corrected := false,
                         faulted := false } ∧
      t.device = s.device ∧ t.cameUp = false ∧ t.receiveQueue = [] ∧ t.linkOverrun = false ∧ t.reply = none ∧
      t.hostCondition = .hunting ∧ t.journal = s.journal ∧ t.slots = s.slots ∧
      t.reservations = s.reservations ∧
      ∀ i, (t.station i).session = (s.station i).session ∧ (t.station i).path = (s.station i).path ∧
        (t.station i).state = (s.station i).state ∧ (t.station i).reader.waiting = [] ∧
        (t.station i).reader.condition = .looking

/-- R181, R149, R186: a restart that finds the validity marker invalid leaves the state after reset, but for
what is volatile or outside the part: the pins, the interval count, the waiting commands and the model's
counter. The state after reset is the model's reading (log 1); that the interval count stands over the restart
(log 2), that the divider is 0 after the loss (log 28) and the counter of free values (log 14) are its
choices. -/
def Obligations.RetainedLossResets : Prop :=
  ∀ (s : State) (p : Option Nat), s.marker = false → s.mainSupply = false → s.resetPin = false → s.restart = none →
    p = none ∨ p = some 28 →
    ∃ t, exec (.supplyReturn p) s = .next t ∧
      t = { State.reset with
        pending := s.pending
        now := s.now
        scrubDue := some (s.now + 250)
        stations := t.stations
        freeCount := s.freeCount } ∧
      ∀ i, t.station i = { Station.reset with
        lines := (t.station i).lines, reader := (t.station i).reader }

/-- R180 to R186: a restart made whole leaves the device RUNNING with no session, no path, no OPEN jam record,
no reservation and no restart, every station OFFLINE or, by its auto-start, NOT-READY, and its RESTART record
newest in the journal. Each session that was not AUTHORIZING has its SETTLE record. R180 to R186, R150, R156,
R4, R20: a restart made whole of cause SUPPLY, PIN or COMMAND: a SETTLE record for each session that was not
AUTHORIZING, in station order with consecutive serials, closed with the session's own reason if it was
CLOSING, with POWER if the cause is SUPPLY or the device was in SHUTDOWN, with RESET otherwise; the RESTART
record, newest, or folded into the newest record of a full journal; each path written off on the meters and in
a closed record; every line recognized deasserted, with a fresh timing for an asserted pin, silent on FEED and
DELIVER, from the interval count that stands over the restart (log 2). PFAIL is not recognized here
(RestartMeetsPfail says what it changes). R180, R182 to R184, R156: with a restart in progress a step with no
command makes its next piece (log 3) and counts it. Stated here: an authorization ended, a path written off, a
COUNTER session settled, and the RESTART record. R180: the pieces of a restart follow one another: a restart
of cause SUPPLY, PIN or COMMAND made as far as its first `n` pieces (log 15) goes on, by a step with no
command, as the one made as far as `n + 1`, and the one of 28 pieces is the one made whole. R161: a restart
made whole, of each cause, ends with JOURNAL-LOW pending exactly where the free count is then 32 or below,
whatever was pending before. R180, R176, R177: PFAIL and a restart. Recognized while a restart runs it only
waits, and the supply's return taken before the last piece undoes it. Still recognized when the restart ends,
by its last piece or made whole of cause PIN or COMMAND, it leaves the part as the restart without it does,
but in SHUTDOWN at once: every session SUSPENDED, every timer and candidate timing stopped, POWER-FAIL
pending. That PFAIL counts as recognized until the supply's return is the model's choice (log 41), and that it
stands over the RESET pin is its reading (log 17). -/
def Obligations.RestartWindsDown : Prop :=
  (∀ s : State, s.Sound → s.marker = true → s.mainSupply = false → s.resetPin = false → s.restart = none →
      s.journal.length + s.reservations < 512 →
      ∃ t r records, exec (.supplyReturn none) s = .next t ∧ t.device = .running ∧ t.restart = none ∧
        t.reservations = 0 ∧ t.sessions = [] ∧ t.slots.map Prod.fst = s.slots.map Prod.fst ∧
        t.journal = s.journal ++ records ++ [.restart r] ∧
        records.length = (s.sessions.filter fun p => decide (p.2.phase ≠ .authorizing)).length ∧
        (∀ q ∈ records, ∃ x, q = .settle x ∧ x.charged ≤ x.hold) ∧
        r.repeats = 1 ∧ r.settled = records.length ∧ r.cause = .supply ∧ r.stamp = s.stamp ∧
        ∀ i, (t.station i).path = [] ∧ (t.station i).jamOpen = false ∧
          (t.station i).state = (if (s.station i).profile.autoStart then .notReady else .offline) ∧
          (t.station i).profile = (s.station i).profile ∧
          t.permit i = false ∧ t.pause i = false ∧ t.save i = false) ∧
  (∀ (s : State) (c : Instr) (cause : RestartCause), s.Sound → s.marker = true → s.restart = none →
      (c = .supplyReturn none ∧ s.resetPin = false ∧ (s.mainSupply = false ∨ s.device = .shutdown) ∧
          cause = .supply) ∨
        (c = .resetPinDeasserted none ∧ s.resetPin = true ∧ s.mainSupply = true ∧ s.cameUp = false ∧
          s.pfail = false ∧ cause = .pin) ∨
        (c = .replySent none ∧ s.alive = true ∧ s.pfail = false ∧ (∃ r, s.reply = some r ∧ r.restarts = true) ∧
          cause = .command) →
      ∃ t records, exec c s = .next t ∧ t.device = .running ∧ t.restart = none ∧ t.reservations = 0 ∧
        t.sessions = [] ∧
        List.Forall₂ (fun p q => ∃ r, q = .settle r ∧ r.station = p.1.val + 1 ∧ r.sessionSerial = p.2.serial ∧
            r.hold = p.2.hold ∧ r.charged = (p.2.charged + 5) / 10 ∧ r.opened = p.2.opened ∧ r.closed = s.stamp ∧
            r.jammed = min 4294967295 (p.2.jammed +
              ((s.station p.1).path.filter fun e => decide (e.serial = some p.2.serial)).length) ∧
            r.reason = (match p.2.phase with
              | .closing reason => reason
              | _ => if cause = .supply ∨ s.device = .shutdown then .power else .reset))
          (s.sessions.filter fun p => decide (p.2.phase ≠ .authorizing)) records ∧
        (∀ k q, records[k]? = some q → q.serial = (s.recordSerial + k + 1) % 4294967296) ∧
        (s.journal.length + s.reservations < 512 →
          t.journal = s.journal ++ records ++ [.restart
            { serial := (s.recordSerial + records.length + 1) % 4294967296, stamp := s.stamp, cause := cause
              repeats := 1, settled := records.length }]) ∧
        (∀ older r, s.journal = older ++ [.restart r] → s.journal.length = 512 →
          records = [] ∧ t.recordSerial = s.recordSerial ∧
          t.journal = older ++ [.restart { r with
            stamp := s.stamp, cause := cause, repeats := min 255 (r.repeats + 1) }]) ∧
        (∀ i : StationId, ⟨.sessionClosed, i.val + 1⟩ ∈ t.notices ↔
          ∃ x, (s.station i).session = some x ∧ x.phase ≠ .authorizing) ∧
        ∀ i : StationId, (t.station i).path = [] ∧ (t.station i).jamOpen = false ∧
          (t.station i).state = (if (s.station i).profile.autoStart then .notReady else .offline) ∧
          ⟨.stationChange, i.val + 1⟩ ∈ t.notices ∧
          (∀ m : Line, (t.station i).lines.get m =
            { raw := ((s.station i).lines.get m).raw, level := false
              timing := if ((s.station i).lines.get m).raw then
                  some ⟨s.now, decide (m = .feed ∨ m = .deliver)⟩ else none }) ∧
          (t.station i).meters.jammed = (if (s.station i).path = [] then (s.station i).meters.jammed
            else ((s.station i).meters.jammed + (s.station i).path.length) % 100000000) ∧
          (∀ before, before = (match (s.station i).jam with
              | some r => if r.lost = none then
                  ((s.station i).meters.lost + (r.inDoubt - r.purged)) % 100000000 else (s.station i).meters.lost
              | none => (s.station i).meters.lost) →
            (t.station i).meters.lost = if (s.station i).path = [] then before
              else (before + (s.station i).path.length) % 100000000) ∧
          ((s.station i).path ≠ [] → ∃ r, (t.station i).jam = some r ∧ r.cause = .restart ∧ r.stamp = s.stamp ∧
            r.inDoubt = (s.station i).path.length ∧ r.purged = 0 ∧ r.lost = some (s.station i).path.length) ∧
          ((s.station i).path = [] → ∀ r, (s.station i).jam = some r → (t.station i).jam = some { r with
            lost := some (r.lost.getD (r.inDoubt - r.purged)) })) ∧
  (∀ (s : State) (r : Restart) (i : StationId), s.pending = [] → s.restart = some r →
      (∀ x, r.next = 1 + i.val → (s.station i).session = some x → x.phase = .authorizing →
        step s = .next { s.setStation i { s.station i with session := none, authTimer := none } with
          reservations := s.reservations - 1, restart := some { r with next := r.next + 1 } }) ∧
      (∀ x, r.next = 1 + i.val → (s.station i).session = some x → x.phase ≠ .authorizing →
        step s = .next { s with restart := some { r with next := r.next + 1 } }) ∧
      (∀ e rest, r.next = 9 + i.val → (s.station i).path = e :: rest → rest.length ≤ 8 →
        ∃ t q, step s = .next t ∧ t.restart = some { r with next := r.next + 1 } ∧ (t.station i).path = [] ∧
          (t.station i).jam = some q ∧ q.cause = .restart ∧ q.stamp = s.stamp ∧ q.inDoubt = rest.length + 1 ∧
          q.purged = 0 ∧ q.lost = some (rest.length + 1) ∧
          q.serial = ((s.station i).jamSerial + 1) % 65536 ∧ t.journal = s.journal ∧ t.slots = s.slots ∧
          t.reservations = s.reservations ∧ ∀ j, j ≠ i → t.station j = s.station j) ∧
      (∀ x ref, r.next = 17 + i.val → (s.station i).session = some x → x.payment = .counter ref →
        ∃ t q, step s = .next t ∧
          t.restart = some { r with next := r.next + 1, settled := r.settled ++ [i] } ∧
          (t.station i).session = none ∧ t.journal = s.journal ++ [.settle q] ∧
          q.serial = (s.recordSerial + 1) % 4294967296 ∧ q.sessionSerial = x.serial ∧ q.closed = s.stamp ∧
          q.charged = (x.charged + 5) / 10 ∧
          q.reason = (match x.phase with
            | .closing reason => reason
            | _ => if r.cause = .supply ∨ r.cause = .retainLost ∨ r.before = .shutdown then .power else .reset) ∧
          t.reservations = s.reservations - 1 ∧ t.slots = s.slots ∧
          ∀ j, j ≠ i → t.station j = s.station j) ∧
      (r.next = 25 → s.journal.length < 512 →
        ∃ t, step s = .next t ∧ t.restart = some { r with next := r.next + 1 } ∧
          t.journal = s.journal ++ [.restart
            { serial := (s.recordSerial + 1) % 4294967296, stamp := s.stamp, cause := r.cause, repeats := 1
              settled := r.settled.length }] ∧
          t.reservations = s.reservations ∧ t.slots = s.slots ∧ ∀ j, t.station j = s.station j)) ∧
  (∀ (s u : State) (n : Nat) (c : Option Nat → Instr), s.pending = [] → s.restart = none →
      c = .supplyReturn ∨ c = .resetPinDeasserted ∨ c = .replySent →
      exec (c (some 28)) s = exec (c none) s ∧
        (exec (c (some n)) s = .next u → u.restart.isSome = true → step u = exec (c (some (n + 1))) s)) ∧
  (∀ (s : State) (c : Instr), s.restart = none →
      (c = .supplyReturn none ∧ s.resetPin = false ∧ (s.mainSupply = false ∨ s.device = .shutdown)) ∨
        (c = .resetPinDeasserted none ∧ s.resetPin = true ∧ s.mainSupply = true ∧ s.cameUp = false ∧
          s.pfail = false) ∨
        (c = .replySent none ∧ s.alive = true ∧ s.pfail = false ∧ ∃ r, s.reply = some r ∧ r.restarts = true) →
      ∃ t, exec c s = .next t ∧
        (⟨.journalLow, 0⟩ ∈ t.notices ↔ 480 ≤ t.journal.length + t.reservations)) ∧
  ((∀ (s : State) (r : Restart) (p : Option Nat), s.mainSupply = true → s.restart = some r →
      exec .pfailAsserted s = .next { s with pfail := true } ∧
        exec (.supplyReturn p) s = .next { s with pfail := false }) ∧
    ∀ (s u : State) (run : State → Host.Outcome State Fault Refusal), s.pfail = true →
      (run = step ∧ s.pending = [] ∧ ∃ r, s.restart = some r ∧ r.next = 27) ∨
        (run = exec (.resetPinDeasserted none) ∧ s.restart = none ∧ s.resetPin = true ∧ s.mainSupply = true ∧
          s.cameUp = false) ∨
        (run = exec (.replySent none) ∧ s.restart = none ∧ s.alive = true ∧
          ∃ r, s.reply = some r ∧ r.restarts = true) →
      run { s with pfail := false } = .next u →
      ∃ t, run s = .next t ∧
        t = { u with
          device := .shutdown, pfail := true, scrubDue := none, stations := t.stations
          notices := insertNotice ⟨.powerFail, 0⟩ u.notices } ∧
        ∀ i, t.station i = { u.station i with
            session := (u.station i).session.map fun x => { x with suspended := true }
            timerA := .stopped, timerB := .stopped, authTimer := none, pauseTimer := none, purgeTimer := none
            lines := (t.station i).lines } ∧
          ∀ m : Line, (t.station i).lines.get m = { (u.station i).lines.get m with timing := none })

/-! ## What every step keeps -/

/-- The invariants of Sys2Proof/Safety.lean hold at reset, as the model reads reset (log 1). -/
def Obligations.ResetIsSound : Prop :=
  State.reset.Sound

/-- R7, R48, R110, R163: every step keeps every list within its capacity. R73, R89, R65: every step keeps each
count of a session within its top, where it saturates. R172, R173: every step keeps the notice set free of
repeats, in order, every entry within its scope. -/
def Obligations.StepKeepsListsAndNotices : Prop :=
  (∀ s t : State, s.Bounded → step s = .next t → t.Bounded) ∧
  (∀ s t : State, s.CountsKept → step s = .next t → t.CountsKept) ∧
  (∀ s t : State, s.NoticesKept → step s = .next t → t.NoticesKept)

/-- R124, R125: every step keeps the account table in its canonical form, and no identity in two slots. -/
def Obligations.StepKeepsAccountTable : Prop :=
  ∀ s t : State, s.SlotsKept → s.IdentitiesDistinct → step s = .next t → t.SlotsKept ∧ t.IdentitiesDistinct

/-- R108, R111, R118, R29: every step keeps an OPEN jam record exactly at the JAMMED and RECOVER stations. -/
def Obligations.StepKeepsJamRecords : Prop :=
  ∀ s t : State, s.JamsKept → step s = .next t → t.JamsKept

/-- R153, R154, R156, R157: every step keeps one reservation for each session, and records and reservations
within the journal. -/
def Obligations.StepKeepsJournal : Prop :=
  ∀ s t : State, s.JournalKept → s.RestartKept → step s = .next t → t.JournalKept ∧ t.RestartKept

/-- R86, R87, R88, R89, R112: every step keeps each station's money whole: pending is the prices of the
COVERED sheets in its path, and charged and pending never exceed the hold. -/
def Obligations.StepKeepsMoney : Prop :=
  ∀ s t : State, s.MoneyKept → s.RestartKept → step s = .next t → t.MoneyKept ∧ t.RestartKept

/-- R126, R127, R128, R134, R135, R141: every step keeps what the accounts hold equal to what their sessions
hold, with every account able to bear it. -/
def Obligations.StepKeepsSound : Prop :=
  ∀ s t : State, s.Sound → step s = .next t → t.Sound
end

