-- ==== Sys2Proof/Laws/Slots.lean ====
section
/-! SUPPORT. The account table: a read after a write, and that every operation on the table keeps its canonical
form (slot numbers rising, FREE slots unlisted). -/

namespace Sys2Proof.Machine

/-! ### The order of a table -/

/-- The numbers of a table rise strictly and lie above `b`. -/
def slotsAbove (b : Nat) : List (Nat × Slot) → Prop
  | [] => True
  | (m, _) :: rest => b < m ∧ slotsAbove m rest

/-- A lower bound on the numbers may be lowered. -/
theorem slotsAbove_mono {b c : Nat} (h : b ≤ c) : ∀ {l}, slotsAbove c l → slotsAbove b l
  | [], _ => trivial
  | (_, _) :: _, ⟨h1, h2⟩ => ⟨Nat.lt_of_le_of_lt h h1, h2⟩

/-- A table's order, read as the pairwise order of its numbers. -/
theorem slotsAbove_iff {b : Nat} : ∀ {l : List (Nat × Slot)},
    slotsAbove b l ↔ (l.map Prod.fst).Pairwise (· < ·) ∧ ∀ p ∈ l, b < p.1
  | [] => by simp [slotsAbove]
  | (m, x) :: rest => by
      simp only [slotsAbove, slotsAbove_iff (l := rest), List.map_cons, List.pairwise_cons, List.mem_map,
        List.mem_cons, forall_exists_index, and_imp, forall_eq_or_imp]
      constructor
      · rintro ⟨hb, hp, hm⟩
        exact ⟨⟨fun _ p hp e => e ▸ hm p hp, hp⟩, hb, fun p h => Nat.lt_trans hb (hm p h)⟩
      · rintro ⟨⟨h1, h2⟩, hb, -⟩
        exact ⟨hb, h2, fun p h => h1 _ p h rfl⟩

/-- The canonical form: rising numbers, all below 4,096. -/
theorem slotsWf_iff {l : List (Nat × Slot)} : slotsWf l = true ↔
    (l.map Prod.fst).Pairwise (· < ·) ∧ ∀ p ∈ l, p.1 < Config.slotCount := by
  simp [slotsWf]

/-! ### Reading after writing -/

/-- A slot reads as it was written. -/
@[simp] theorem getSlot_putSlot_self (n : Nat) (x : Slot) : ∀ l, getSlot n (putSlot n x l) = some x
  | [] => by simp [putSlot, getSlot]
  | (m, y) :: rest => by
      unfold putSlot
      split
      · simp [getSlot]
      · split
        · simp [getSlot]
        · rename_i h
          simp [getSlot, Ne.symm h, getSlot_putSlot_self n x rest]

/-- A write leaves every other slot alone. -/
theorem getSlot_putSlot_of_ne {m n : Nat} (h : m ≠ n) (x : Slot) :
    ∀ l, getSlot m (putSlot n x l) = getSlot m l
  | [] => by simp [putSlot, getSlot, Ne.symm h]
  | (k, y) :: rest => by
      unfold putSlot
      split
      · simp [getSlot, Ne.symm h]
      · split
        · rename_i hk
          subst hk
          simp [getSlot, Ne.symm h]
        · simp only [getSlot]
          split
          · rfl
          · exact getSlot_putSlot_of_ne h x rest

/-- A number below all of a table's numbers is FREE. -/
theorem getSlot_of_above {b n : Nat} (h : n ≤ b) : ∀ {l}, slotsAbove b l → getSlot n l = none
  | [], _ => rfl
  | (m, _) :: rest, ⟨h1, h2⟩ => by
      have hm : m ≠ n := by omega
      simp only [getSlot, if_neg hm]
      exact getSlot_of_above (by omega) h2

/-- A freed slot is FREE. -/
theorem getSlot_freeSlot_self (n : Nat) {b : Nat} : ∀ {l}, slotsAbove b l → getSlot n (freeSlot n l) = none
  | [], _ => rfl
  | (m, y) :: rest, ⟨_, h2⟩ => by
      unfold freeSlot
      split
      · rename_i h
        subst h
        exact getSlot_of_above (Nat.le_refl _) h2
      · rename_i h
        simp only [getSlot, if_neg (Ne.symm h)]
        exact getSlot_freeSlot_self n h2

/-- Freeing a slot leaves every other slot alone. -/
theorem getSlot_freeSlot_of_ne {m n : Nat} (h : m ≠ n) : ∀ l, getSlot m (freeSlot n l) = getSlot m l
  | [] => rfl
  | (k, y) :: rest => by
      unfold freeSlot
      split
      · rename_i hk
        subst hk
        simp [getSlot, Ne.symm h]
      · simp only [getSlot]
        split
        · rfl
        · exact getSlot_freeSlot_of_ne h rest

/-! ### The canonical form is kept -/

/-- A slot that reads as present is listed. -/
theorem mem_of_getSlot {n : Nat} {x : Slot} : ∀ {l}, getSlot n l = some x → (n, x) ∈ l
  | (m, y) :: rest, h => by
      simp only [getSlot] at h
      split at h
      · rename_i hm
        cases h
        subst hm
        exact List.mem_cons_self
      · exact List.mem_cons_of_mem _ (mem_of_getSlot h)

/-- What a written table lists: the written slot and the slots listed before. -/
theorem mem_putSlot {n : Nat} {x : Slot} {p : Nat × Slot} :
    ∀ {l}, p ∈ putSlot n x l → p = (n, x) ∨ p ∈ l
  | [], h => .inl (by simpa [putSlot] using h)
  | (m, y) :: rest, h => by
      unfold putSlot at h
      split at h
      · simpa using h
      · split at h
        · rcases List.mem_cons.1 h with h | h
          · exact .inl h
          · exact .inr (List.mem_cons_of_mem _ h)
        · rcases List.mem_cons.1 h with h | h
          · exact .inr (h ▸ List.mem_cons_self)
          · exact (mem_putSlot h).imp_right (List.mem_cons_of_mem _)

/-- A write keeps the order. -/
theorem slotsAbove_putSlot {n b : Nat} {x : Slot} (hb : b < n) :
    ∀ {l}, slotsAbove b l → slotsAbove b (putSlot n x l)
  | [], _ => ⟨hb, trivial⟩
  | (m, y) :: rest, ⟨h1, h2⟩ => by
      unfold putSlot
      split
      · exact ⟨hb, ‹n < m›, h2⟩
      · split
        · rename_i h
          subst h
          exact ⟨hb, h2⟩
        · exact ⟨h1, slotsAbove_putSlot (by omega) h2⟩

/-- What a table lists after a slot is freed was listed before. -/
theorem mem_freeSlot {n : Nat} {p : Nat × Slot} : ∀ {l}, p ∈ freeSlot n l → p ∈ l
  | (m, y) :: rest, h => by
      unfold freeSlot at h
      split at h
      · exact List.mem_cons_of_mem _ h
      · rcases List.mem_cons.1 h with h | h
        · exact h ▸ List.mem_cons_self
        · exact List.mem_cons_of_mem _ (mem_freeSlot h)

/-- Freeing a slot keeps the order. -/
theorem slotsAbove_freeSlot {n b : Nat} : ∀ {l}, slotsAbove b l → slotsAbove b (freeSlot n l)
  | [], h => h
  | (m, y) :: rest, ⟨h1, h2⟩ => by
      unfold freeSlot
      split
      · exact slotsAbove_mono (Nat.le_of_lt h1) h2
      · exact ⟨h1, slotsAbove_freeSlot h2⟩

/-- The tail of a rising table lies above its head. -/
theorem slotsAbove_of_pairwise {m : Nat} {y : Slot} {rest : List (Nat × Slot)}
    (h : (((m, y) :: rest).map Prod.fst).Pairwise (· < ·)) : slotsAbove m rest := by
  rw [List.map_cons] at h
  have h := List.pairwise_cons.1 h
  exact slotsAbove_iff.2 ⟨h.2, fun p hp => h.1 p.1 (List.mem_map_of_mem (f := Prod.fst) hp)⟩

/-- A head below a rising tail makes a rising table. -/
theorem pairwise_of_slotsAbove {m : Nat} {y : Slot} {rest : List (Nat × Slot)} (h : slotsAbove m rest) :
    (((m, y) :: rest).map Prod.fst).Pairwise (· < ·) := by
  have h := slotsAbove_iff.1 h
  rw [List.map_cons]
  refine List.pairwise_cons.2 ⟨fun k hk => ?_, h.1⟩
  obtain ⟨p, hp, rfl⟩ := List.mem_map.1 hk
  exact h.2 p hp

/-- A write keeps the numbers rising. -/
theorem pairwise_putSlot {n : Nat} {x : Slot} : ∀ {l : List (Nat × Slot)},
    (l.map Prod.fst).Pairwise (· < ·) → ((putSlot n x l).map Prod.fst).Pairwise (· < ·)
  | [], _ => by simp [putSlot]
  | (m, y) :: rest, h => by
      have habove := slotsAbove_of_pairwise h
      unfold putSlot
      split
      · exact pairwise_of_slotsAbove (rest := (m, y) :: rest) ⟨‹n < m›, habove⟩
      · split
        · rename_i hn
          subst hn
          exact pairwise_of_slotsAbove habove
        · exact pairwise_of_slotsAbove (slotsAbove_putSlot (by omega) habove)

/-- A write of a slot number below 4,096 keeps the canonical form. -/
theorem slotsWf_putSlot {n : Nat} {x : Slot} {l : List (Nat × Slot)} (hn : n < Config.slotCount)
    (h : slotsWf l = true) : slotsWf (putSlot n x l) = true := by
  rw [slotsWf_iff] at h ⊢
  refine ⟨pairwise_putSlot h.1, fun p hp => ?_⟩
  rcases mem_putSlot hp with rfl | hp
  · exact hn
  · exact h.2 p hp

/-- Freeing a slot keeps the canonical form. -/
theorem slotsWf_freeSlot {n : Nat} {l : List (Nat × Slot)} (h : slotsWf l = true) :
    slotsWf (freeSlot n l) = true := by
  rw [slotsWf_iff] at h ⊢
  refine ⟨?_, fun p hp => h.2 p (mem_freeSlot hp)⟩
  cases l with
  | nil => simp [freeSlot]
  | cons q rest =>
      obtain ⟨m, y⟩ := q
      have habove := slotsAbove_of_pairwise h.1
      unfold freeSlot
      split
      · exact (slotsAbove_iff.1 habove).1
      · exact pairwise_of_slotsAbove (slotsAbove_freeSlot habove)

/-- Damage changes no slot number. -/
theorem map_fst_harmSlots (d : Option (Nat × Bool)) : ∀ l, (harmSlots d l).map Prod.fst = l.map Prod.fst
  | [] => rfl
  | (m, x) :: rest => by simp [harmSlots, map_fst_harmSlots d rest]

/-- Damage keeps the canonical form. -/
theorem slotsWf_harmSlots (d : Option (Nat × Bool)) {l : List (Nat × Slot)} (h : slotsWf l = true) :
    slotsWf (harmSlots d l) = true := by
  rw [slotsWf_iff] at h ⊢
  have hm := map_fst_harmSlots d l
  refine ⟨hm ▸ h.1, fun p hp => ?_⟩
  have : p.1 ∈ l.map Prod.fst := hm ▸ List.mem_map_of_mem (f := Prod.fst) hp
  obtain ⟨q, hq, e⟩ := List.mem_map.1 this
  exact e ▸ h.2 q hq

/-- A slot that is present in a canonical table has a number below 4,096. -/
theorem lt_of_getSlot {n : Nat} {x : Slot} {l : List (Nat × Slot)} (h : slotsWf l = true)
    (hn : getSlot n l = some x) : n < Config.slotCount :=
  (slotsWf_iff.1 h).2 _ (mem_of_getSlot hn)

/-- A write of a slot's content keeps the canonical form. -/
theorem State.slotsWf_writeAccount (s : State) (n : Nat) (a : Account) (h : slotsWf s.slots = true) :
    slotsWf (s.writeAccount n a).slots = true := by
  unfold State.writeAccount
  split
  · exact h
  · exact slotsWf_putSlot (lt_of_getSlot h ‹_›) h

/-- A tested read keeps the canonical form. -/
theorem State.slotsWf_testedRead (s : State) (n : Nat) (h : slotsWf s.slots = true) :
    slotsWf (s.testedRead n).1.slots = true := by
  unfold State.testedRead
  split
  · exact h
  · rename_i x hx
    have hn := lt_of_getSlot h hx
    split
    · exact h
    · split
      · exact h
      · exact slotsWf_putSlot hn h
      · exact slotsWf_putSlot hn h

/-- What a tested read can do (R129, R130): nothing to a FREE, SUSPECT or sound slot; a correction; a slot made
SUSPECT. -/
theorem State.testedRead_cases (s : State) (n : Nat) :
    (s.slot n = none ∧ s.testedRead n = (s, .free)) ∨
    ∃ x, s.slot n = some x ∧
      ((x.suspect = true ∧ s.testedRead n = (s, .suspect x)) ∨
       (x.suspect = false ∧ x.damage = .sound ∧ s.testedRead n = (s, .content x)) ∨
       (x.suspect = false ∧ x.damage = .correctable ∧ s.testedRead n =
         (({ s with slots := putSlot n { x with damage := .sound } s.slots, lastCorrected := some n }).post
            .memoryCorrected 0, .content { x with damage := .sound })) ∨
       (x.suspect = false ∧ x.damage = .uncorrectable ∧ s.testedRead n =
         (({ s with slots := putSlot n { x with suspect := true } s.slots, lastFault := some n }).post
            .memoryFault 0, .suspect { x with suspect := true }))) := by
  unfold State.testedRead
  cases h : s.slot n with
  | none => exact .inl ⟨rfl, rfl⟩
  | some x =>
      refine .inr ⟨x, rfl, ?_⟩
      cases hs : x.suspect with
      | true => exact .inl ⟨rfl, by simp [hs]⟩
      | false => cases hd : x.damage <;> simp [hs, hd]

/-- A tested read touches nothing but the table, the slots of R133 and the notice set. -/
theorem State.testedRead_frame (s : State) (n : Nat) :
    ∃ slots corrected fault notices, (s.testedRead n).1 =
      { s with slots := slots, lastCorrected := corrected, lastFault := fault, notices := notices } := by
  rcases s.testedRead_cases n with ⟨_, h⟩ | ⟨x, _, ⟨_, h⟩ | ⟨_, _, h⟩ | ⟨_, _, h⟩ | ⟨_, _, h⟩⟩ <;>
    rw [h] <;> exact ⟨_, _, _, _, rfl⟩

end Sys2Proof.Machine
end

