-- ==== Sys2Proof/Laws/State.lean ====
section
/-! SUPPORT. One lemma for each field and named update of the state, so that no later proof unfolds a record
update; and the stations after an update. -/

namespace Sys2Proof.Machine

/-! ### setStation -/

@[simp] theorem State.setStation_pending (s : State) (i : StationId) (st : Station) :
    (s.setStation i st).pending = s.pending := rfl
@[simp] theorem State.setStation_device (s : State) (i : StationId) (st : Station) :
    (s.setStation i st).device = s.device := rfl
@[simp] theorem State.setStation_marker (s : State) (i : StationId) (st : Station) :
    (s.setStation i st).marker = s.marker := rfl
@[simp] theorem State.setStation_mainSupply (s : State) (i : StationId) (st : Station) :
    (s.setStation i st).mainSupply = s.mainSupply := rfl
@[simp] theorem State.setStation_pfail (s : State) (i : StationId) (st : Station) :
    (s.setStation i st).pfail = s.pfail := rfl
@[simp] theorem State.setStation_resetPin (s : State) (i : StationId) (st : Station) :
    (s.setStation i st).resetPin = s.resetPin := rfl
@[simp] theorem State.setStation_cameUp (s : State) (i : StationId) (st : Station) :
    (s.setStation i st).cameUp = s.cameUp := rfl
@[simp] theorem State.setStation_restart (s : State) (i : StationId) (st : Station) :
    (s.setStation i st).restart = s.restart := rfl
@[simp] theorem State.setStation_now (s : State) (i : StationId) (st : Station) :
    (s.setStation i st).now = s.now := rfl
@[simp] theorem State.setStation_divider (s : State) (i : StationId) (st : Station) :
    (s.setStation i st).divider = s.divider := rfl
@[simp] theorem State.setStation_stamp (s : State) (i : StationId) (st : Station) :
    (s.setStation i st).stamp = s.stamp := rfl
@[simp] theorem State.setStation_timeUnset (s : State) (i : StationId) (st : Station) :
    (s.setStation i st).timeUnset = s.timeUnset := rfl
@[simp] theorem State.setStation_sessionSerial (s : State) (i : StationId) (st : Station) :
    (s.setStation i st).sessionSerial = s.sessionSerial := rfl
@[simp] theorem State.setStation_authRef (s : State) (i : StationId) (st : Station) :
    (s.setStation i st).authRef = s.authRef := rfl
@[simp] theorem State.setStation_plans (s : State) (i : StationId) (st : Station) :
    (s.setStation i st).plans = s.plans := rfl
@[simp] theorem State.setStation_slots (s : State) (i : StationId) (st : Station) :
    (s.setStation i st).slots = s.slots := rfl
@[simp] theorem State.setStation_scrubPosition (s : State) (i : StationId) (st : Station) :
    (s.setStation i st).scrubPosition = s.scrubPosition := rfl
@[simp] theorem State.setStation_scrubDue (s : State) (i : StationId) (st : Station) :
    (s.setStation i st).scrubDue = s.scrubDue := rfl
@[simp] theorem State.setStation_lastCorrected (s : State) (i : StationId) (st : Station) :
    (s.setStation i st).lastCorrected = s.lastCorrected := rfl
@[simp] theorem State.setStation_lastFault (s : State) (i : StationId) (st : Station) :
    (s.setStation i st).lastFault = s.lastFault := rfl
@[simp] theorem State.setStation_period (s : State) (i : StationId) (st : Station) :
    (s.setStation i st).period = s.period := rfl
@[simp] theorem State.setStation_alarm (s : State) (i : StationId) (st : Station) :
    (s.setStation i st).alarm = s.alarm := rfl
@[simp] theorem State.setStation_journal (s : State) (i : StationId) (st : Station) :
    (s.setStation i st).journal = s.journal := rfl
@[simp] theorem State.setStation_reservations (s : State) (i : StationId) (st : Station) :
    (s.setStation i st).reservations = s.reservations := rfl
@[simp] theorem State.setStation_recordSerial (s : State) (i : StationId) (st : Station) :
    (s.setStation i st).recordSerial = s.recordSerial := rfl
@[simp] theorem State.setStation_noticeMask (s : State) (i : StationId) (st : Station) :
    (s.setStation i st).noticeMask = s.noticeMask := rfl
@[simp] theorem State.setStation_notices (s : State) (i : StationId) (st : Station) :
    (s.setStation i st).notices = s.notices := rfl
@[simp] theorem State.setStation_hostCondition (s : State) (i : StationId) (st : Station) :
    (s.setStation i st).hostCondition = s.hostCondition := rfl
@[simp] theorem State.setStation_receiveQueue (s : State) (i : StationId) (st : Station) :
    (s.setStation i st).receiveQueue = s.receiveQueue := rfl
@[simp] theorem State.setStation_linkOverrun (s : State) (i : StationId) (st : Station) :
    (s.setStation i st).linkOverrun = s.linkOverrun := rfl
@[simp] theorem State.setStation_reply (s : State) (i : StationId) (st : Station) :
    (s.setStation i st).reply = s.reply := rfl
@[simp] theorem State.setStation_freeCount (s : State) (i : StationId) (st : Station) :
    (s.setStation i st).freeCount = s.freeCount := rfl

/-! ### modStation -/

@[simp] theorem State.modStation_pending (s : State) (i : StationId) (f : Station → Station) :
    (s.modStation i f).pending = s.pending := rfl
@[simp] theorem State.modStation_device (s : State) (i : StationId) (f : Station → Station) :
    (s.modStation i f).device = s.device := rfl
@[simp] theorem State.modStation_marker (s : State) (i : StationId) (f : Station → Station) :
    (s.modStation i f).marker = s.marker := rfl
@[simp] theorem State.modStation_mainSupply (s : State) (i : StationId) (f : Station → Station) :
    (s.modStation i f).mainSupply = s.mainSupply := rfl
@[simp] theorem State.modStation_pfail (s : State) (i : StationId) (f : Station → Station) :
    (s.modStation i f).pfail = s.pfail := rfl
@[simp] theorem State.modStation_resetPin (s : State) (i : StationId) (f : Station → Station) :
    (s.modStation i f).resetPin = s.resetPin := rfl
@[simp] theorem State.modStation_cameUp (s : State) (i : StationId) (f : Station → Station) :
    (s.modStation i f).cameUp = s.cameUp := rfl
@[simp] theorem State.modStation_restart (s : State) (i : StationId) (f : Station → Station) :
    (s.modStation i f).restart = s.restart := rfl
@[simp] theorem State.modStation_now (s : State) (i : StationId) (f : Station → Station) :
    (s.modStation i f).now = s.now := rfl
@[simp] theorem State.modStation_divider (s : State) (i : StationId) (f : Station → Station) :
    (s.modStation i f).divider = s.divider := rfl
@[simp] theorem State.modStation_stamp (s : State) (i : StationId) (f : Station → Station) :
    (s.modStation i f).stamp = s.stamp := rfl
@[simp] theorem State.modStation_timeUnset (s : State) (i : StationId) (f : Station → Station) :
    (s.modStation i f).timeUnset = s.timeUnset := rfl
@[simp] theorem State.modStation_sessionSerial (s : State) (i : StationId) (f : Station → Station) :
    (s.modStation i f).sessionSerial = s.sessionSerial := rfl
@[simp] theorem State.modStation_authRef (s : State) (i : StationId) (f : Station → Station) :
    (s.modStation i f).authRef = s.authRef := rfl
@[simp] theorem State.modStation_plans (s : State) (i : StationId) (f : Station → Station) :
    (s.modStation i f).plans = s.plans := rfl
@[simp] theorem State.modStation_slots (s : State) (i : StationId) (f : Station → Station) :
    (s.modStation i f).slots = s.slots := rfl
@[simp] theorem State.modStation_scrubPosition (s : State) (i : StationId) (f : Station → Station) :
    (s.modStation i f).scrubPosition = s.scrubPosition := rfl
@[simp] theorem State.modStation_scrubDue (s : State) (i : StationId) (f : Station → Station) :
    (s.modStation i f).scrubDue = s.scrubDue := rfl
@[simp] theorem State.modStation_lastCorrected (s : State) (i : StationId) (f : Station → Station) :
    (s.modStation i f).lastCorrected = s.lastCorrected := rfl
@[simp] theorem State.modStation_lastFault (s : State) (i : StationId) (f : Station → Station) :
    (s.modStation i f).lastFault = s.lastFault := rfl
@[simp] theorem State.modStation_period (s : State) (i : StationId) (f : Station → Station) :
    (s.modStation i f).period = s.period := rfl
@[simp] theorem State.modStation_alarm (s : State) (i : StationId) (f : Station → Station) :
    (s.modStation i f).alarm = s.alarm := rfl
@[simp] theorem State.modStation_journal (s : State) (i : StationId) (f : Station → Station) :
    (s.modStation i f).journal = s.journal := rfl
@[simp] theorem State.modStation_reservations (s : State) (i : StationId) (f : Station → Station) :
    (s.modStation i f).reservations = s.reservations := rfl
@[simp] theorem State.modStation_recordSerial (s : State) (i : StationId) (f : Station → Station) :
    (s.modStation i f).recordSerial = s.recordSerial := rfl
@[simp] theorem State.modStation_noticeMask (s : State) (i : StationId) (f : Station → Station) :
    (s.modStation i f).noticeMask = s.noticeMask := rfl
@[simp] theorem State.modStation_notices (s : State) (i : StationId) (f : Station → Station) :
    (s.modStation i f).notices = s.notices := rfl
@[simp] theorem State.modStation_hostCondition (s : State) (i : StationId) (f : Station → Station) :
    (s.modStation i f).hostCondition = s.hostCondition := rfl
@[simp] theorem State.modStation_receiveQueue (s : State) (i : StationId) (f : Station → Station) :
    (s.modStation i f).receiveQueue = s.receiveQueue := rfl
@[simp] theorem State.modStation_linkOverrun (s : State) (i : StationId) (f : Station → Station) :
    (s.modStation i f).linkOverrun = s.linkOverrun := rfl
@[simp] theorem State.modStation_reply (s : State) (i : StationId) (f : Station → Station) :
    (s.modStation i f).reply = s.reply := rfl
@[simp] theorem State.modStation_freeCount (s : State) (i : StationId) (f : Station → Station) :
    (s.modStation i f).freeCount = s.freeCount := rfl

/-! ### setSession -/

@[simp] theorem State.setSession_pending (s : State) (i : StationId) (x : Option Session) :
    (s.setSession i x).pending = s.pending := rfl
@[simp] theorem State.setSession_device (s : State) (i : StationId) (x : Option Session) :
    (s.setSession i x).device = s.device := rfl
@[simp] theorem State.setSession_marker (s : State) (i : StationId) (x : Option Session) :
    (s.setSession i x).marker = s.marker := rfl
@[simp] theorem State.setSession_mainSupply (s : State) (i : StationId) (x : Option Session) :
    (s.setSession i x).mainSupply = s.mainSupply := rfl
@[simp] theorem State.setSession_pfail (s : State) (i : StationId) (x : Option Session) :
    (s.setSession i x).pfail = s.pfail := rfl
@[simp] theorem State.setSession_resetPin (s : State) (i : StationId) (x : Option Session) :
    (s.setSession i x).resetPin = s.resetPin := rfl
@[simp] theorem State.setSession_cameUp (s : State) (i : StationId) (x : Option Session) :
    (s.setSession i x).cameUp = s.cameUp := rfl
@[simp] theorem State.setSession_restart (s : State) (i : StationId) (x : Option Session) :
    (s.setSession i x).restart = s.restart := rfl
@[simp] theorem State.setSession_now (s : State) (i : StationId) (x : Option Session) :
    (s.setSession i x).now = s.now := rfl
@[simp] theorem State.setSession_divider (s : State) (i : StationId) (x : Option Session) :
    (s.setSession i x).divider = s.divider := rfl
@[simp] theorem State.setSession_stamp (s : State) (i : StationId) (x : Option Session) :
    (s.setSession i x).stamp = s.stamp := rfl
@[simp] theorem State.setSession_timeUnset (s : State) (i : StationId) (x : Option Session) :
    (s.setSession i x).timeUnset = s.timeUnset := rfl
@[simp] theorem State.setSession_sessionSerial (s : State) (i : StationId) (x : Option Session) :
    (s.setSession i x).sessionSerial = s.sessionSerial := rfl
@[simp] theorem State.setSession_authRef (s : State) (i : StationId) (x : Option Session) :
    (s.setSession i x).authRef = s.authRef := rfl
@[simp] theorem State.setSession_plans (s : State) (i : StationId) (x : Option Session) :
    (s.setSession i x).plans = s.plans := rfl
@[simp] theorem State.setSession_slots (s : State) (i : StationId) (x : Option Session) :
    (s.setSession i x).slots = s.slots := rfl
@[simp] theorem State.setSession_scrubPosition (s : State) (i : StationId) (x : Option Session) :
    (s.setSession i x).scrubPosition = s.scrubPosition := rfl
@[simp] theorem State.setSession_scrubDue (s : State) (i : StationId) (x : Option Session) :
    (s.setSession i x).scrubDue = s.scrubDue := rfl
@[simp] theorem State.setSession_lastCorrected (s : State) (i : StationId) (x : Option Session) :
    (s.setSession i x).lastCorrected = s.lastCorrected := rfl
@[simp] theorem State.setSession_lastFault (s : State) (i : StationId) (x : Option Session) :
    (s.setSession i x).lastFault = s.lastFault := rfl
@[simp] theorem State.setSession_period (s : State) (i : StationId) (x : Option Session) :
    (s.setSession i x).period = s.period := rfl
@[simp] theorem State.setSession_alarm (s : State) (i : StationId) (x : Option Session) :
    (s.setSession i x).alarm = s.alarm := rfl
@[simp] theorem State.setSession_journal (s : State) (i : StationId) (x : Option Session) :
    (s.setSession i x).journal = s.journal := rfl
@[simp] theorem State.setSession_reservations (s : State) (i : StationId) (x : Option Session) :
    (s.setSession i x).reservations = s.reservations := rfl
@[simp] theorem State.setSession_recordSerial (s : State) (i : StationId) (x : Option Session) :
    (s.setSession i x).recordSerial = s.recordSerial := rfl
@[simp] theorem State.setSession_noticeMask (s : State) (i : StationId) (x : Option Session) :
    (s.setSession i x).noticeMask = s.noticeMask := rfl
@[simp] theorem State.setSession_notices (s : State) (i : StationId) (x : Option Session) :
    (s.setSession i x).notices = s.notices := rfl
@[simp] theorem State.setSession_hostCondition (s : State) (i : StationId) (x : Option Session) :
    (s.setSession i x).hostCondition = s.hostCondition := rfl
@[simp] theorem State.setSession_receiveQueue (s : State) (i : StationId) (x : Option Session) :
    (s.setSession i x).receiveQueue = s.receiveQueue := rfl
@[simp] theorem State.setSession_linkOverrun (s : State) (i : StationId) (x : Option Session) :
    (s.setSession i x).linkOverrun = s.linkOverrun := rfl
@[simp] theorem State.setSession_reply (s : State) (i : StationId) (x : Option Session) :
    (s.setSession i x).reply = s.reply := rfl
@[simp] theorem State.setSession_freeCount (s : State) (i : StationId) (x : Option Session) :
    (s.setSession i x).freeCount = s.freeCount := rfl

/-! ### modSession -/

@[simp] theorem State.modSession_pending (s : State) (i : StationId) (f : Session → Session) :
    (s.modSession i f).pending = s.pending := rfl
@[simp] theorem State.modSession_device (s : State) (i : StationId) (f : Session → Session) :
    (s.modSession i f).device = s.device := rfl
@[simp] theorem State.modSession_marker (s : State) (i : StationId) (f : Session → Session) :
    (s.modSession i f).marker = s.marker := rfl
@[simp] theorem State.modSession_mainSupply (s : State) (i : StationId) (f : Session → Session) :
    (s.modSession i f).mainSupply = s.mainSupply := rfl
@[simp] theorem State.modSession_pfail (s : State) (i : StationId) (f : Session → Session) :
    (s.modSession i f).pfail = s.pfail := rfl
@[simp] theorem State.modSession_resetPin (s : State) (i : StationId) (f : Session → Session) :
    (s.modSession i f).resetPin = s.resetPin := rfl
@[simp] theorem State.modSession_cameUp (s : State) (i : StationId) (f : Session → Session) :
    (s.modSession i f).cameUp = s.cameUp := rfl
@[simp] theorem State.modSession_restart (s : State) (i : StationId) (f : Session → Session) :
    (s.modSession i f).restart = s.restart := rfl
@[simp] theorem State.modSession_now (s : State) (i : StationId) (f : Session → Session) :
    (s.modSession i f).now = s.now := rfl
@[simp] theorem State.modSession_divider (s : State) (i : StationId) (f : Session → Session) :
    (s.modSession i f).divider = s.divider := rfl
@[simp] theorem State.modSession_stamp (s : State) (i : StationId) (f : Session → Session) :
    (s.modSession i f).stamp = s.stamp := rfl
@[simp] theorem State.modSession_timeUnset (s : State) (i : StationId) (f : Session → Session) :
    (s.modSession i f).timeUnset = s.timeUnset := rfl
@[simp] theorem State.modSession_sessionSerial (s : State) (i : StationId) (f : Session → Session) :
    (s.modSession i f).sessionSerial = s.sessionSerial := rfl
@[simp] theorem State.modSession_authRef (s : State) (i : StationId) (f : Session → Session) :
    (s.modSession i f).authRef = s.authRef := rfl
@[simp] theorem State.modSession_plans (s : State) (i : StationId) (f : Session → Session) :
    (s.modSession i f).plans = s.plans := rfl
@[simp] theorem State.modSession_slots (s : State) (i : StationId) (f : Session → Session) :
    (s.modSession i f).slots = s.slots := rfl
@[simp] theorem State.modSession_scrubPosition (s : State) (i : StationId) (f : Session → Session) :
    (s.modSession i f).scrubPosition = s.scrubPosition := rfl
@[simp] theorem State.modSession_scrubDue (s : State) (i : StationId) (f : Session → Session) :
    (s.modSession i f).scrubDue = s.scrubDue := rfl
@[simp] theorem State.modSession_lastCorrected (s : State) (i : StationId) (f : Session → Session) :
    (s.modSession i f).lastCorrected = s.lastCorrected := rfl
@[simp] theorem State.modSession_lastFault (s : State) (i : StationId) (f : Session → Session) :
    (s.modSession i f).lastFault = s.lastFault := rfl
@[simp] theorem State.modSession_period (s : State) (i : StationId) (f : Session → Session) :
    (s.modSession i f).period = s.period := rfl
@[simp] theorem State.modSession_alarm (s : State) (i : StationId) (f : Session → Session) :
    (s.modSession i f).alarm = s.alarm := rfl
@[simp] theorem State.modSession_journal (s : State) (i : StationId) (f : Session → Session) :
    (s.modSession i f).journal = s.journal := rfl
@[simp] theorem State.modSession_reservations (s : State) (i : StationId) (f : Session → Session) :
    (s.modSession i f).reservations = s.reservations := rfl
@[simp] theorem State.modSession_recordSerial (s : State) (i : StationId) (f : Session → Session) :
    (s.modSession i f).recordSerial = s.recordSerial := rfl
@[simp] theorem State.modSession_noticeMask (s : State) (i : StationId) (f : Session → Session) :
    (s.modSession i f).noticeMask = s.noticeMask := rfl
@[simp] theorem State.modSession_notices (s : State) (i : StationId) (f : Session → Session) :
    (s.modSession i f).notices = s.notices := rfl
@[simp] theorem State.modSession_hostCondition (s : State) (i : StationId) (f : Session → Session) :
    (s.modSession i f).hostCondition = s.hostCondition := rfl
@[simp] theorem State.modSession_receiveQueue (s : State) (i : StationId) (f : Session → Session) :
    (s.modSession i f).receiveQueue = s.receiveQueue := rfl
@[simp] theorem State.modSession_linkOverrun (s : State) (i : StationId) (f : Session → Session) :
    (s.modSession i f).linkOverrun = s.linkOverrun := rfl
@[simp] theorem State.modSession_reply (s : State) (i : StationId) (f : Session → Session) :
    (s.modSession i f).reply = s.reply := rfl
@[simp] theorem State.modSession_freeCount (s : State) (i : StationId) (f : Session → Session) :
    (s.modSession i f).freeCount = s.freeCount := rfl

/-! ### setLine -/

@[simp] theorem State.setLine_pending (s : State) (i : StationId) (n : Line) (v : LineState) :
    (s.setLine i n v).pending = s.pending := rfl
@[simp] theorem State.setLine_device (s : State) (i : StationId) (n : Line) (v : LineState) :
    (s.setLine i n v).device = s.device := rfl
@[simp] theorem State.setLine_marker (s : State) (i : StationId) (n : Line) (v : LineState) :
    (s.setLine i n v).marker = s.marker := rfl
@[simp] theorem State.setLine_mainSupply (s : State) (i : StationId) (n : Line) (v : LineState) :
    (s.setLine i n v).mainSupply = s.mainSupply := rfl
@[simp] theorem State.setLine_pfail (s : State) (i : StationId) (n : Line) (v : LineState) :
    (s.setLine i n v).pfail = s.pfail := rfl
@[simp] theorem State.setLine_resetPin (s : State) (i : StationId) (n : Line) (v : LineState) :
    (s.setLine i n v).resetPin = s.resetPin := rfl
@[simp] theorem State.setLine_cameUp (s : State) (i : StationId) (n : Line) (v : LineState) :
    (s.setLine i n v).cameUp = s.cameUp := rfl
@[simp] theorem State.setLine_restart (s : State) (i : StationId) (n : Line) (v : LineState) :
    (s.setLine i n v).restart = s.restart := rfl
@[simp] theorem State.setLine_now (s : State) (i : StationId) (n : Line) (v : LineState) :
    (s.setLine i n v).now = s.now := rfl
@[simp] theorem State.setLine_divider (s : State) (i : StationId) (n : Line) (v : LineState) :
    (s.setLine i n v).divider = s.divider := rfl
@[simp] theorem State.setLine_stamp (s : State) (i : StationId) (n : Line) (v : LineState) :
    (s.setLine i n v).stamp = s.stamp := rfl
@[simp] theorem State.setLine_timeUnset (s : State) (i : StationId) (n : Line) (v : LineState) :
    (s.setLine i n v).timeUnset = s.timeUnset := rfl
@[simp] theorem State.setLine_sessionSerial (s : State) (i : StationId) (n : Line) (v : LineState) :
    (s.setLine i n v).sessionSerial = s.sessionSerial := rfl
@[simp] theorem State.setLine_authRef (s : State) (i : StationId) (n : Line) (v : LineState) :
    (s.setLine i n v).authRef = s.authRef := rfl
@[simp] theorem State.setLine_plans (s : State) (i : StationId) (n : Line) (v : LineState) :
    (s.setLine i n v).plans = s.plans := rfl
@[simp] theorem State.setLine_slots (s : State) (i : StationId) (n : Line) (v : LineState) :
    (s.setLine i n v).slots = s.slots := rfl
@[simp] theorem State.setLine_scrubPosition (s : State) (i : StationId) (n : Line) (v : LineState) :
    (s.setLine i n v).scrubPosition = s.scrubPosition := rfl
@[simp] theorem State.setLine_scrubDue (s : State) (i : StationId) (n : Line) (v : LineState) :
    (s.setLine i n v).scrubDue = s.scrubDue := rfl
@[simp] theorem State.setLine_lastCorrected (s : State) (i : StationId) (n : Line) (v : LineState) :
    (s.setLine i n v).lastCorrected = s.lastCorrected := rfl
@[simp] theorem State.setLine_lastFault (s : State) (i : StationId) (n : Line) (v : LineState) :
    (s.setLine i n v).lastFault = s.lastFault := rfl
@[simp] theorem State.setLine_period (s : State) (i : StationId) (n : Line) (v : LineState) :
    (s.setLine i n v).period = s.period := rfl
@[simp] theorem State.setLine_alarm (s : State) (i : StationId) (n : Line) (v : LineState) :
    (s.setLine i n v).alarm = s.alarm := rfl
@[simp] theorem State.setLine_journal (s : State) (i : StationId) (n : Line) (v : LineState) :
    (s.setLine i n v).journal = s.journal := rfl
@[simp] theorem State.setLine_reservations (s : State) (i : StationId) (n : Line) (v : LineState) :
    (s.setLine i n v).reservations = s.reservations := rfl
@[simp] theorem State.setLine_recordSerial (s : State) (i : StationId) (n : Line) (v : LineState) :
    (s.setLine i n v).recordSerial = s.recordSerial := rfl
@[simp] theorem State.setLine_noticeMask (s : State) (i : StationId) (n : Line) (v : LineState) :
    (s.setLine i n v).noticeMask = s.noticeMask := rfl
@[simp] theorem State.setLine_notices (s : State) (i : StationId) (n : Line) (v : LineState) :
    (s.setLine i n v).notices = s.notices := rfl
@[simp] theorem State.setLine_hostCondition (s : State) (i : StationId) (n : Line) (v : LineState) :
    (s.setLine i n v).hostCondition = s.hostCondition := rfl
@[simp] theorem State.setLine_receiveQueue (s : State) (i : StationId) (n : Line) (v : LineState) :
    (s.setLine i n v).receiveQueue = s.receiveQueue := rfl
@[simp] theorem State.setLine_linkOverrun (s : State) (i : StationId) (n : Line) (v : LineState) :
    (s.setLine i n v).linkOverrun = s.linkOverrun := rfl
@[simp] theorem State.setLine_reply (s : State) (i : StationId) (n : Line) (v : LineState) :
    (s.setLine i n v).reply = s.reply := rfl
@[simp] theorem State.setLine_freeCount (s : State) (i : StationId) (n : Line) (v : LineState) :
    (s.setLine i n v).freeCount = s.freeCount := rfl

/-! ### indicate -/

@[simp] theorem State.indicate_pending (s : State) (i : StationId) (f : Indicator) :
    (s.indicate i f).pending = s.pending := rfl
@[simp] theorem State.indicate_device (s : State) (i : StationId) (f : Indicator) :
    (s.indicate i f).device = s.device := rfl
@[simp] theorem State.indicate_marker (s : State) (i : StationId) (f : Indicator) :
    (s.indicate i f).marker = s.marker := rfl
@[simp] theorem State.indicate_mainSupply (s : State) (i : StationId) (f : Indicator) :
    (s.indicate i f).mainSupply = s.mainSupply := rfl
@[simp] theorem State.indicate_pfail (s : State) (i : StationId) (f : Indicator) :
    (s.indicate i f).pfail = s.pfail := rfl
@[simp] theorem State.indicate_resetPin (s : State) (i : StationId) (f : Indicator) :
    (s.indicate i f).resetPin = s.resetPin := rfl
@[simp] theorem State.indicate_cameUp (s : State) (i : StationId) (f : Indicator) :
    (s.indicate i f).cameUp = s.cameUp := rfl
@[simp] theorem State.indicate_restart (s : State) (i : StationId) (f : Indicator) :
    (s.indicate i f).restart = s.restart := rfl
@[simp] theorem State.indicate_now (s : State) (i : StationId) (f : Indicator) :
    (s.indicate i f).now = s.now := rfl
@[simp] theorem State.indicate_divider (s : State) (i : StationId) (f : Indicator) :
    (s.indicate i f).divider = s.divider := rfl
@[simp] theorem State.indicate_stamp (s : State) (i : StationId) (f : Indicator) :
    (s.indicate i f).stamp = s.stamp := rfl
@[simp] theorem State.indicate_timeUnset (s : State) (i : StationId) (f : Indicator) :
    (s.indicate i f).timeUnset = s.timeUnset := rfl
@[simp] theorem State.indicate_sessionSerial (s : State) (i : StationId) (f : Indicator) :
    (s.indicate i f).sessionSerial = s.sessionSerial := rfl
@[simp] theorem State.indicate_authRef (s : State) (i : StationId) (f : Indicator) :
    (s.indicate i f).authRef = s.authRef := rfl
@[simp] theorem State.indicate_plans (s : State) (i : StationId) (f : Indicator) :
    (s.indicate i f).plans = s.plans := rfl
@[simp] theorem State.indicate_slots (s : State) (i : StationId) (f : Indicator) :
    (s.indicate i f).slots = s.slots := rfl
@[simp] theorem State.indicate_scrubPosition (s : State) (i : StationId) (f : Indicator) :
    (s.indicate i f).scrubPosition = s.scrubPosition := rfl
@[simp] theorem State.indicate_scrubDue (s : State) (i : StationId) (f : Indicator) :
    (s.indicate i f).scrubDue = s.scrubDue := rfl
@[simp] theorem State.indicate_lastCorrected (s : State) (i : StationId) (f : Indicator) :
    (s.indicate i f).lastCorrected = s.lastCorrected := rfl
@[simp] theorem State.indicate_lastFault (s : State) (i : StationId) (f : Indicator) :
    (s.indicate i f).lastFault = s.lastFault := rfl
@[simp] theorem State.indicate_period (s : State) (i : StationId) (f : Indicator) :
    (s.indicate i f).period = s.period := rfl
@[simp] theorem State.indicate_alarm (s : State) (i : StationId) (f : Indicator) :
    (s.indicate i f).alarm = s.alarm := rfl
@[simp] theorem State.indicate_journal (s : State) (i : StationId) (f : Indicator) :
    (s.indicate i f).journal = s.journal := rfl
@[simp] theorem State.indicate_reservations (s : State) (i : StationId) (f : Indicator) :
    (s.indicate i f).reservations = s.reservations := rfl
@[simp] theorem State.indicate_recordSerial (s : State) (i : StationId) (f : Indicator) :
    (s.indicate i f).recordSerial = s.recordSerial := rfl
@[simp] theorem State.indicate_noticeMask (s : State) (i : StationId) (f : Indicator) :
    (s.indicate i f).noticeMask = s.noticeMask := rfl
@[simp] theorem State.indicate_notices (s : State) (i : StationId) (f : Indicator) :
    (s.indicate i f).notices = s.notices := rfl
@[simp] theorem State.indicate_hostCondition (s : State) (i : StationId) (f : Indicator) :
    (s.indicate i f).hostCondition = s.hostCondition := rfl
@[simp] theorem State.indicate_receiveQueue (s : State) (i : StationId) (f : Indicator) :
    (s.indicate i f).receiveQueue = s.receiveQueue := rfl
@[simp] theorem State.indicate_linkOverrun (s : State) (i : StationId) (f : Indicator) :
    (s.indicate i f).linkOverrun = s.linkOverrun := rfl
@[simp] theorem State.indicate_reply (s : State) (i : StationId) (f : Indicator) :
    (s.indicate i f).reply = s.reply := rfl
@[simp] theorem State.indicate_freeCount (s : State) (i : StationId) (f : Indicator) :
    (s.indicate i f).freeCount = s.freeCount := rfl

/-! ### post -/

@[simp] theorem State.post_pending (s : State) (k : NoticeKind) (n : Nat) :
    (s.post k n).pending = s.pending := rfl
@[simp] theorem State.post_device (s : State) (k : NoticeKind) (n : Nat) :
    (s.post k n).device = s.device := rfl
@[simp] theorem State.post_marker (s : State) (k : NoticeKind) (n : Nat) :
    (s.post k n).marker = s.marker := rfl
@[simp] theorem State.post_mainSupply (s : State) (k : NoticeKind) (n : Nat) :
    (s.post k n).mainSupply = s.mainSupply := rfl
@[simp] theorem State.post_pfail (s : State) (k : NoticeKind) (n : Nat) :
    (s.post k n).pfail = s.pfail := rfl
@[simp] theorem State.post_resetPin (s : State) (k : NoticeKind) (n : Nat) :
    (s.post k n).resetPin = s.resetPin := rfl
@[simp] theorem State.post_cameUp (s : State) (k : NoticeKind) (n : Nat) :
    (s.post k n).cameUp = s.cameUp := rfl
@[simp] theorem State.post_restart (s : State) (k : NoticeKind) (n : Nat) :
    (s.post k n).restart = s.restart := rfl
@[simp] theorem State.post_now (s : State) (k : NoticeKind) (n : Nat) :
    (s.post k n).now = s.now := rfl
@[simp] theorem State.post_divider (s : State) (k : NoticeKind) (n : Nat) :
    (s.post k n).divider = s.divider := rfl
@[simp] theorem State.post_stamp (s : State) (k : NoticeKind) (n : Nat) :
    (s.post k n).stamp = s.stamp := rfl
@[simp] theorem State.post_timeUnset (s : State) (k : NoticeKind) (n : Nat) :
    (s.post k n).timeUnset = s.timeUnset := rfl
@[simp] theorem State.post_stations (s : State) (k : NoticeKind) (n : Nat) :
    (s.post k n).stations = s.stations := rfl
@[simp] theorem State.post_sessionSerial (s : State) (k : NoticeKind) (n : Nat) :
    (s.post k n).sessionSerial = s.sessionSerial := rfl
@[simp] theorem State.post_authRef (s : State) (k : NoticeKind) (n : Nat) :
    (s.post k n).authRef = s.authRef := rfl
@[simp] theorem State.post_plans (s : State) (k : NoticeKind) (n : Nat) :
    (s.post k n).plans = s.plans := rfl
@[simp] theorem State.post_slots (s : State) (k : NoticeKind) (n : Nat) :
    (s.post k n).slots = s.slots := rfl
@[simp] theorem State.post_scrubPosition (s : State) (k : NoticeKind) (n : Nat) :
    (s.post k n).scrubPosition = s.scrubPosition := rfl
@[simp] theorem State.post_scrubDue (s : State) (k : NoticeKind) (n : Nat) :
    (s.post k n).scrubDue = s.scrubDue := rfl
@[simp] theorem State.post_lastCorrected (s : State) (k : NoticeKind) (n : Nat) :
    (s.post k n).lastCorrected = s.lastCorrected := rfl
@[simp] theorem State.post_lastFault (s : State) (k : NoticeKind) (n : Nat) :
    (s.post k n).lastFault = s.lastFault := rfl
@[simp] theorem State.post_period (s : State) (k : NoticeKind) (n : Nat) :
    (s.post k n).period = s.period := rfl
@[simp] theorem State.post_alarm (s : State) (k : NoticeKind) (n : Nat) :
    (s.post k n).alarm = s.alarm := rfl
@[simp] theorem State.post_journal (s : State) (k : NoticeKind) (n : Nat) :
    (s.post k n).journal = s.journal := rfl
@[simp] theorem State.post_reservations (s : State) (k : NoticeKind) (n : Nat) :
    (s.post k n).reservations = s.reservations := rfl
@[simp] theorem State.post_recordSerial (s : State) (k : NoticeKind) (n : Nat) :
    (s.post k n).recordSerial = s.recordSerial := rfl
@[simp] theorem State.post_noticeMask (s : State) (k : NoticeKind) (n : Nat) :
    (s.post k n).noticeMask = s.noticeMask := rfl
@[simp] theorem State.post_hostCondition (s : State) (k : NoticeKind) (n : Nat) :
    (s.post k n).hostCondition = s.hostCondition := rfl
@[simp] theorem State.post_receiveQueue (s : State) (k : NoticeKind) (n : Nat) :
    (s.post k n).receiveQueue = s.receiveQueue := rfl
@[simp] theorem State.post_linkOverrun (s : State) (k : NoticeKind) (n : Nat) :
    (s.post k n).linkOverrun = s.linkOverrun := rfl
@[simp] theorem State.post_reply (s : State) (k : NoticeKind) (n : Nat) :
    (s.post k n).reply = s.reply := rfl
@[simp] theorem State.post_freeCount (s : State) (k : NoticeKind) (n : Nat) :
    (s.post k n).freeCount = s.freeCount := rfl

/-! ### postAt -/

@[simp] theorem State.postAt_pending (s : State) (k : NoticeKind) (i : StationId) :
    (s.postAt k i).pending = s.pending := rfl
@[simp] theorem State.postAt_device (s : State) (k : NoticeKind) (i : StationId) :
    (s.postAt k i).device = s.device := rfl
@[simp] theorem State.postAt_marker (s : State) (k : NoticeKind) (i : StationId) :
    (s.postAt k i).marker = s.marker := rfl
@[simp] theorem State.postAt_mainSupply (s : State) (k : NoticeKind) (i : StationId) :
    (s.postAt k i).mainSupply = s.mainSupply := rfl
@[simp] theorem State.postAt_pfail (s : State) (k : NoticeKind) (i : StationId) :
    (s.postAt k i).pfail = s.pfail := rfl
@[simp] theorem State.postAt_resetPin (s : State) (k : NoticeKind) (i : StationId) :
    (s.postAt k i).resetPin = s.resetPin := rfl
@[simp] theorem State.postAt_cameUp (s : State) (k : NoticeKind) (i : StationId) :
    (s.postAt k i).cameUp = s.cameUp := rfl
@[simp] theorem State.postAt_restart (s : State) (k : NoticeKind) (i : StationId) :
    (s.postAt k i).restart = s.restart := rfl
@[simp] theorem State.postAt_now (s : State) (k : NoticeKind) (i : StationId) :
    (s.postAt k i).now = s.now := rfl
@[simp] theorem State.postAt_divider (s : State) (k : NoticeKind) (i : StationId) :
    (s.postAt k i).divider = s.divider := rfl
@[simp] theorem State.postAt_stamp (s : State) (k : NoticeKind) (i : StationId) :
    (s.postAt k i).stamp = s.stamp := rfl
@[simp] theorem State.postAt_timeUnset (s : State) (k : NoticeKind) (i : StationId) :
    (s.postAt k i).timeUnset = s.timeUnset := rfl
@[simp] theorem State.postAt_stations (s : State) (k : NoticeKind) (i : StationId) :
    (s.postAt k i).stations = s.stations := rfl
@[simp] theorem State.postAt_sessionSerial (s : State) (k : NoticeKind) (i : StationId) :
    (s.postAt k i).sessionSerial = s.sessionSerial := rfl
@[simp] theorem State.postAt_authRef (s : State) (k : NoticeKind) (i : StationId) :
    (s.postAt k i).authRef = s.authRef := rfl
@[simp] theorem State.postAt_plans (s : State) (k : NoticeKind) (i : StationId) :
    (s.postAt k i).plans = s.plans := rfl
@[simp] theorem State.postAt_slots (s : State) (k : NoticeKind) (i : StationId) :
    (s.postAt k i).slots = s.slots := rfl
@[simp] theorem State.postAt_scrubPosition (s : State) (k : NoticeKind) (i : StationId) :
    (s.postAt k i).scrubPosition = s.scrubPosition := rfl
@[simp] theorem State.postAt_scrubDue (s : State) (k : NoticeKind) (i : StationId) :
    (s.postAt k i).scrubDue = s.scrubDue := rfl
@[simp] theorem State.postAt_lastCorrected (s : State) (k : NoticeKind) (i : StationId) :
    (s.postAt k i).lastCorrected = s.lastCorrected := rfl
@[simp] theorem State.postAt_lastFault (s : State) (k : NoticeKind) (i : StationId) :
    (s.postAt k i).lastFault = s.lastFault := rfl
@[simp] theorem State.postAt_period (s : State) (k : NoticeKind) (i : StationId) :
    (s.postAt k i).period = s.period := rfl
@[simp] theorem State.postAt_alarm (s : State) (k : NoticeKind) (i : StationId) :
    (s.postAt k i).alarm = s.alarm := rfl
@[simp] theorem State.postAt_journal (s : State) (k : NoticeKind) (i : StationId) :
    (s.postAt k i).journal = s.journal := rfl
@[simp] theorem State.postAt_reservations (s : State) (k : NoticeKind) (i : StationId) :
    (s.postAt k i).reservations = s.reservations := rfl
@[simp] theorem State.postAt_recordSerial (s : State) (k : NoticeKind) (i : StationId) :
    (s.postAt k i).recordSerial = s.recordSerial := rfl
@[simp] theorem State.postAt_noticeMask (s : State) (k : NoticeKind) (i : StationId) :
    (s.postAt k i).noticeMask = s.noticeMask := rfl
@[simp] theorem State.postAt_hostCondition (s : State) (k : NoticeKind) (i : StationId) :
    (s.postAt k i).hostCondition = s.hostCondition := rfl
@[simp] theorem State.postAt_receiveQueue (s : State) (k : NoticeKind) (i : StationId) :
    (s.postAt k i).receiveQueue = s.receiveQueue := rfl
@[simp] theorem State.postAt_linkOverrun (s : State) (k : NoticeKind) (i : StationId) :
    (s.postAt k i).linkOverrun = s.linkOverrun := rfl
@[simp] theorem State.postAt_reply (s : State) (k : NoticeKind) (i : StationId) :
    (s.postAt k i).reply = s.reply := rfl
@[simp] theorem State.postAt_freeCount (s : State) (k : NoticeKind) (i : StationId) :
    (s.postAt k i).freeCount = s.freeCount := rfl

/-! ### enterState -/

@[simp] theorem State.enterState_pending (s : State) (i : StationId) (new : StationState) :
    (s.enterState i new).pending = s.pending := rfl
@[simp] theorem State.enterState_device (s : State) (i : StationId) (new : StationState) :
    (s.enterState i new).device = s.device := rfl
@[simp] theorem State.enterState_marker (s : State) (i : StationId) (new : StationState) :
    (s.enterState i new).marker = s.marker := rfl
@[simp] theorem State.enterState_mainSupply (s : State) (i : StationId) (new : StationState) :
    (s.enterState i new).mainSupply = s.mainSupply := rfl
@[simp] theorem State.enterState_pfail (s : State) (i : StationId) (new : StationState) :
    (s.enterState i new).pfail = s.pfail := rfl
@[simp] theorem State.enterState_resetPin (s : State) (i : StationId) (new : StationState) :
    (s.enterState i new).resetPin = s.resetPin := rfl
@[simp] theorem State.enterState_cameUp (s : State) (i : StationId) (new : StationState) :
    (s.enterState i new).cameUp = s.cameUp := rfl
@[simp] theorem State.enterState_restart (s : State) (i : StationId) (new : StationState) :
    (s.enterState i new).restart = s.restart := rfl
@[simp] theorem State.enterState_now (s : State) (i : StationId) (new : StationState) :
    (s.enterState i new).now = s.now := rfl
@[simp] theorem State.enterState_divider (s : State) (i : StationId) (new : StationState) :
    (s.enterState i new).divider = s.divider := rfl
@[simp] theorem State.enterState_stamp (s : State) (i : StationId) (new : StationState) :
    (s.enterState i new).stamp = s.stamp := rfl
@[simp] theorem State.enterState_timeUnset (s : State) (i : StationId) (new : StationState) :
    (s.enterState i new).timeUnset = s.timeUnset := rfl
@[simp] theorem State.enterState_sessionSerial (s : State) (i : StationId) (new : StationState) :
    (s.enterState i new).sessionSerial = s.sessionSerial := rfl
@[simp] theorem State.enterState_authRef (s : State) (i : StationId) (new : StationState) :
    (s.enterState i new).authRef = s.authRef := rfl
@[simp] theorem State.enterState_plans (s : State) (i : StationId) (new : StationState) :
    (s.enterState i new).plans = s.plans := rfl
@[simp] theorem State.enterState_slots (s : State) (i : StationId) (new : StationState) :
    (s.enterState i new).slots = s.slots := rfl
@[simp] theorem State.enterState_scrubPosition (s : State) (i : StationId) (new : StationState) :
    (s.enterState i new).scrubPosition = s.scrubPosition := rfl
@[simp] theorem State.enterState_scrubDue (s : State) (i : StationId) (new : StationState) :
    (s.enterState i new).scrubDue = s.scrubDue := rfl
@[simp] theorem State.enterState_lastCorrected (s : State) (i : StationId) (new : StationState) :
    (s.enterState i new).lastCorrected = s.lastCorrected := rfl
@[simp] theorem State.enterState_lastFault (s : State) (i : StationId) (new : StationState) :
    (s.enterState i new).lastFault = s.lastFault := rfl
@[simp] theorem State.enterState_period (s : State) (i : StationId) (new : StationState) :
    (s.enterState i new).period = s.period := rfl
@[simp] theorem State.enterState_alarm (s : State) (i : StationId) (new : StationState) :
    (s.enterState i new).alarm = s.alarm := rfl
@[simp] theorem State.enterState_journal (s : State) (i : StationId) (new : StationState) :
    (s.enterState i new).journal = s.journal := rfl
@[simp] theorem State.enterState_reservations (s : State) (i : StationId) (new : StationState) :
    (s.enterState i new).reservations = s.reservations := rfl
@[simp] theorem State.enterState_recordSerial (s : State) (i : StationId) (new : StationState) :
    (s.enterState i new).recordSerial = s.recordSerial := rfl
@[simp] theorem State.enterState_noticeMask (s : State) (i : StationId) (new : StationState) :
    (s.enterState i new).noticeMask = s.noticeMask := rfl
@[simp] theorem State.enterState_hostCondition (s : State) (i : StationId) (new : StationState) :
    (s.enterState i new).hostCondition = s.hostCondition := rfl
@[simp] theorem State.enterState_receiveQueue (s : State) (i : StationId) (new : StationState) :
    (s.enterState i new).receiveQueue = s.receiveQueue := rfl
@[simp] theorem State.enterState_linkOverrun (s : State) (i : StationId) (new : StationState) :
    (s.enterState i new).linkOverrun = s.linkOverrun := rfl
@[simp] theorem State.enterState_reply (s : State) (i : StationId) (new : StationState) :
    (s.enterState i new).reply = s.reply := rfl
@[simp] theorem State.enterState_freeCount (s : State) (i : StationId) (new : StationState) :
    (s.enterState i new).freeCount = s.freeCount := rfl

/-! ### reach -/

@[simp] theorem State.reach_pending (s : State) (t : Nat) :
    (s.reach t).pending = s.pending := rfl
@[simp] theorem State.reach_device (s : State) (t : Nat) :
    (s.reach t).device = s.device := rfl
@[simp] theorem State.reach_marker (s : State) (t : Nat) :
    (s.reach t).marker = s.marker := rfl
@[simp] theorem State.reach_mainSupply (s : State) (t : Nat) :
    (s.reach t).mainSupply = s.mainSupply := rfl
@[simp] theorem State.reach_pfail (s : State) (t : Nat) :
    (s.reach t).pfail = s.pfail := rfl
@[simp] theorem State.reach_resetPin (s : State) (t : Nat) :
    (s.reach t).resetPin = s.resetPin := rfl
@[simp] theorem State.reach_cameUp (s : State) (t : Nat) :
    (s.reach t).cameUp = s.cameUp := rfl
@[simp] theorem State.reach_restart (s : State) (t : Nat) :
    (s.reach t).restart = s.restart := rfl
@[simp] theorem State.reach_divider (s : State) (t : Nat) :
    (s.reach t).divider = s.divider := rfl
@[simp] theorem State.reach_stamp (s : State) (t : Nat) :
    (s.reach t).stamp = s.stamp := rfl
@[simp] theorem State.reach_timeUnset (s : State) (t : Nat) :
    (s.reach t).timeUnset = s.timeUnset := rfl
@[simp] theorem State.reach_stations (s : State) (t : Nat) :
    (s.reach t).stations = s.stations := rfl
@[simp] theorem State.reach_sessionSerial (s : State) (t : Nat) :
    (s.reach t).sessionSerial = s.sessionSerial := rfl
@[simp] theorem State.reach_authRef (s : State) (t : Nat) :
    (s.reach t).authRef = s.authRef := rfl
@[simp] theorem State.reach_plans (s : State) (t : Nat) :
    (s.reach t).plans = s.plans := rfl
@[simp] theorem State.reach_slots (s : State) (t : Nat) :
    (s.reach t).slots = s.slots := rfl
@[simp] theorem State.reach_scrubPosition (s : State) (t : Nat) :
    (s.reach t).scrubPosition = s.scrubPosition := rfl
@[simp] theorem State.reach_scrubDue (s : State) (t : Nat) :
    (s.reach t).scrubDue = s.scrubDue := rfl
@[simp] theorem State.reach_lastCorrected (s : State) (t : Nat) :
    (s.reach t).lastCorrected = s.lastCorrected := rfl
@[simp] theorem State.reach_lastFault (s : State) (t : Nat) :
    (s.reach t).lastFault = s.lastFault := rfl
@[simp] theorem State.reach_period (s : State) (t : Nat) :
    (s.reach t).period = s.period := rfl
@[simp] theorem State.reach_alarm (s : State) (t : Nat) :
    (s.reach t).alarm = s.alarm := rfl
@[simp] theorem State.reach_journal (s : State) (t : Nat) :
    (s.reach t).journal = s.journal := rfl
@[simp] theorem State.reach_reservations (s : State) (t : Nat) :
    (s.reach t).reservations = s.reservations := rfl
@[simp] theorem State.reach_recordSerial (s : State) (t : Nat) :
    (s.reach t).recordSerial = s.recordSerial := rfl
@[simp] theorem State.reach_noticeMask (s : State) (t : Nat) :
    (s.reach t).noticeMask = s.noticeMask := rfl
@[simp] theorem State.reach_notices (s : State) (t : Nat) :
    (s.reach t).notices = s.notices := rfl
@[simp] theorem State.reach_hostCondition (s : State) (t : Nat) :
    (s.reach t).hostCondition = s.hostCondition := rfl
@[simp] theorem State.reach_receiveQueue (s : State) (t : Nat) :
    (s.reach t).receiveQueue = s.receiveQueue := rfl
@[simp] theorem State.reach_linkOverrun (s : State) (t : Nat) :
    (s.reach t).linkOverrun = s.linkOverrun := rfl
@[simp] theorem State.reach_reply (s : State) (t : Nat) :
    (s.reach t).reply = s.reply := rfl
@[simp] theorem State.reach_freeCount (s : State) (t : Nat) :
    (s.reach t).freeCount = s.freeCount := rfl

/-! ### sendReply -/

@[simp] theorem State.sendReply_pending (s : State) (k : Byte) (a : Answer) (b : Bool) :
    (s.sendReply k a b).pending = s.pending := rfl
@[simp] theorem State.sendReply_device (s : State) (k : Byte) (a : Answer) (b : Bool) :
    (s.sendReply k a b).device = s.device := rfl
@[simp] theorem State.sendReply_marker (s : State) (k : Byte) (a : Answer) (b : Bool) :
    (s.sendReply k a b).marker = s.marker := rfl
@[simp] theorem State.sendReply_mainSupply (s : State) (k : Byte) (a : Answer) (b : Bool) :
    (s.sendReply k a b).mainSupply = s.mainSupply := rfl
@[simp] theorem State.sendReply_pfail (s : State) (k : Byte) (a : Answer) (b : Bool) :
    (s.sendReply k a b).pfail = s.pfail := rfl
@[simp] theorem State.sendReply_resetPin (s : State) (k : Byte) (a : Answer) (b : Bool) :
    (s.sendReply k a b).resetPin = s.resetPin := rfl
@[simp] theorem State.sendReply_cameUp (s : State) (k : Byte) (a : Answer) (b : Bool) :
    (s.sendReply k a b).cameUp = s.cameUp := rfl
@[simp] theorem State.sendReply_restart (s : State) (k : Byte) (a : Answer) (b : Bool) :
    (s.sendReply k a b).restart = s.restart := rfl
@[simp] theorem State.sendReply_now (s : State) (k : Byte) (a : Answer) (b : Bool) :
    (s.sendReply k a b).now = s.now := rfl
@[simp] theorem State.sendReply_divider (s : State) (k : Byte) (a : Answer) (b : Bool) :
    (s.sendReply k a b).divider = s.divider := rfl
@[simp] theorem State.sendReply_stamp (s : State) (k : Byte) (a : Answer) (b : Bool) :
    (s.sendReply k a b).stamp = s.stamp := rfl
@[simp] theorem State.sendReply_timeUnset (s : State) (k : Byte) (a : Answer) (b : Bool) :
    (s.sendReply k a b).timeUnset = s.timeUnset := rfl
@[simp] theorem State.sendReply_stations (s : State) (k : Byte) (a : Answer) (b : Bool) :
    (s.sendReply k a b).stations = s.stations := rfl
@[simp] theorem State.sendReply_sessionSerial (s : State) (k : Byte) (a : Answer) (b : Bool) :
    (s.sendReply k a b).sessionSerial = s.sessionSerial := rfl
@[simp] theorem State.sendReply_authRef (s : State) (k : Byte) (a : Answer) (b : Bool) :
    (s.sendReply k a b).authRef = s.authRef := rfl
@[simp] theorem State.sendReply_plans (s : State) (k : Byte) (a : Answer) (b : Bool) :
    (s.sendReply k a b).plans = s.plans := rfl
@[simp] theorem State.sendReply_slots (s : State) (k : Byte) (a : Answer) (b : Bool) :
    (s.sendReply k a b).slots = s.slots := rfl
@[simp] theorem State.sendReply_scrubPosition (s : State) (k : Byte) (a : Answer) (b : Bool) :
    (s.sendReply k a b).scrubPosition = s.scrubPosition := rfl
@[simp] theorem State.sendReply_scrubDue (s : State) (k : Byte) (a : Answer) (b : Bool) :
    (s.sendReply k a b).scrubDue = s.scrubDue := rfl
@[simp] theorem State.sendReply_lastCorrected (s : State) (k : Byte) (a : Answer) (b : Bool) :
    (s.sendReply k a b).lastCorrected = s.lastCorrected := rfl
@[simp] theorem State.sendReply_lastFault (s : State) (k : Byte) (a : Answer) (b : Bool) :
    (s.sendReply k a b).lastFault = s.lastFault := rfl
@[simp] theorem State.sendReply_period (s : State) (k : Byte) (a : Answer) (b : Bool) :
    (s.sendReply k a b).period = s.period := rfl
@[simp] theorem State.sendReply_alarm (s : State) (k : Byte) (a : Answer) (b : Bool) :
    (s.sendReply k a b).alarm = s.alarm := rfl
@[simp] theorem State.sendReply_journal (s : State) (k : Byte) (a : Answer) (b : Bool) :
    (s.sendReply k a b).journal = s.journal := rfl
@[simp] theorem State.sendReply_reservations (s : State) (k : Byte) (a : Answer) (b : Bool) :
    (s.sendReply k a b).reservations = s.reservations := rfl
@[simp] theorem State.sendReply_recordSerial (s : State) (k : Byte) (a : Answer) (b : Bool) :
    (s.sendReply k a b).recordSerial = s.recordSerial := rfl
@[simp] theorem State.sendReply_noticeMask (s : State) (k : Byte) (a : Answer) (b : Bool) :
    (s.sendReply k a b).noticeMask = s.noticeMask := rfl
@[simp] theorem State.sendReply_notices (s : State) (k : Byte) (a : Answer) (b : Bool) :
    (s.sendReply k a b).notices = s.notices := rfl
@[simp] theorem State.sendReply_hostCondition (s : State) (k : Byte) (a : Answer) (b : Bool) :
    (s.sendReply k a b).hostCondition = s.hostCondition := rfl
@[simp] theorem State.sendReply_receiveQueue (s : State) (k : Byte) (a : Answer) (b : Bool) :
    (s.sendReply k a b).receiveQueue = s.receiveQueue := rfl
@[simp] theorem State.sendReply_linkOverrun (s : State) (k : Byte) (a : Answer) (b : Bool) :
    (s.sendReply k a b).linkOverrun = s.linkOverrun := rfl
@[simp] theorem State.sendReply_freeCount (s : State) (k : Byte) (a : Answer) (b : Bool) :
    (s.sendReply k a b).freeCount = s.freeCount := rfl

/-! ### Stations after an update -/

theorem State.station_setStation (s : State) (i j : StationId) (st : Station) :
    (s.setStation i st).station j = if j = i then st else s.station j := by
  simp only [State.station, State.setStation, Vector.getElem_set, Fin.ext_iff]
  split <;> split <;> first | rfl | omega

@[simp] theorem State.station_setStation_self (s : State) (i : StationId) (st : Station) :
    (s.setStation i st).station i = st := by simp [State.station_setStation]

@[simp] theorem State.station_setStation_of_ne (s : State) {i j : StationId} (h : j ≠ i) (st : Station) :
    (s.setStation i st).station j = s.station j := by simp [State.station_setStation, h]

@[simp] theorem State.station_modStation_self (s : State) (i : StationId) (f : Station → Station) :
    (s.modStation i f).station i = f (s.station i) := by simp [State.modStation]

@[simp] theorem State.station_modStation_of_ne (s : State) {i j : StationId} (h : j ≠ i)
    (f : Station → Station) : (s.modStation i f).station j = s.station j := by simp [State.modStation, h]

@[simp] theorem State.station_setSession_self (s : State) (i : StationId) (x : Option Session) :
    (s.setSession i x).station i = { s.station i with session := x } := by simp [State.setSession]

@[simp] theorem State.station_setSession_of_ne (s : State) {i j : StationId} (h : j ≠ i)
    (x : Option Session) : (s.setSession i x).station j = s.station j := by simp [State.setSession, h]

@[simp] theorem State.station_modSession_self (s : State) (i : StationId) (f : Session → Session) :
    (s.modSession i f).station i = { s.station i with session := (s.station i).session.map f } := by
  simp [State.modSession]

@[simp] theorem State.station_modSession_of_ne (s : State) {i j : StationId} (h : j ≠ i)
    (f : Session → Session) : (s.modSession i f).station j = s.station j := by simp [State.modSession, h]

@[simp] theorem State.station_indicate_self (s : State) (i : StationId) (f : Indicator) :
    (s.indicate i f).station i = { s.station i with reader := (s.station i).reader.produce f } := by
  simp [State.indicate]

@[simp] theorem State.station_indicate_of_ne (s : State) {i j : StationId} (h : j ≠ i) (f : Indicator) :
    (s.indicate i f).station j = s.station j := by simp [State.indicate, h]

@[simp] theorem State.station_post (s : State) (k : NoticeKind) (n : Nat) (j : StationId) :
    (s.post k n).station j = s.station j := rfl

@[simp] theorem State.station_postAt (s : State) (k : NoticeKind) (i j : StationId) :
    (s.postAt k i).station j = s.station j := rfl

@[simp] theorem State.station_enterState_self (s : State) (i : StationId) (new : StationState) :
    (s.enterState i new).station i = { s.station i with state := new } := by simp [State.enterState]

@[simp] theorem State.station_enterState_of_ne (s : State) {i j : StationId} (h : j ≠ i)
    (new : StationState) : (s.enterState i new).station j = s.station j := by simp [State.enterState, h]

@[simp] theorem State.station_setLine_self (s : State) (i : StationId) (n : Line) (v : LineState) :
    (s.setLine i n v).station i = { s.station i with lines := (s.station i).lines.set n v } := by
  simp [State.setLine]

@[simp] theorem State.station_setLine_of_ne (s : State) {i j : StationId} (h : j ≠ i) (n : Line)
    (v : LineState) : (s.setLine i n v).station j = s.station j := by simp [State.setLine, h]

@[simp] theorem State.station_reach (s : State) (t : Nat) (j : StationId) :
    (s.reach t).station j = s.station j := rfl

@[simp] theorem State.station_sendReply (s : State) (k : Byte) (a : Answer) (b : Bool) (j : StationId) :
    (s.sendReply k a b).station j = s.station j := rfl

/-! ### Lines -/

@[simp] theorem Lines.get_set_self (l : Lines) (n : Line) (v : LineState) : (l.set n v).get n = v := by
  cases n <;> rfl

@[simp] theorem Lines.get_set_of_ne (l : Lines) {m n : Line} (h : m ≠ n) (v : LineState) :
    (l.set n v).get m = l.get m := by cases m <;> cases n <;> first | rfl | exact absurd rfl h

/-! ### Every station -/

/-- Changing every station changes each by the same function. -/
theorem State.station_modStations (s : State) (f : Station → Station) (j : StationId) :
    (s.modStations f).station j = f (s.station j) := by
  simp only [State.modStations, allStations, List.foldl]
  fin_cases j <;> simp [State.modStation]

/-- Changes of stations in turn change the stations alone. -/
theorem State.foldl_modStation (f : Station → Station) (l : List StationId) (s : State) :
    l.foldl (fun acc i => acc.modStation i f) s =
      { s with stations := (l.foldl (fun acc i => acc.modStation i f) s).stations } := by
  induction l generalizing s with
  | nil => rfl
  | cons a l ih => rw [List.foldl_cons, ih]; rfl

/-- A change of every station is the map of that change over the stations. -/
theorem State.modStations_eq (s : State) (f : Station → Station) :
    s.modStations f = { s with stations := s.stations.map f } := by
  rw [show s.modStations f = { s with stations := (s.modStations f).stations } from State.foldl_modStation f _ s]
  congr 1
  ext1 j hj
  have := State.station_modStations s f ⟨j, hj⟩
  simpa [State.station] using this

end Sys2Proof.Machine
end

