-- ==== Sys2Proof/Laws/Frames.lean ====
section
/-! SUPPORT. What an event at one station leaves alone: the other stations, and everything of the part but the
notices, the account table, the journal and the counters that sessions take from. -/

namespace Sys2Proof.Machine

/-- `t` is what an event at station `i` may make of `s`. -/
structure State.Local (i : StationId) (s t : State) : Prop where
  others : ∀ j, j ≠ i → t.station j = s.station j
  rest : t = { s with
    stations := t.stations
    now := t.now
    sessionSerial := t.sessionSerial
    authRef := t.authRef
    slots := t.slots
    lastCorrected := t.lastCorrected
    lastFault := t.lastFault
    journal := t.journal
    reservations := t.reservations
    recordSerial := t.recordSerial
    notices := t.notices }

namespace State.Local

variable {i : StationId} {s t u : State}

theorem refl (i : StationId) (s : State) : State.Local i s s := ⟨fun _ _ => rfl, rfl⟩

theorem trans (h : State.Local i s t) (k : State.Local i t u) : State.Local i s u :=
  ⟨fun j hj => (k.others j hj).trans (h.others j hj), by rw [k.rest, h.rest]⟩

theorem pending (h : State.Local i s t) : t.pending = s.pending := by rw [h.rest]
theorem device (h : State.Local i s t) : t.device = s.device := by rw [h.rest]
theorem restart (h : State.Local i s t) : t.restart = s.restart := by rw [h.rest]
theorem receiveQueue (h : State.Local i s t) : t.receiveQueue = s.receiveQueue := by rw [h.rest]
theorem reply (h : State.Local i s t) : t.reply = s.reply := by rw [h.rest]
theorem plans (h : State.Local i s t) : t.plans = s.plans := by rw [h.rest]
theorem period (h : State.Local i s t) : t.period = s.period := by rw [h.rest]
theorem stamp (h : State.Local i s t) : t.stamp = s.stamp := by rw [h.rest]
theorem noticeMask (h : State.Local i s t) : t.noticeMask = s.noticeMask := by rw [h.rest]
theorem alive (h : State.Local i s t) : t.alive = s.alive := by
  rw [h.rest]; rfl
theorem running (h : State.Local i s t) : t.running = s.running := by
  rw [h.rest]; rfl

/-! ### The operations of one station -/

theorem modStation (f : Station → Station) : State.Local i s (s.modStation i f) :=
  ⟨fun _ hj => s.station_modStation_of_ne hj f, rfl⟩

theorem setSession (x : Option Session) : State.Local i s (s.setSession i x) := modStation _

theorem modSession (f : Session → Session) : State.Local i s (s.modSession i f) := modStation _

theorem indicate (f : Indicator) : State.Local i s (s.indicate i f) := modStation _

theorem setLine (n : Line) (v : LineState) : State.Local i s (s.setLine i n v) := modStation _

theorem setReader (c : ReaderCondition) : State.Local i s (s.setReader i c) := modStation _

theorem reloadBoth : State.Local i s (s.reloadBoth i) := modStation _

theorem post (k : NoticeKind) (n : Nat) : State.Local i s (s.post k n) := ⟨fun _ _ => rfl, rfl⟩

theorem postAt (k : NoticeKind) (j : StationId) : State.Local i s (s.postAt k j) := post _ _

theorem reach (n : Nat) : State.Local i s (s.reach n) := ⟨fun _ _ => rfl, rfl⟩

theorem refuse (r : RefuseReason) (c : CardClass) : State.Local i s (s.refuse i r c) :=
  (modStation _).trans ((indicate _).trans (postAt _ _))

theorem enterState (n : StationState) : State.Local i s (s.enterState i n) :=
  (modStation _).trans (postAt _ _)

theorem enterOffline : State.Local i s (s.enterOffline i) := (modStation _).trans (enterState _)

theorem activity (t : TimerId) : State.Local i s (s.activity i t) := by
  unfold State.activity
  split
  · exact refl _ _
  · dsimp only
    have h : State.Local i s (if (s.station i).state = .save then s.enterState i .ready else s) := by
      split
      · exact enterState _
      · exact refl _ _
    split
    · exact h
    · exact h.trans (modStation _)

/-! ### Accounts and the journal -/

theorem testedRead (n : Nat) : State.Local i s (s.testedRead n).1 := by
  rcases s.testedRead_cases n with ⟨_, h⟩ | ⟨x, _, ⟨_, h⟩ | ⟨_, _, h⟩ | ⟨_, _, h⟩ | ⟨_, _, h⟩⟩ <;>
    rw [h] <;> exact ⟨fun _ _ => rfl, rfl⟩

theorem writeAccount (n : Nat) (a : Account) : State.Local i s (s.writeAccount n a) := by
  unfold State.writeAccount
  split
  · exact refl _ _
  · exact ⟨fun _ _ => rfl, rfl⟩

theorem accountStep (x : Session) (c : Nat) : State.Local i s (s.accountStep x c).1 := by
  unfold State.accountStep
  split
  · rename_i n _
    have h := testedRead (i := i) (s := s) n
    split
    · rename_i heq
      rw [heq] at h
      exact h.trans (writeAccount _ _)
    · rename_i heq
      rw [heq] at h
      exact h
  · exact refl _ _

theorem journalLowFrom (b : State) : State.Local i s (s.journalLowFrom b) := by
  unfold State.journalLowFrom
  split
  · exact post _ _
  · exact refl _ _

theorem reserve : State.Local i s s.reserve :=
  State.Local.trans (t := { s with reservations := s.reservations + 1 }) ⟨fun _ _ => rfl, rfl⟩
    (journalLowFrom s)

theorem unreserve : State.Local i s s.unreserve := ⟨fun _ _ => rfl, rfl⟩

theorem writeSettle (r : Nat → SettleRecord) : State.Local i s (s.writeSettle r) := ⟨fun _ _ => rfl, rfl⟩

/-! ### Sessions -/

theorem enterHolding (x : Session) : State.Local i s (s.enterHolding i x) :=
  (modStation _).trans ((postAt _ _).trans (indicate _))

theorem liftPause (x : Session) (b : Bool) : State.Local i s (s.liftPause i x b) := by
  unfold State.liftPause
  dsimp only
  split
  · exact modStation _
  · exact (modStation _).trans (indicate _)

theorem evaluatePause (b : Bool) : State.Local i s (s.evaluatePause i b) := by
  unfold State.evaluatePause
  split
  · exact refl _ _
  · split
    · split
      · split
        · exact enterHolding _
        · split
          · exact indicate _
          · exact refl _ _
      · split
        · exact refl _ _
        · exact liftPause _ _
    · exact refl _ _

theorem createSession (p : Payment) (h r : Nat) (ph : Phase) :
    State.Local i s (s.createSession i p h r ph) := by
  unfold State.createSession
  exact State.Local.trans (t := { s with sessionSerial := wrapInc Config.wrap32 s.sessionSerial })
    ⟨fun _ _ => rfl, rfl⟩ (reserve.trans ((setSession _).trans reloadBoth))

theorem endWithoutRecord : State.Local i s (s.endWithoutRecord i) := unreserve.trans (modStation _)

theorem settle (x : Session) (r : CloseReason) : State.Local i s (s.settle i x r) := by
  unfold State.settle
  exact (accountStep _ _).trans ((writeSettle _).trans ((indicate _).trans ((postAt _ _).trans
    (setSession _))))

theorem settleInService (x : Session) (r : CloseReason) : State.Local i s (s.settleInService i x r) := by
  unfold State.settleInService
  dsimp only
  split
  · exact (settle _ _).trans enterOffline
  · exact (settle _ _).trans reloadBoth

theorem closeRequest (r : CloseReason) : State.Local i s (s.closeRequest i r) := by
  unfold State.closeRequest
  split
  · exact refl _ _
  · split
    · dsimp only
      split
      · exact (modStation _).trans (settleInService _ _)
      · exact modStation _
    · exact refl _ _

theorem quietTest : State.Local i s (s.quietTest i) := by
  unfold State.quietTest
  dsimp only
  split
  · split
    · exact enterState _
    · split
      · exact closeRequest _
      · exact refl _ _
  · exact refl _ _

theorem endEvent (b : StationState) : State.Local i s (s.endEvent i b) := by
  unfold State.endEvent
  split
  · exact quietTest
  · exact refl _ _

theorem emptyPathReport : State.Local i s (s.emptyPathReport i) := by
  unfold State.emptyPathReport
  dsimp only
  split
  · exact quietTest
  · split
    · exact quietTest
    · split
      · exact quietTest.trans (settleInService _ _)
      · exact quietTest

/-! ### Jams -/

theorem openJam (c : JamCause) : State.Local i s (s.openJam i c) := modStation _

theorem handOver : State.Local i s (s.handOver i) := by
  unfold State.handOver
  dsimp only
  split
  · exact modStation _
  · exact (modStation _).trans (evaluatePause _)

theorem endRecover : State.Local i s (s.endRecover i) :=
  (modStation _).trans ((enterState _).trans reloadBoth)

theorem enterRecover : State.Local i s (s.enterRecover i) := by
  unfold State.enterRecover
  dsimp only
  split
  · exact (enterState _).trans ((modStation _).trans endRecover)
  · exact (enterState _).trans (modStation _)

theorem exitTest : State.Local i s (s.exitTest i) := by
  unfold State.exitTest
  dsimp only
  split
  · exact enterRecover
  · exact refl _ _

theorem reportIfEmptied (b : List Sheet) : State.Local i s (s.reportIfEmptied i b) := by
  unfold State.reportIfEmptied
  split
  · exact refl _ _
  · exact emptyPathReport

theorem declareJam (c : JamCause) : State.Local i s (s.declareJam i c) := by
  have hnew : State.Local i s (s.declareNew i c) :=
    (openJam _).trans (handOver.trans ((enterState _).trans (exitTest.trans (reportIfEmptied _))))
  have hfold : State.Local i s (s.foldJam i) :=
    handOver.trans ((modStation _).trans ((enterState _).trans (exitTest.trans (reportIfEmptied _))))
  have hoff : State.Local i s (s.offlineJam i c) :=
    (openJam _).trans (handOver.trans ((modStation _).trans ((postAt _ _).trans (reportIfEmptied _))))
  unfold State.declareJam
  split
  · exact hoff
  · exact hfold
  · exact hfold
  · exact hnew
  · exact hnew
  · exact hnew

theorem startStation : State.Local i s (s.startStation i) := by
  unfold State.startStation
  dsimp only
  split
  · exact (enterState _).trans (reloadBoth.trans ((declareJam _).trans (endEvent _)))
  · exact (enterState _).trans (reloadBoth.trans (endEvent _))

/-! ### Sheets -/

theorem joinPath (n : Nat) (k : Kind) (c : Coverage) (x : Option Nat) :
    State.Local i s (s.joinPath i n k c x) := modStation _

theorem coverSheet (n : Nat) (k : Kind) : State.Local i s (s.coverSheet i n k) := by
  unfold State.coverSheet
  split
  · exact joinPath _ _ _ _
  · dsimp only
    split
    · split
      · exact (joinPath _ _ _ _).trans ((setSession _).trans (evaluatePause _))
      · exact (joinPath _ _ _ _).trans (setSession _)
    · exact (joinPath _ _ _ _).trans (setSession _)

theorem feedSheet : State.Local i s (s.feedSheet i) := by
  unfold State.feedSheet
  dsimp only
  split
  · exact (modStation _).trans (coverSheet _ _)
  · exact (modStation _).trans ((coverSheet _ _).trans (declareJam _))

theorem reportDelivery (e : Sheet) : State.Local i s (s.reportDelivery i e) := by
  unfold State.reportDelivery
  split
  · exact refl _ _
  · split
    · exact (setSession _).trans (evaluatePause _)
    · exact refl _ _

theorem popSheet (e : Sheet) (r : List Sheet) : State.Local i s (s.popSheet i e r) := by
  unfold State.popSheet
  dsimp only
  split
  · exact (modStation _).trans ((reportDelivery _).trans emptyPathReport)
  · split
    · exact (modStation _).trans ((reportDelivery _).trans (declareJam _))
    · exact (modStation _).trans (reportDelivery _)

theorem strayDelivery : State.Local i s (s.strayDelivery i) := by
  unfold State.strayDelivery
  dsimp only
  split
  · split
    · exact (modStation _).trans endRecover
    · exact modStation _
  · exact modStation _

theorem deliverSheet : State.Local i s (s.deliverSheet i) := by
  unfold State.deliverSheet
  split
  · exact popSheet _ _
  · exact strayDelivery

/-! ### Line events and expiries -/

theorem readyFell : State.Local i s (s.readyFell i) := by
  unfold State.readyFell
  dsimp only
  split
  · exact refl _ _
  · exact refl _ _
  · exact refl _ _
  · exact enterState _
  · split
    · exact enterState _
    · exact declareJam _
  · split
    · exact (modStation _).trans (enterState _)
    · exact declareJam _

theorem readyRose : State.Local i s (s.readyRose i) := by
  unfold State.readyRose
  dsimp only
  split
  · exact (activity _).trans (enterState _)
  · exact (activity _).trans exitTest

theorem jamRose : State.Local i s (s.jamRose i) := by
  unfold State.jamRose
  split
  · exact refl _ _
  · exact declareJam _

theorem stoppedRose : State.Local i s (s.stoppedRose i) := by
  unfold State.stoppedRose
  split
  · exact refl _ _
  · split
    · exact modStation _
    · exact refl _ _

theorem lineEvent (n : Line) (l : Bool) : State.Local i s (s.lineEvent i n l) := by
  unfold State.lineEvent
  split
  · exact (activity _).trans feedSheet
  · exact (activity _).trans deliverSheet
  · exact jamRose
  · exact exitTest
  · exact readyRose
  · exact readyFell
  · exact stoppedRose
  · exact refl _ _

theorem recognize (n : Line) (l : Bool) : State.Local i s (s.recognize i n l) := by
  unfold State.recognize
  dsimp only
  split
  · exact refl _ _
  · have h : ∀ k m v, State.Local i s (((s.reach k).setLine i m v)) :=
      fun _ _ _ => (reach _).trans (setLine _ _)
    split
    · exact h _ _ _
    · exact (h _ _ _).trans ((lineEvent _ _).trans (endEvent _))

theorem rawChange (n : Line) (l : Bool) : State.Local i s (s.rawChange i n l) := setLine _ _

theorem transitExpires : State.Local i s (s.transitExpires i) := by
  unfold State.transitExpires
  split
  · exact refl _ _
  · split
    · exact (reach _).trans ((declareJam _).trans (endEvent _))
    · exact refl _ _

theorem idleExpires (t : TimerId) : State.Local i s (s.idleExpires i t) := by
  unfold State.idleExpires
  split
  · split
    · exact (reach _).trans ((modStation _).trans quietTest)
    · exact refl _ _
  · exact refl _ _

theorem authExpires : State.Local i s (s.authExpires i) := by
  unfold State.authExpires
  split
  · split
    · exact (reach _).trans (endWithoutRecord.trans ((refuse _ _).trans reloadBoth))
    · exact refl _ _
  · exact refl _ _

theorem pauseAckExpires : State.Local i s (s.pauseAckExpires i) := by
  unfold State.pauseAckExpires
  split
  · split
    · exact (reach _).trans (modStation _)
    · exact refl _ _
  · exact refl _ _

theorem purgeExpires : State.Local i s (s.purgeExpires i) := by
  unfold State.purgeExpires
  split
  · exact refl _ _
  · split
    · exact (reach _).trans (endRecover.trans (endEvent _))
    · exact refl _ _

/-! ### Readers -/

theorem admitCampus (n : Nat) : State.Local i s (s.admitCampus i n) := by
  unfold State.admitCampus
  split
  · exact refuse _ _
  · rename_i k _
    have h := testedRead (i := i) (s := s) k
    split
    · rename_i heq
      rw [heq] at h
      dsimp only
      split
      · exact h.trans (refuse _ _)
      · split
        · exact h.trans (refuse _ _)
        · exact h.trans ((writeAccount _ _).trans ((createSession _ _ _ _).trans ((indicate _).trans
            (evaluatePause _))))
    · rename_i heq
      rw [heq] at h
      exact h.trans (refuse _ _)

theorem admitBank (t : BitVec 128) : State.Local i s (s.admitBank i t) := by
  unfold State.admitBank
  exact State.Local.trans (t := { s with authRef := nextAuthRef s.authRefs 8 s.authRef })
    ⟨fun _ _ => rfl, rfl⟩ ((createSession _ _ _ _).trans ((modStation _).trans ((postAt _ _).trans
      (indicate _))))

theorem admitCard (c : Card) : State.Local i s (s.admitCard i c) := by
  unfold State.admitCard
  split
  · exact refuse _ _
  · split
    · exact refuse _ _
    · split
      · exact admitCampus _
      · exact admitBank _

theorem extendSession (n : Nat) : State.Local i s (s.extendSession i n) := by
  unfold State.extendSession
  have h := testedRead (i := i) (s := s) n
  split
  · rename_i heq
    rw [heq] at h
    dsimp only
    split
    · exact h.trans (refuse _ _)
    · split
      · exact h.trans (refuse _ _)
      · split
        · exact h.trans ((writeAccount _ _).trans ((modSession _).trans ((indicate _).trans
            (evaluatePause _))))
        · exact h.trans ((writeAccount _ _).trans ((modSession _).trans (evaluatePause _)))
  · rename_i heq
    rw [heq] at h
    exact h.trans (refuse _ _)

theorem takeCard (c : Card) : State.Local i s (s.takeCard i c) := by
  unfold State.takeCard
  split
  · exact admitCard _
  · split
    · split
      · exact extendSession _
      · exact refuse _ _
    · exact refuse _ _

theorem takeEnd : State.Local i s (s.takeEnd i) := by
  unfold State.takeEnd
  split
  · exact refuse _ _
  · split
    · exact closeRequest _
    · split
      · exact endWithoutRecord.trans ((indicate _).trans reloadBoth)
      · exact refuse _ _

theorem readerFrame (c : ReaderCondition) {f g : State → State} (hf : ∀ s, State.Local i s (f s))
    (hg : ∀ s, State.Local i s (g s)) : State.Local i s (s.readerFrame i c f g) := by
  unfold State.readerFrame
  dsimp only
  split
  · split
    · exact (setReader _).trans ((activity _).trans ((hf _).trans (endEvent _)))
    · exact (setReader _).trans (hg _)
  · exact refl _ _

theorem discardFrame (c : ReaderCondition) : State.Local i s (s.discardFrame i c) :=
  readerFrame c (fun _ => refuse _ _) fun _ => refuse _ _

theorem cardArrives (c : Card) : State.Local i s (s.cardArrives i c) := by
  unfold State.cardArrives
  split
  · split
    · exact readerFrame _ (fun _ => takeCard c) fun _ => refuse _ _
    · exact discardFrame _
  · exact refl _ _

theorem endArrives : State.Local i s (s.endArrives i) := by
  unfold State.endArrives
  split
  · exact readerFrame _ (fun _ => takeEnd) fun _ => refuse _ _
  · exact refl _ _

theorem malformedArrives : State.Local i s (s.malformedArrives i) := by
  unfold State.malformedArrives
  split
  · exact discardFrame _
  · exact refl _ _

theorem readerGap : State.Local i s (s.readerGap i) := by
  unfold State.readerGap
  split
  · exact discardFrame _
  · exact refl _ _

theorem readerStart : State.Local i s (s.readerStart i) := by
  unfold State.readerStart
  split
  · exact setReader _
  · exact refl _ _

theorem readerIdle : State.Local i s (s.readerIdle i) := by
  unfold State.readerIdle
  split
  · exact setReader _
  · exact refl _ _

theorem indicatorSent : State.Local i s (s.indicatorSent i) := by
  unfold State.indicatorSent
  split
  · exact modStation _
  · exact refl _ _

end State.Local

end Sys2Proof.Machine
end

