-- ==== Sys2Proof/Laws/HostLine.lean ====
section
/-! SUPPORT. What a request can do: what its owning block may change (R164, step 5), and what the host line
makes of it. -/

namespace Sys2Proof.Machine

/-- `t` is what an owning block may make of `s` while it answers a request: the queue of commands, the device
state, the supply, the restart and the host line's own frames stand. -/
structure State.Served (s t : State) : Prop where
  rest : t = { s with
    now := t.now
    stamp := t.stamp
    timeUnset := t.timeUnset
    stations := t.stations
    sessionSerial := t.sessionSerial
    authRef := t.authRef
    plans := t.plans
    slots := t.slots
    lastCorrected := t.lastCorrected
    lastFault := t.lastFault
    period := t.period
    alarm := t.alarm
    journal := t.journal
    reservations := t.reservations
    recordSerial := t.recordSerial
    noticeMask := t.noticeMask
    notices := t.notices
    linkOverrun := t.linkOverrun }

namespace State.Served

variable {s t u : State}

theorem refl (s : State) : State.Served s s := ⟨rfl⟩

theorem trans (h : State.Served s t) (k : State.Served t u) : State.Served s u := ⟨by rw [k.rest, h.rest]⟩

theorem ofLocal {i : StationId} (h : State.Local i s t) : State.Served s t := ⟨by rw [h.rest]⟩

theorem pending (h : State.Served s t) : t.pending = s.pending := by rw [h.rest]
theorem device (h : State.Served s t) : t.device = s.device := by rw [h.rest]
theorem restart (h : State.Served s t) : t.restart = s.restart := by rw [h.rest]
theorem receiveQueue (h : State.Served s t) : t.receiveQueue = s.receiveQueue := by rw [h.rest]
theorem reply (h : State.Served s t) : t.reply = s.reply := by rw [h.rest]
theorem alive (h : State.Served s t) : t.alive = s.alive := by rw [h.rest]; rfl

theorem turnPeriod : State.Served s s.turnPeriod := ⟨rfl⟩

theorem testAlarm : State.Served s s.testAlarm := by
  unfold State.testAlarm
  split
  · exact ⟨rfl⟩
  · exact refl s

theorem foldl {α : Type} {f : State → α → State} (h : ∀ s a, State.Served s (f s a)) :
    ∀ (l : List α) (s : State), State.Served s (l.foldl f s)
  | [], s => refl s
  | a :: l, s => (h s a).trans (foldl h l (f s a))

theorem modStations (f : Station → Station) : State.Served s (s.modStations f) :=
  foldl (fun _ i => ofLocal (i := i) (.modStation f)) _ _

theorem stopStation (i : StationId) : State.Served s (s.stopStation i) := by
  apply ofLocal (i := i)
  unfold State.stopStation
  split
  · exact .enterOffline
  · split
    · exact .trans .endWithoutRecord (.trans (.indicate _) .enterOffline)
    · exact .trans (.modSession _) (.closeRequest _)

theorem wakeStation (i : StationId) : State.Served s (s.wakeStation i) :=
  ofLocal (i := i) (.trans (.activity _) (.endEvent _))

theorem openCounter (i : StationId) (h r : Nat) : State.Served s (s.openCounter i h r) := by
  apply ofLocal (i := i)
  unfold State.openCounter
  dsimp only
  split
  · exact .trans (.enterState _) (.trans (.createSession _ _ _ _) (.trans (.indicate _)
      (.trans (.evaluatePause _) (.endEvent _))))
  · exact .trans (.createSession _ _ _ _) (.trans (.indicate _) (.trans (.evaluatePause _) (.endEvent _)))

theorem acceptAuth (i : StationId) (h : Nat) : State.Served s (s.acceptAuth i h) :=
  ofLocal (i := i) (.trans (.modStation _) (.trans .reloadBoth (.trans (.indicate _) (.evaluatePause _))))

theorem declineAuth (i : StationId) : State.Served s (s.declineAuth i) :=
  ofLocal (i := i) (.trans .endWithoutRecord (.trans (.refuse _ _) .reloadBoth))

theorem testedRead (n : Nat) : State.Served s (s.testedRead n).1 :=
  ofLocal (i := 0) (.testedRead n)

theorem writeAccount (n : Nat) (a : Account) : State.Served s (s.writeAccount n a) :=
  ofLocal (i := 0) (.writeAccount n a)

theorem ownSetPeriodAlarm (p : Byte) (x : Option (BitVec 32)) : State.Served s (s.ownSetPeriodAlarm p x).1 := by
  unfold State.ownSetPeriodAlarm
  split
  · exact .refl s
  · exact State.Served.trans (t := { s with alarm := if p = 0 then none else x.map BitVec.toNat }) ⟨rfl⟩
      .testAlarm

theorem ownSetDevice (mask : BitVec 16) : State.Served s (s.ownSetDevice mask).1 := by
  unfold State.ownSetDevice
  split
  · exact .refl s
  · exact ⟨rfl⟩

theorem ownClearAll : State.Served s (s.ownClearAll).1 := by
  unfold State.ownClearAll
  split
  · exact trans (t := { s with slots := [], lastCorrected := none, lastFault := none }) ⟨rfl⟩ (modStations _)
  · exact refl s

theorem ownTakeNotice : State.Served s (s.ownTakeNotice).1 := by
  unfold State.ownTakeNotice
  split
  · exact .refl s
  · exact ⟨rfl⟩

theorem ownSetProfile (st : Byte) (p : ProfileFields) : State.Served s (s.ownSetProfile st p).1 := by
  unfold State.ownSetProfile
  split
  · exact refl s
  · rename_i i _
    dsimp only
    split
    · exact refl s
    · split
      · exact refl s
      · split
        · exact ofLocal (i := i) (.trans (.modStation _) (.declareJam _))
        · dsimp only
          exact ofLocal (i := i) (.modStation _)

theorem ownStartStation (st : Byte) : State.Served s (s.ownStartStation st).1 := by
  unfold State.ownStartStation
  split
  · exact .refl s
  · split
    · exact .refl s
    · exact .ofLocal .startStation

theorem ownStopStation (st : Byte) : State.Served s (s.ownStopStation st).1 := by
  unfold State.ownStopStation
  split
  · exact .refl s
  · split
    · exact .refl s
    · exact .stopStation _

theorem ownWakeStation (st : Byte) : State.Served s (s.ownWakeStation st).1 := by
  unfold State.ownWakeStation
  split
  · exact .refl s
  · split
    · exact .refl s
    · exact .wakeStation _

theorem ownOpenSession (st : Byte) (a h : BitVec 32) : State.Served s (s.ownOpenSession st a h).1 := by
  unfold State.ownOpenSession
  split
  · exact refl s
  · dsimp only
    split
    · exact refl s
    · split
      · exact refl s
      · split
        · exact refl s
        · exact openCounter _ _ _

theorem ownEndSession (st : Byte) : State.Served s (s.ownEndSession st).1 := by
  unfold State.ownEndSession
  split
  · exact .refl s
  · split
    · exact .refl s
    · split
      · exact .ofLocal (.closeRequest _)
      · split <;> exact .refl s

theorem ownAuthResult (st : Byte) (r : BitVec 16) (a : BitVec 32) : State.Served s (s.ownAuthResult st r a).1 := by
  unfold State.ownAuthResult
  split
  · exact .refl s
  · split
    · exact .refl s
    · dsimp only
      split
      · exact .refl s
      · split
        · split
          · exact .declineAuth _
          · exact .acceptAuth _ _
        · exact .refl s

theorem ownLoadPlan (n : Byte) (f : List (BitVec 16)) : State.Served s (s.ownLoadPlan n f).1 := by
  unfold State.ownLoadPlan
  dsimp only
  split
  · exact refl s
  · split
    · exact refl s
    · split
      · exact refl s
      · exact ⟨rfl⟩

theorem ownAmendPlan (n : Byte) (m : BitVec 16) (v : List (BitVec 16)) : State.Served s (s.ownAmendPlan n m v).1 := by
  unfold State.ownAmendPlan
  dsimp only
  split
  · exact refl s
  · split
    · exact refl s
    · split
      · exact refl s
      · split
        · exact refl s
        · exact ⟨rfl⟩

theorem ownLoadAccount (sl : BitVec 16) (id : BitVec 40) (k st rt : Byte) (fg : List (BitVec 32)) :
    State.Served s (s.ownLoadAccount sl id k st rt fg).1 := by
  unfold State.ownLoadAccount
  dsimp only
  split
  · exact refl s
  · split
    · exact refl s
    · split
      · exact refl s
      · split
        · exact refl s
        · split
          · exact refl s
          · exact ⟨rfl⟩

theorem ownReadAccount (n : BitVec 16) : State.Served s (s.ownReadAccount n).1 := by
  unfold State.ownReadAccount
  split
  · exact .refl s
  · exact .testedRead _

theorem ownFindAccount (n : BitVec 40) : State.Served s (s.ownFindAccount n).1 := by
  unfold State.ownFindAccount
  split
  · exact .refl s
  · split
    · exact .refl s
    · exact .testedRead _

theorem ownTopup (n : BitVec 16) (a : BitVec 32) : State.Served s (s.ownTopup n a).1 := by
  unfold State.ownTopup
  split
  · exact .refl s
  · have h := State.Served.testedRead (s := s) n.toNat
    split <;> rename_i heq <;> rw [heq] at h
    · split
      · exact h
      · dsimp only
        split
        · exact h
        · exact h.trans (.writeAccount _ _)
    · exact h

theorem ownSetLimit (n : BitVec 16) (a : BitVec 32) : State.Served s (s.ownSetLimit n a).1 := by
  unfold State.ownSetLimit
  split
  · exact .refl s
  · have h := State.Served.testedRead (s := s) n.toNat
    split <;> rename_i heq <;> rw [heq] at h
    · split
      · exact h
      · split
        · exact h
        · exact h.trans (.writeAccount _ _)
    · exact h

theorem ownSetAccountState (n : BitVec 16) (a : Byte) : State.Served s (s.ownSetAccountState n a).1 := by
  unfold State.ownSetAccountState
  split
  · exact .refl s
  · have h := State.Served.testedRead (s := s) n.toNat
    split <;> rename_i heq <;> rw [heq] at h
    · exact h.trans (.writeAccount _ _)
    · exact h

theorem ownDeleteAccount (n : BitVec 16) : State.Served s (s.ownDeleteAccount n).1 := by
  unfold State.ownDeleteAccount
  split
  · exact .refl s
  · split
    · exact .refl s
    · split
      · exact .refl s
      · exact ⟨rfl⟩

theorem ownReleaseJournal (n : BitVec 32) : State.Served s (s.ownReleaseJournal n).1 := by
  unfold State.ownReleaseJournal
  split
  · exact .refl s
  · split
    · exact ⟨rfl⟩
    · exact .refl s

theorem ownReadProfile (n : Byte) : State.Served s (s.ownReadProfile n).1 := by
  unfold State.ownReadProfile
  split <;> exact .refl s

theorem ownReadStation (n : Byte) : State.Served s (s.ownReadStation n).1 := by
  unfold State.ownReadStation
  split <;> exact .refl s

theorem ownReadMeters (n : Byte) : State.Served s (s.ownReadMeters n).1 := by
  unfold State.ownReadMeters
  split <;> exact .refl s

theorem ownReadSession (n : Byte) : State.Served s (s.ownReadSession n).1 := by
  unfold State.ownReadSession
  split <;> exact .refl s

theorem ownReadJam (n : Byte) : State.Served s (s.ownReadJam n).1 := by
  unfold State.ownReadJam
  split
  · exact .refl s
  · split <;> exact .refl s

theorem ownReadAuth (n : Byte) : State.Served s (s.ownReadAuth n).1 := by
  unfold State.ownReadAuth
  repeat' split
  all_goals exact .refl s

theorem ownReadPlan (n : Byte) : State.Served s (s.ownReadPlan n).1 := by
  unfold State.ownReadPlan
  split <;> exact .refl s

theorem ownQuote (n r t k : Byte) : State.Served s (s.ownQuote n r t k).1 := by
  unfold State.ownQuote
  dsimp only
  split
  · exact .refl s
  · split <;> exact .refl s

theorem ownReadJournal : State.Served s (s.ownReadJournal).1 := by
  unfold State.ownReadJournal
  split <;> exact .refl s

theorem ownGetStatus : State.Served s (s.ownGetStatus).1 := by
  exact ⟨rfl⟩

theorem ownSetTime (x : BitVec 32) : State.Served s (s.ownSetTime x).1 := by
  exact trans (t := { s with stamp := x.toNat, timeUnset := false }) ⟨rfl⟩ testAlarm

theorem ownTurnPeriod : State.Served s (s.ownTurnPeriod).1 := by
  exact turnPeriod

theorem ownReset : State.Served s (s.ownReset).1 := by
  exact refl s

end State.Served

/-- What an owning block may change when it acts on a request. -/
theorem State.serve_frame (s : State) (r : Instr) : State.Served s (s.serve r).1 := by
  cases r with
  | setPeriodAlarm p x => exact .ownSetPeriodAlarm p x
  | setDevice mask => exact .ownSetDevice mask
  | clearAll => exact .ownClearAll
  | takeNotice => exact .ownTakeNotice
  | setProfile st p => exact .ownSetProfile st p
  | startStation st => exact .ownStartStation st
  | stopStation st => exact .ownStopStation st
  | wakeStation st => exact .ownWakeStation st
  | openSession st a h => exact .ownOpenSession st a h
  | endSession st => exact .ownEndSession st
  | authResult st r a => exact .ownAuthResult st r a
  | loadPlan n f => exact .ownLoadPlan n f
  | amendPlan n m v => exact .ownAmendPlan n m v
  | loadAccount sl id k st rt fg => exact .ownLoadAccount sl id k st rt fg
  | readAccount n => exact .ownReadAccount n
  | findAccount n => exact .ownFindAccount n
  | topup n a => exact .ownTopup n a
  | setLimit n a => exact .ownSetLimit n a
  | setAccountState n a => exact .ownSetAccountState n a
  | deleteAccount n => exact .ownDeleteAccount n
  | releaseJournal n => exact .ownReleaseJournal n
  | readProfile n => exact .ownReadProfile n
  | readStation n => exact .ownReadStation n
  | readMeters n => exact .ownReadMeters n
  | readSession n => exact .ownReadSession n
  | readJam n => exact .ownReadJam n
  | readAuth n => exact .ownReadAuth n
  | readPlan n => exact .ownReadPlan n
  | quote n r t k => exact .ownQuote n r t k
  | readJournal => exact .ownReadJournal
  | getStatus => exact .ownGetStatus
  | setTime x => exact .ownSetTime x
  | turnPeriod => exact .ownTurnPeriod
  | reset => exact .ownReset
  | _ => exact .refl s

/-- What checks 4 and 5 of R164 may change. -/
theorem State.perform_frame (s : State) (r : Instr) : State.Served s (s.perform r).1 := by
  unfold State.perform
  split
  · exact .refl s
  · exact s.serve_frame r

/-- A request that its owner may act on is served: the device is RUNNING, or the request is one of the three
served in SHUTDOWN (R166). -/
theorem State.perform_of_served {s : State} {r : Instr}
    (h : s.device = .running ∨ servedInShutdown r = true) : s.perform r = s.serve r := by
  unfold State.perform
  rcases h with h | h <;> simp [h]

/-- A request on a free line is answered at once (R164). -/
theorem State.hostRequest_free {s : State} {kind : Byte} {r : Instr} (ha : s.alive = true)
    (hr : s.reply = none) (hq : s.receiveQueue = []) (hf : bodyFits kind (requestBody r) = true) :
    s.hostRequest kind r = State.answer { s with hostCondition := .hunting } kind r := by
  simp [State.hostRequest, ha, hr, hq, hf]

/-- A request on a busy line joins the receive queue, or is dropped (R163). -/
theorem State.hostRequest_busy {s : State} {kind : Byte} {r : Instr} (ha : s.alive = true)
    (hb : s.reply ≠ none ∨ s.receiveQueue ≠ []) :
    s.hostRequest kind r = State.enqueue { s with hostCondition := .hunting }
      { kind := kind, body := requestBody r, good := true } := by
  unfold State.hostRequest
  rw [if_pos ha]
  dsimp only
  rw [if_neg]
  rintro ⟨h1, h2⟩
  exact hb.elim (fun h => h h1) fun h => h h2

/-- A request that reaches a part that does not work is lost (R168). -/
theorem State.hostRequest_dead {s : State} {kind : Byte} {r : Instr} (ha : s.alive = false) :
    s.hostRequest kind r = s := by simp [State.hostRequest, ha]

end Sys2Proof.Machine
end

