-- ==== Sys2Proof/Laws/Notices.lean ====
section
/-! SUPPORT. The notice set and the reader port: what a posting and a produced frame can do. -/

namespace Sys2Proof.Machine

/-! ### Postings (R172) -/

/-- A posted set holds the entry posted and those it held. -/
theorem mem_insertNotice {m n : Notice} : ∀ {l}, m ∈ insertNotice n l → m = n ∨ m ∈ l
  | [], h => .inl (by simpa [insertNotice] using h)
  | k :: rest, h => by
      unfold insertNotice at h
      split at h
      · simpa using h
      · split at h
        · exact .inr h
        · rcases List.mem_cons.1 h with h | h
          · exact .inr (h ▸ List.mem_cons_self)
          · exact (mem_insertNotice h).imp_right (List.mem_cons_of_mem _)

/-- A posting removes no entry. -/
theorem mem_insertNotice_of_mem {m n : Notice} : ∀ {l}, m ∈ l → m ∈ insertNotice n l
  | k :: rest, h => by
      unfold insertNotice
      split
      · exact List.mem_cons_of_mem _ h
      · split
        · exact h
        · rcases List.mem_cons.1 h with h | h
          · exact h ▸ List.mem_cons_self
          · exact List.mem_cons_of_mem _ (mem_insertNotice_of_mem h)

/-- A posting keeps the order of R173. -/
theorem pairwise_insertNotice (n : Notice) : ∀ {l : List Notice},
    l.Pairwise (fun a b => a.rank < b.rank) →
      (insertNotice n l).Pairwise (fun a b => a.rank < b.rank)
  | [], _ => by simp [insertNotice]
  | k :: rest, h => by
      obtain ⟨h1, h2⟩ := List.pairwise_cons.1 h
      unfold insertNotice
      split
      · rename_i hk
        refine List.pairwise_cons.2 ⟨fun b hb => ?_, h⟩
        rcases List.mem_cons.1 hb with rfl | hb
        · exact hk
        · exact Nat.lt_trans hk (h1 b hb)
      · split
        · exact h
        · rename_i hk hk'
          refine List.pairwise_cons.2 ⟨fun b hb => ?_, pairwise_insertNotice n h2⟩
          rcases mem_insertNotice hb with rfl | hb
          · omega
          · exact h1 b hb

/-! ### Indicator frames (R48) -/

/-- What a produced frame can do: it is being sent, it waits, or it waits in place of the oldest waiting
frame. -/
theorem ReaderPort.produce_cases (p : ReaderPort) (f : Indicator) :
    (p.sending = none ∧ p.produce f = { p with sending := some f }) ∨
    (p.sending.isSome ∧ p.waiting.length < Config.indicatorCapacity ∧
      p.produce f = { p with waiting := p.waiting ++ [f] }) ∨
    (p.sending.isSome ∧ Config.indicatorCapacity ≤ p.waiting.length ∧
      p.produce f = { p with waiting := p.waiting.tail ++ [f] }) := by
  unfold ReaderPort.produce
  cases h : p.sending with
  | none => exact .inl ⟨rfl, rfl⟩
  | some g =>
      by_cases hl : p.waiting.length < Config.indicatorCapacity
      · exact .inr (.inl ⟨rfl, hl, by simp [hl]⟩)
      · exact .inr (.inr ⟨rfl, by omega, by simp [hl]⟩)

/-- At most 4 frames wait after a frame is produced, if at most 4 did before. -/
theorem ReaderPort.waiting_produce_le {p : ReaderPort} (f : Indicator)
    (h : p.waiting.length ≤ Config.indicatorCapacity) :
    (p.produce f).waiting.length ≤ Config.indicatorCapacity := by
  rcases p.produce_cases f with ⟨_, e⟩ | ⟨_, hl, e⟩ | ⟨_, _, e⟩ <;> rw [e]
  · exact h
  · simp only [List.length_append, List.length_singleton]
    omega
  · simp only [List.length_append, List.length_tail, List.length_singleton]
    simp only [Config.indicatorCapacity] at h ⊢
    omega

/-- The port's receiving condition is untouched by a produced frame. -/
@[simp] theorem ReaderPort.condition_produce (p : ReaderPort) (f : Indicator) :
    (p.produce f).condition = p.condition := by
  rcases p.produce_cases f with ⟨_, e⟩ | ⟨_, _, e⟩ | ⟨_, _, e⟩ <;> rw [e]

end Sys2Proof.Machine
end

