-- ==== Sys2Proof/Laws/Requests.lean ====
section
/-! SUPPORT. One lemma per request: sent on a free line, it is answered by its owning rule. They spare a proof the
unfolding of `exec`, `State.hostRequest` and `State.serve`. -/

namespace Sys2Proof.Machine

/-- The part that answers a request: its owning rule's part and answer, made into a reply. -/
abbrev answered (kind : Byte) (restarts : Bool) (p : State × Answer) : State := p.1.sendReply kind p.2 restarts

/-- A free line takes a request at once (R164). -/
theorem exec_of_lineFree {s : State} {r : Instr} {kind : Byte} (h : s.LineFree) (hc : bodyFits kind (requestBody r) = true) :
    s.hostRequest kind r = ({ s with hostCondition := .hunting } : State).answer kind r := by
  obtain ⟨h1, h2, h3⟩ := h
  simp [State.hostRequest, h1, h2, h3, hc]

/-- In the RUNNING device the owning rule answers it (R164, step 5). -/
theorem exec_of_serving {s : State} {r : Instr} {kind : Byte} (h : s.Serving) (hc : bodyFits kind (requestBody r) = true) :
    s.hostRequest kind r = answered (replyKind kind) (r = .reset)
      (({ s with hostCondition := .hunting } : State).serve r) := by
  rw [exec_of_lineFree h.1 hc, State.answer, State.perform, if_neg]
  rintro ⟨hd, -⟩
  exact absurd (h.2.symm.trans hd) (by decide)

/-! ### Bodies of the requests whose length varies -/

@[simp] theorem leBytes_length : ∀ w n : Nat, (leBytes w n).length = w
  | 0, _ => rfl
  | w + 1, n => by simp [leBytes, leBytes_length w]

@[simp] theorem bytesOf_length {n : Nat} (w : Nat) (x : BitVec n) : (bytesOf w x).length = w := leBytes_length _ _

/-- The number read back from its own bytes, least significant first (R188). -/
theorem leNat_leBytes : ∀ w n : Nat, n < 256 ^ w → leNat (leBytes w n) = n
  | 0, n, h => by simp [leBytes, leNat]; omega
  | w + 1, n, h => by
    have hn : n / 256 < 256 ^ w := by rw [Nat.pow_succ] at h; omega
    simp [leBytes, leNat, leNat_leBytes w _ hn]
    omega

theorem bodyFits_setPeriodAlarm {p : Byte} {x : Option (BitVec 32)} (h : (p == 0) = x.isNone) :
    bodyFits 0x03 (requestBody (.setPeriodAlarm p x)) = true := by
  cases x <;> simp_all [bodyFits, requestBody, byteAt]

theorem bodyFits_loadPlan {n : Byte} {f : List (BitVec 16)} (h : f.length = 15) :
    bodyFits 0x30 (requestBody (.loadPlan n f)) = true := by
  simp [bodyFits, requestBody, h]

theorem bodyFits_amendPlan {n : Byte} {m : BitVec 16} {v : List (BitVec 16)} (h : v.length = namedFields m) :
    bodyFits 0x31 (requestBody (.amendPlan n m v)) = true := by
  have hm : field 16 (n :: (bytesOf 2 m ++ v.flatMap (bytesOf 2))) 1 2 = m := by
    have ht : ((bytesOf 2 m ++ v.flatMap (bytesOf 2)).take 2) = bytesOf 2 m := by
      rw [List.take_append_of_le_length (by simp)]
      exact List.take_of_length_le (by simp)
    simp only [field, List.drop_succ_cons, List.drop_zero, ht]
    rw [bytesOf, leNat_leBytes 2 _ m.isLt, BitVec.ofNat_toNat, BitVec.setWidth_eq]
  simp [bodyFits, requestBody, hm, h]
  omega

theorem bodyFits_loadAccount {n : BitVec 16} {id : BitVec 40} {k st r : Byte} {f : List (BitVec 32)}
    (h : (Instr.loadAccount n id k st r f).wellFormed = true) :
    bodyFits 0x40 (requestBody (.loadAccount n id k st r f)) = true := by
  have hk : byteAt (requestBody (.loadAccount n id k st r f)) 7 = k := rfl
  have hl : (requestBody (.loadAccount n id k st r f)).length = 10 + f.length * 4 := by
    simp [requestBody]; omega
  simp only [Instr.wellFormed] at h
  simp only [bodyFits, hk, hl]
  simp
  split at h
  · simp_all
  · split at h
    · simp_all
    · simp_all
      omega

/-- A well-formed request fits its kind (R187). -/
theorem bodyFits_requestBody {r : Instr} {kind : Byte} (hk : requestCode r = some kind)
    (hw : r.wellFormed = true) : bodyFits kind (requestBody r) = true := by
  cases r <;> cases hk <;> first | rfl | skip
  · exact bodyFits_setPeriodAlarm (by simpa [Instr.wellFormed] using hw)
  · exact bodyFits_loadPlan (by simpa [Instr.wellFormed] using hw)
  · exact bodyFits_amendPlan (by simpa [Instr.wellFormed] using hw)
  · exact bodyFits_loadAccount hw

/-- Every request command is its request frame sent (log 9). -/
theorem exec_request {r : Instr} {kind : Byte} (hk : requestCode r = some kind) (s : State) :
    exec r s = .next (s.hostRequest kind r) := by
  cases r <;> cases hk <;> rfl

/-! ### The three requests that a device in SHUTDOWN serves (R166) -/

theorem answer_getStatus (s : State) : s.answer 0x01 .getStatus = answered 0x81 false s.ownGetStatus := by
  rw [State.answer, State.perform_of_served (.inr rfl)]; rfl

theorem answer_takeNotice (s : State) : s.answer 0x08 .takeNotice = answered 0x88 false s.ownTakeNotice := by
  rw [State.answer, State.perform_of_served (.inr rfl)]; rfl

theorem answer_reset (s : State) : s.answer 0x06 .reset = answered 0x86 true s.ownReset := by
  rw [State.answer, State.perform_of_served (.inr rfl)]; rfl

/-! ### The requests -/

variable {s : State}

theorem exec_getStatus (h : s.LineFree) :
    exec .getStatus s = .next (answered 0x81 false (({ s with hostCondition := .hunting } : State).ownGetStatus)) :=
  congrArg Host.Outcome.next ((exec_of_lineFree (r := .getStatus) (kind := 0x01) h rfl).trans (answer_getStatus _))

theorem exec_setTime (h : s.Serving) (x : BitVec 32) :
    exec (.setTime x) s = .next (answered 0x82 false (({ s with hostCondition := .hunting } : State).ownSetTime x)) :=
  congrArg Host.Outcome.next (exec_of_serving (r := (.setTime x)) (kind := 0x02) h rfl)

theorem exec_setPeriodAlarm (h : s.Serving) {p : Byte} {x : Option (BitVec 32)} (hf : (p == 0) = x.isNone) :
    exec (.setPeriodAlarm p x) s = .next (answered 0x83 false (({ s with hostCondition := .hunting } : State).ownSetPeriodAlarm p x)) :=
  congrArg Host.Outcome.next (exec_of_serving (r := (.setPeriodAlarm p x)) (kind := 0x03) h (bodyFits_setPeriodAlarm hf))

theorem exec_turnPeriod (h : s.Serving) :
    exec .turnPeriod s = .next (answered 0x84 false (({ s with hostCondition := .hunting } : State).ownTurnPeriod)) :=
  congrArg Host.Outcome.next (exec_of_serving (r := .turnPeriod) (kind := 0x04) h rfl)

theorem exec_setDevice (h : s.Serving) (x : BitVec 16) :
    exec (.setDevice x) s = .next (answered 0x85 false (({ s with hostCondition := .hunting } : State).ownSetDevice x)) :=
  congrArg Host.Outcome.next (exec_of_serving (r := (.setDevice x)) (kind := 0x05) h rfl)

theorem exec_reset (h : s.LineFree) :
    exec .reset s = .next (answered 0x86 true (({ s with hostCondition := .hunting } : State).ownReset)) :=
  congrArg Host.Outcome.next ((exec_of_lineFree (r := .reset) (kind := 0x06) h rfl).trans (answer_reset _))

theorem exec_clearAll (h : s.Serving) :
    exec .clearAll s = .next (answered 0x87 false (({ s with hostCondition := .hunting } : State).ownClearAll)) :=
  congrArg Host.Outcome.next (exec_of_serving (r := .clearAll) (kind := 0x07) h rfl)

theorem exec_takeNotice (h : s.LineFree) :
    exec .takeNotice s = .next (answered 0x88 false (({ s with hostCondition := .hunting } : State).ownTakeNotice)) :=
  congrArg Host.Outcome.next ((exec_of_lineFree (r := .takeNotice) (kind := 0x08) h rfl).trans (answer_takeNotice _))

theorem exec_setProfile (h : s.Serving) (n : Byte) (p : ProfileFields) :
    exec (.setProfile n p) s = .next (answered 0x90 false (({ s with hostCondition := .hunting } : State).ownSetProfile n p)) :=
  congrArg Host.Outcome.next (exec_of_serving (r := (.setProfile n p)) (kind := 0x10) h rfl)

theorem exec_readProfile (h : s.Serving) (n : Byte) :
    exec (.readProfile n) s = .next (answered 0x91 false (({ s with hostCondition := .hunting } : State).ownReadProfile n)) :=
  congrArg Host.Outcome.next (exec_of_serving (r := (.readProfile n)) (kind := 0x11) h rfl)

theorem exec_startStation (h : s.Serving) (n : Byte) :
    exec (.startStation n) s = .next (answered 0x92 false (({ s with hostCondition := .hunting } : State).ownStartStation n)) :=
  congrArg Host.Outcome.next (exec_of_serving (r := (.startStation n)) (kind := 0x12) h rfl)

theorem exec_stopStation (h : s.Serving) (n : Byte) :
    exec (.stopStation n) s = .next (answered 0x93 false (({ s with hostCondition := .hunting } : State).ownStopStation n)) :=
  congrArg Host.Outcome.next (exec_of_serving (r := (.stopStation n)) (kind := 0x13) h rfl)

theorem exec_wakeStation (h : s.Serving) (n : Byte) :
    exec (.wakeStation n) s = .next (answered 0x94 false (({ s with hostCondition := .hunting } : State).ownWakeStation n)) :=
  congrArg Host.Outcome.next (exec_of_serving (r := (.wakeStation n)) (kind := 0x14) h rfl)

theorem exec_readStation (h : s.Serving) (n : Byte) :
    exec (.readStation n) s = .next (answered 0x95 false (({ s with hostCondition := .hunting } : State).ownReadStation n)) :=
  congrArg Host.Outcome.next (exec_of_serving (r := (.readStation n)) (kind := 0x15) h rfl)

theorem exec_readJam (h : s.Serving) (n : Byte) :
    exec (.readJam n) s = .next (answered 0x96 false (({ s with hostCondition := .hunting } : State).ownReadJam n)) :=
  congrArg Host.Outcome.next (exec_of_serving (r := (.readJam n)) (kind := 0x16) h rfl)

theorem exec_readMeters (h : s.Serving) (n : Byte) :
    exec (.readMeters n) s = .next (answered 0x97 false (({ s with hostCondition := .hunting } : State).ownReadMeters n)) :=
  congrArg Host.Outcome.next (exec_of_serving (r := (.readMeters n)) (kind := 0x17) h rfl)

theorem exec_openSession (h : s.Serving) (n : Byte) (a r : BitVec 32) :
    exec (.openSession n a r) s = .next (answered 0xA0 false (({ s with hostCondition := .hunting } : State).ownOpenSession n a r)) :=
  congrArg Host.Outcome.next (exec_of_serving (r := (.openSession n a r)) (kind := 0x20) h rfl)

theorem exec_endSession (h : s.Serving) (n : Byte) :
    exec (.endSession n) s = .next (answered 0xA1 false (({ s with hostCondition := .hunting } : State).ownEndSession n)) :=
  congrArg Host.Outcome.next (exec_of_serving (r := (.endSession n)) (kind := 0x21) h rfl)

theorem exec_readSession (h : s.Serving) (n : Byte) :
    exec (.readSession n) s = .next (answered 0xA2 false (({ s with hostCondition := .hunting } : State).ownReadSession n)) :=
  congrArg Host.Outcome.next (exec_of_serving (r := (.readSession n)) (kind := 0x22) h rfl)

theorem exec_readAuth (h : s.Serving) (n : Byte) :
    exec (.readAuth n) s = .next (answered 0xA3 false (({ s with hostCondition := .hunting } : State).ownReadAuth n)) :=
  congrArg Host.Outcome.next (exec_of_serving (r := (.readAuth n)) (kind := 0x23) h rfl)

theorem exec_authResult (h : s.Serving) (n : Byte) (r : BitVec 16) (a : BitVec 32) :
    exec (.authResult n r a) s = .next (answered 0xA4 false (({ s with hostCondition := .hunting } : State).ownAuthResult n r a)) :=
  congrArg Host.Outcome.next (exec_of_serving (r := (.authResult n r a)) (kind := 0x24) h rfl)

theorem exec_loadPlan (h : s.Serving) (n : Byte) {f : List (BitVec 16)} (hf : f.length = 15) :
    exec (.loadPlan n f) s = .next (answered 0xB0 false (({ s with hostCondition := .hunting } : State).ownLoadPlan n f)) :=
  congrArg Host.Outcome.next (exec_of_serving (r := (.loadPlan n f)) (kind := 0x30) h (bodyFits_loadPlan hf))

theorem exec_amendPlan (h : s.Serving) (n : Byte) {m : BitVec 16} {v : List (BitVec 16)} (hf : v.length = namedFields m) :
    exec (.amendPlan n m v) s = .next (answered 0xB1 false (({ s with hostCondition := .hunting } : State).ownAmendPlan n m v)) :=
  congrArg Host.Outcome.next (exec_of_serving (r := (.amendPlan n m v)) (kind := 0x31) h (bodyFits_amendPlan hf))

theorem exec_readPlan (h : s.Serving) (n : Byte) :
    exec (.readPlan n) s = .next (answered 0xB2 false (({ s with hostCondition := .hunting } : State).ownReadPlan n)) :=
  congrArg Host.Outcome.next (exec_of_serving (r := (.readPlan n)) (kind := 0x32) h rfl)

theorem exec_quote (h : s.Serving) (n r t k : Byte) :
    exec (.quote n r t k) s = .next (answered 0xB3 false (({ s with hostCondition := .hunting } : State).ownQuote n r t k)) :=
  congrArg Host.Outcome.next (exec_of_serving (r := (.quote n r t k)) (kind := 0x33) h rfl)

theorem exec_loadAccount (h : s.Serving) {n : BitVec 16} {id : BitVec 40} {k st r : Byte} {f : List (BitVec 32)} (hf : (Instr.loadAccount n id k st r f).wellFormed = true) :
    exec (.loadAccount n id k st r f) s = .next (answered 0xC0 false (({ s with hostCondition := .hunting } : State).ownLoadAccount n id k st r f)) :=
  congrArg Host.Outcome.next (exec_of_serving (r := (.loadAccount n id k st r f)) (kind := 0x40) h (bodyFits_loadAccount hf))

theorem exec_readAccount (h : s.Serving) (n : BitVec 16) :
    exec (.readAccount n) s = .next (answered 0xC1 false (({ s with hostCondition := .hunting } : State).ownReadAccount n)) :=
  congrArg Host.Outcome.next (exec_of_serving (r := (.readAccount n)) (kind := 0x41) h rfl)

theorem exec_findAccount (h : s.Serving) (id : BitVec 40) :
    exec (.findAccount id) s = .next (answered 0xC2 false (({ s with hostCondition := .hunting } : State).ownFindAccount id)) :=
  congrArg Host.Outcome.next (exec_of_serving (r := (.findAccount id)) (kind := 0x42) h rfl)

theorem exec_topup (h : s.Serving) (n : BitVec 16) (a : BitVec 32) :
    exec (.topup n a) s = .next (answered 0xC3 false (({ s with hostCondition := .hunting } : State).ownTopup n a)) :=
  congrArg Host.Outcome.next (exec_of_serving (r := (.topup n a)) (kind := 0x43) h rfl)

theorem exec_setLimit (h : s.Serving) (n : BitVec 16) (l : BitVec 32) :
    exec (.setLimit n l) s = .next (answered 0xC4 false (({ s with hostCondition := .hunting } : State).ownSetLimit n l)) :=
  congrArg Host.Outcome.next (exec_of_serving (r := (.setLimit n l)) (kind := 0x44) h rfl)

theorem exec_setAccountState (h : s.Serving) (n : BitVec 16) (st : Byte) :
    exec (.setAccountState n st) s = .next (answered 0xC5 false (({ s with hostCondition := .hunting } : State).ownSetAccountState n st)) :=
  congrArg Host.Outcome.next (exec_of_serving (r := (.setAccountState n st)) (kind := 0x45) h rfl)

theorem exec_deleteAccount (h : s.Serving) (n : BitVec 16) :
    exec (.deleteAccount n) s = .next (answered 0xC6 false (({ s with hostCondition := .hunting } : State).ownDeleteAccount n)) :=
  congrArg Host.Outcome.next (exec_of_serving (r := (.deleteAccount n)) (kind := 0x46) h rfl)

theorem exec_readJournal (h : s.Serving) :
    exec .readJournal s = .next (answered 0xD0 false (({ s with hostCondition := .hunting } : State).ownReadJournal)) :=
  congrArg Host.Outcome.next (exec_of_serving (r := .readJournal) (kind := 0x50) h rfl)

theorem exec_releaseJournal (h : s.Serving) (x : BitVec 32) :
    exec (.releaseJournal x) s = .next (answered 0xD1 false (({ s with hostCondition := .hunting } : State).ownReleaseJournal x)) :=
  congrArg Host.Outcome.next (exec_of_serving (r := (.releaseJournal x)) (kind := 0x51) h rfl)

end Sys2Proof.Machine
end

