-- ==== Sys2Proof/Laws/Sessions.lean ====
section
/-! SUPPORT. What the operations of a session's life do, said once: an activity, a pause evaluation, a tier update, a
release of sheets, a jam record that takes sheets, a tested read, a reservation, a creation, the end of RECOVER; and
what a posting and the pieces of a restart do. -/

namespace Sys2Proof.Machine

/-! ### Stations -/

@[simp] theorem State.setStation_station (s : State) (i : StationId) : s.setStation i (s.station i) = s := by
  simp only [State.setStation, State.station]
  simp

@[simp] theorem State.setStation_setStation (s : State) (i : StationId) (a b : Station) :
    (s.setStation i a).setStation i b = s.setStation i b := by
  simp [State.setStation]

@[simp] theorem Station.timer_setTimer_self (st : Station) (t : TimerId) (v : IdleTimer) :
    (st.setTimer t v).timer t = v := by cases t <;> rfl

@[simp] theorem Station.timer_setTimer_of_ne (st : Station) {t u : TimerId} (h : u ≠ t) (v : IdleTimer) :
    (st.setTimer t v).timer u = st.timer u := by
  cases t <;> cases u <;> first | rfl | exact absurd rfl h

@[simp] theorem Station.state_setTimer (st : Station) (t : TimerId) (v : IdleTimer) :
    (st.setTimer t v).state = st.state := by cases t <;> rfl

@[simp] theorem Station.profile_setTimer (st : Station) (t : TimerId) (v : IdleTimer) :
    (st.setTimer t v).profile = st.profile := by cases t <;> rfl

@[simp] theorem Station.session_setTimer (st : Station) (t : TimerId) (v : IdleTimer) :
    (st.setTimer t v).session = st.session := by cases t <;> rfl

@[simp] theorem Station.path_setTimer (st : Station) (t : TimerId) (v : IdleTimer) :
    (st.setTimer t v).path = st.path := by cases t <;> rfl

@[simp] theorem Station.lines_setTimer (st : Station) (t : TimerId) (v : IdleTimer) :
    (st.setTimer t v).lines = st.lines := by cases t <;> rfl

@[simp] theorem Station.jam_setTimer (st : Station) (t : TimerId) (v : IdleTimer) :
    (st.setTimer t v).jam = st.jam := by cases t <;> rfl

@[simp] theorem Station.meters_setTimer (st : Station) (t : TimerId) (v : IdleTimer) :
    (st.setTimer t v).meters = st.meters := by cases t <;> rfl

@[simp] theorem Station.reader_setTimer (st : Station) (t : TimerId) (v : IdleTimer) :
    (st.setTimer t v).reader = st.reader := by cases t <;> rfl

@[simp] theorem Station.pauseTimer_setTimer (st : Station) (t : TimerId) (v : IdleTimer) :
    (st.setTimer t v).pauseTimer = st.pauseTimer := by cases t <;> rfl

@[simp] theorem Station.purgeTimer_setTimer (st : Station) (t : TimerId) (v : IdleTimer) :
    (st.setTimer t v).purgeTimer = st.purgeTimer := by cases t <;> rfl

@[simp] theorem Station.authTimer_setTimer (st : Station) (t : TimerId) (v : IdleTimer) :
    (st.setTimer t v).authTimer = st.authTimer := by cases t <;> rfl

@[simp] theorem Station.duration_setTimer (st : Station) (t u : TimerId) (v : IdleTimer) :
    (st.setTimer t v).duration u = st.duration u := by cases t <;> rfl

/-! ### Activities (R40, R45) -/

/-- An activity in OFFLINE, and one linked to a timer of no duration outside SAVE, changes nothing. -/
theorem State.activity_of_idle {s : State} {i : StationId} {t : TimerId}
    (h : (s.station i).state = .offline ∨ (s.station i).state ≠ .save ∧ (s.station i).duration t = none) :
    s.activity i t = s := by
  rcases h with h | ⟨h, d⟩
  · rw [State.activity, if_pos h]
  · unfold State.activity
    simp only [if_neg h, d, ite_self]

/-- An activity reloads its linked timer. -/
theorem State.activity_of_duration {s : State} {i : StationId} {t : TimerId} {d : Nat}
    (off : (s.station i).state ≠ .offline) (save : (s.station i).state ≠ .save)
    (h : (s.station i).duration t = some d) :
    s.activity i t = s.setStation i ((s.station i).setTimer t (.running (s.now + 1000 * d))) := by
  unfold State.activity
  simp only [if_neg off, if_neg save, h]
  rfl

/-- An activity at a station that is not in SAVE changes nothing of it but the linked timer, as R40 says. -/
theorem State.activity_reloads {s : State} {i : StationId} {t : TimerId} (save : (s.station i).state ≠ .save) :
    ∃ st, s.activity i t = s.setStation i st ∧ (s.station i).Reloaded s.now t st := by
  by_cases off : (s.station i).state = .offline
  · exact ⟨s.station i, by rw [State.activity_of_idle (.inl off), State.setStation_station],
      fun _ h => absurd off h, fun _ => rfl, fun _ _ => rfl⟩
  · cases h : (s.station i).duration t with
    | none =>
        exact ⟨s.station i, by rw [State.activity_of_idle (.inr ⟨save, h⟩), State.setStation_station],
          fun _ _ k => absurd (h.symm.trans k) nofun, fun _ => rfl, fun _ _ => rfl⟩
    | some d =>
        refine ⟨_, State.activity_of_duration off save h, ?_, ?_, fun _ ne => Station.timer_setTimer_of_ne _ ne _⟩
        · intro e _ k
          obtain rfl := Option.some.inj (h.symm.trans k)
          exact Station.timer_setTimer_self _ _ _
        · exact fun k => k.elim (absurd · off) fun k => absurd (h.symm.trans k) nofun

/-! ### Tiers and releases (R82, R85, R112) -/

/-- Bringing tier and ceiling up to date changes these two fields only. -/
theorem Session.retier_eq (x : Session) (path : List Sheet) :
    x.retier path = { x with
      tier := x.plan.tierFor (x.coveredCount path)
      ceiling := if x.plan.tierFor (x.coveredCount path) = x.tier then x.ceiling
        else x.plan.ceilingAt x.rate (x.plan.tierFor (x.coveredCount path)) } := by
  unfold Session.retier
  by_cases h : x.plan.tierFor (x.coveredCount path) = x.tier <;> simp only [h, if_true, if_false]

/-- The covered count counts the COVERED sheets of the path that carry the session's serial. -/
theorem Session.coveredCount_eq (x : Session) (path : List Sheet) :
    x.coveredCount path = min 65535 (x.covered.toList.sum +
      (path.filter fun e => decide (e.serial = some x.serial) && e.isCovered).length) := by
  have same : (fun e : Sheet => e.isCovered && e.carries x.serial) =
      fun e => decide (e.serial = some x.serial) && e.isCovered := by
    funext e
    simp [Sheet.carries, Bool.and_comm]
  rw [Session.coveredCount, List.countP_eq_length_filter, same]

/-- A tier update leaves the tier that the covered count reaches. -/
theorem Session.retier_tiered (x : Session) (path : List Sheet) : x.Tiered (x.retier path) path := by
  rw [Session.retier_eq]
  exact ⟨by rw [Session.coveredCount_eq], rfl⟩

/-- What a hand-over does to the session's record, whatever the pause evaluation then makes of its phase. -/
theorem Session.release_retier_released (x : Session) (path : List Sheet) (phase : Phase) (forced : Bool) :
    x.Released { (x.release path).retier [] with phase := phase, forced := forced } path := by
  refine ⟨⟨((x.release path).retier []).tier, ((x.release path).retier []).ceiling, phase, forced, ?_⟩, ?_⟩
  · have carried : (fun e : Sheet => e.carries x.serial) = fun e => decide (e.serial = some x.serial) := rfl
    rw [← carried, Session.retier_eq]
    rfl
  · have tiered := ((x.release path).retier_tiered [])
    exact ⟨tiered.1, tiered.2⟩

/-! ### The pause evaluation (R93 to R96, R102) -/

theorem State.evaluatePause_of_none {s : State} {i : StationId} (h : (s.station i).session = none) (byExtend : Bool) :
    s.evaluatePause i byExtend = s := by
  unfold State.evaluatePause
  rw [h]

theorem State.evaluatePause_of_not_copying {s : State} {i : StationId} {x : Session}
    (h : (s.station i).session = some x) (idle : x.copying = false) (byExtend : Bool) :
    s.evaluatePause i byExtend = s := by
  unfold State.evaluatePause
  rw [h]
  simp [idle]

/-- A pause evaluation at a session that copies leaves its record but for phase and FORCED, and the station's pause
timer, reader and notices as R93 to R102 say; nothing else of the station changes. -/
theorem State.evaluatePause_follows {s : State} {i : StationId} {x : Session} (h : (s.station i).session = some x)
    (copying : x.copying = true) :
    ∃ phase forced timer reader,
      (s.evaluatePause i false).station i = { s.station i with
        session := some { x with phase := phase, forced := forced }, pauseTimer := timer, reader := reader } ∧
      (s.station i).PauseFollows ((s.evaluatePause i false).station i) s.now x
        { x with phase := phase, forced := forced } ∧
      (s.evaluatePause i false).notices =
        pauseNotices (s.station i) i x { x with phase := phase, forced := forced } s.notices := by
  unfold State.evaluatePause
  simp only [h, copying, if_true, Bool.false_eq_true, if_false]
  by_cases pause : x.pauseCondition (s.station i).profile = true <;> by_cases active : x.phase = .active <;>
    simp only [pause, active, if_true, if_false, Bool.false_eq_true]
  · refine ⟨.holding, x.forced, some (s.now + 1000 * (s.station i).profile.pauseAck),
      (s.station i).reader.produce (.paused (x.available / 10)), ?_, ?_, ?_⟩
    · simp only [State.enterHolding, State.station_indicate_self, State.station_postAt, State.station_modStation_self]
    · have same : ({ x with phase := .holding } : Session).pauseCondition (s.station i).profile = true := pause
      simp only [Station.PauseFollows, same, active, if_true, State.enterHolding, State.station_indicate_self,
        State.station_postAt, State.station_modStation_self]
      exact ⟨trivial, trivial, trivial, rfl⟩
    · have same : ({ x with phase := .holding } : Session).pauseCondition (s.station i).profile = true := pause
      simp only [pauseNotices, same, active, and_self, if_true]
      rfl
  · refine ⟨x.phase, x.forced, (s.station i).pauseTimer, (s.station i).reader, by rw [← h], ?_, ?_⟩
    · simp only [Station.PauseFollows, pause, active, if_true, if_false]
      exact ⟨trivial, trivial, trivial, trivial⟩
    · simp only [pauseNotices, pause, active, and_false, if_false]
  · refine ⟨x.phase, x.forced, (s.station i).pauseTimer, (s.station i).reader, by rw [← h], ?_, ?_⟩
    · unfold Station.PauseFollows
      rw [if_neg pause, if_pos active]
      exact ⟨rfl, rfl, rfl, rfl⟩
    · simp only [pauseNotices, pause, false_and, if_false, Bool.false_eq_true]
  · refine ⟨.active, false, none, (s.station i).reader.produce (.accept x.hold), ?_, ?_, ?_⟩
    · simp only [State.liftPause, Bool.false_eq_true, if_false, State.station_indicate_self,
        State.station_modStation_self]
    · have same : ¬ ({ x with phase := .active, forced := false } : Session).pauseCondition
          (s.station i).profile = true := pause
      simp only [Station.PauseFollows, same, active, if_false, State.liftPause, Bool.false_eq_true,
        State.station_indicate_self, State.station_modStation_self]
      exact ⟨trivial, trivial, trivial, trivial⟩
    · have same : ¬ ({ x with phase := .active, forced := false } : Session).pauseCondition
          (s.station i).profile = true := pause
      simp only [pauseNotices, same]
      rfl

/-! ### Jam records (R110) -/

/-- Sheets that enter a jam record raise its in-doubt count; its list aside nothing else of it changes. -/
theorem JamRecord.absorb_fold (r : JamRecord) (path : List Sheet) (fits : r.inDoubt + path.length ≤ 4294967295) :
    path.foldl JamRecord.absorb r = { r with
      inDoubt := r.inDoubt + path.length
      listed := (path.foldl JamRecord.absorb r).listed } := by
  induction path generalizing r with
  | nil => rfl
  | cons e path ih =>
      have one : (r.absorb e).inDoubt = r.inDoubt + 1 := by
        simp only [JamRecord.absorb, satAdd, Config.top32]
        simp only [List.length_cons] at fits
        omega
      have rest := ih (r.absorb e) (by rw [one]; simp only [List.length_cons] at fits; omega)
      rw [List.foldl_cons, rest, one]
      simp only [JamRecord.absorb, List.length_cons, Nat.add_assoc, Nat.add_comm 1]

/-! ### Tested reads (R129, R130) -/

theorem State.testedRead_of_free {s : State} {n : Nat} (h : s.slot n = none) : s.testedRead n = (s, .free) := by
  unfold State.testedRead
  rw [h]

/-- A SUSPECT slot is not tested. -/
theorem State.testedRead_of_suspect {s : State} {n : Nat} {a : Slot} (h : s.slot n = some a)
    (suspect : a.suspect = true) : s.testedRead n = (s, .suspect a) := by
  unfold State.testedRead
  simp only [h, suspect, if_true]

theorem State.testedRead_of_sound {s : State} {n : Nat} {a : Slot} (h : s.slot n = some a)
    (known : a.suspect = false) (sound : a.damage = .sound) : s.testedRead n = (s, .content a) := by
  unfold State.testedRead
  simp only [h, known, sound, Bool.false_eq_true, if_false]

/-- Correctable damage is written back and noted. -/
theorem State.testedRead_of_correctable {s : State} {n : Nat} {a : Slot} (h : s.slot n = some a)
    (known : a.suspect = false) (damage : a.damage = .correctable) :
    s.testedRead n =
      (({ s with slots := putSlot n { a with damage := .sound } s.slots, lastCorrected := some n } :
        State).post .memoryCorrected 0, .content { a with damage := .sound }) := by
  unfold State.testedRead
  simp only [h, known, damage, Bool.false_eq_true, if_false]

/-- Uncorrectable damage makes the slot SUSPECT. -/
theorem State.testedRead_of_uncorrectable {s : State} {n : Nat} {a : Slot} (h : s.slot n = some a)
    (known : a.suspect = false) (damage : a.damage = .uncorrectable) :
    s.testedRead n =
      (({ s with slots := putSlot n { a with suspect := true } s.slots, lastFault := some n } :
        State).post .memoryFault 0, .suspect { a with suspect := true }) := by
  unfold State.testedRead
  simp only [h, known, damage, Bool.false_eq_true, if_false]

/-! ### Postings and reservations -/

/-- Where every entry is within its scope, a posting of one within its scope makes it pending (R172). -/
theorem mem_insertNotice_self {n : Notice} (inScope : n.Scoped) :
    ∀ {l : List Notice}, (∀ m ∈ l, m.Scoped) → n ∈ insertNotice n l
  | [], _ => by simp [insertNotice]
  | m :: rest, kept => by
      have within := kept m List.mem_cons_self
      have inner := mem_insertNotice_self inScope fun k hk => kept k (List.mem_cons_of_mem m hk)
      unfold insertNotice
      split
      · exact List.mem_cons_self
      · split
        · rename_i same
          have : n = m := by
            obtain ⟨kind, station⟩ := n
            obtain ⟨kind', station'⟩ := m
            obtain ⟨bound, zero⟩ := inScope
            obtain ⟨bound', zero'⟩ := within
            simp only [Notice.rank] at same
            cases kind <;> cases kind' <;>
              simp [NoticeKind.priority, NoticeKind.forDevice] at same zero zero' bound bound' ⊢ <;> omega
          rw [this]
          exact List.mem_cons_self
        · exact List.mem_cons_of_mem m inner

/-- A reservation raises their count by one, and posts JOURNAL-LOW exactly where it brings the free count from 33 down
to 32 (R153, R160). -/
theorem State.reserve_eq (s : State) :
    s.reserve = { s with
      reservations := s.reservations + 1
      notices := if s.journal.length + s.reservations = 479 then insertNotice ⟨.journalLow, 0⟩ s.notices
        else s.notices } := by
  have free : ∀ t : State, t.freeRecords = 512 - t.journal.length - t.reservations := fun _ => rfl
  unfold State.reserve State.journalLowFrom
  simp only [free, Config.journalLow]
  by_cases low : s.journal.length + s.reservations = 479
  · rw [if_pos low, if_pos (by constructor <;> omega)]
    rfl
  · rw [if_neg low, if_neg (by omega)]

/-- What the creation of a session leaves (R52): the session with the next serial, a reservation, and both idle timers
loaded with the session pair. -/
theorem State.createSession_eq (s : State) (i : StationId) (payment : Payment) (hold rate : Nat) (phase : Phase) :
    s.createSession i payment hold rate phase =
      ({ s with sessionSerial := (s.sessionSerial + 1) % 4294967296 } : State).reserve.setStation i { s.station i with
        session := some (newSession ((s.sessionSerial + 1) % 4294967296) payment hold
          (s.plan (s.station i).profile.plan) rate phase s.stamp)
        timerA := loadedTimer s.now (codeSeconds (s.station i).profile.sessionA)
        timerB := loadedTimer s.now (codeSeconds (s.station i).profile.sessionB) } := by
  have kept (t : State) : t.reserve.now = t.now ∧ ∀ j, t.reserve.station j = t.station j := by
    rw [State.reserve_eq]
    exact ⟨rfl, fun _ => rfl⟩
  simp only [State.createSession, State.setSession, State.reloadBoth, State.modStation, State.station_setStation_self,
    State.setStation_setStation, State.setStation_now, kept]
  rfl

/-! ### Quiet stations and RECOVER -/

/-- A station whose timers have just been reloaded is not quiet (R41, R42). -/
theorem Station.not_quiet_of_loaded {st : Station} {now : Nat} (a : st.timerA = loadedTimer now (st.duration .a))
    (b : st.timerB = loadedTimer now (st.duration .b)) : st.quiet = false := by
  unfold Station.quiet
  rw [a, b]
  cases st.duration .a <;> cases st.duration .b <;> simp [loadedTimer]

/-- A station that is not quiet stays as it is at the end of an event (R42). -/
theorem State.endEvent_of_not_quiet {s : State} {i : StationId} (h : (s.station i).quiet = false) (before : StationState) :
    s.endEvent i before = s := by
  simp [State.endEvent, State.quietTest, h]

/-! ### The pieces of a restart (R180) -/

/-- The pieces of a restart follow one another: `n + 1` of them are `n` of them and the next. -/
theorem State.restartSteps_succ (n : Nat) (s : State) :
    State.restartSteps (n + 1) s = (State.restartSteps n s).restartStep := by
  induction n generalizing s with
  | zero => rfl
  | succ n ih => rw [State.restartSteps, ih]; rfl

end Sys2Proof.Machine
end

