-- ==== Sys2Proof/Tests/Slice0.lean ====
section
/-! SUPPORT. Tests: ill-formed terms refused, worked values and worked sequences of the spec, each on one command or
one operation, and for every statement that has hypotheses a state and operands that meet them. -/

namespace Sys2Proof.Tests

open Sys2Proof Sys2Proof.Machine

-- One test after another: tests that ask the kernel each hold a thread while they wait for it.
set_option Elab.async false

/-! ## States the tests are made on -/

/-- The part after one command. -/
def after (s : State) (c : Instr) : State :=
  match exec c s with
  | .next t => t
  | _ => s

/-- The part after reset with station 1 as given, and no notice pending. -/
def hall (st : Station) : State := { State.reset.setStation 0 st with notices := [] }

/-- Plan 2 of the worked case of 04. -/
def plan2 : Plan where
  base := #v[80, 140, 160, 280, 450, 850, 900, 1700]
  thresholds := #v[50, 200, 1000]
  discounts := #v[0, 100, 150, 250]

/-- A COUNTER session on plan 2 at rate 90 with a hold of 500 cents, ACTIVE. -/
def copier : Session := newSession 41 (.counter 7) 500 plan2 90 .active 0

/-- A recognized level that stands. -/
def standing (level : Bool) : LineState where
  raw := level
  level := level
  timing := none

/-- A READY station of the default profile with READY asserted, both idle timers as after a reload. -/
def readyStation : Station :=
  { Station.reset with
    state := .ready
    lines := { Lines.reset with ready := standing true }
    timerA := .running 300000 }

/-- That station with a session and a path. -/
def busy (x : Session) (path : List Sheet) : Station := { readyStation with session := some x, path := path }

/-- A COVERED sheet of kind 0 at 72 tenths of session 41. -/
def sheet (number fedAt : Nat) : Sheet := ⟨number, 0, fedAt, .covered 72, some 41⟩

/-- A sheet fed with no session. -/
def stray (number : Nat) : Sheet := ⟨number, 2, 0, .unpermitted, none⟩

/-- The sound prepaid account of 07's worked repair, slot 1,207. -/
def prepaid : Slot where
  identity := 7000420015
  suspect := false
  damage := .sound
  account :=
    { blocked := false, rate := 90, figures := .prepaid 2400, held := 0, openCount := 0, lastUse := 0 }

/-- A department account as slot 905 of 07, in period 14. -/
def department : Slot where
  identity := 3300118402
  suspect := false
  damage := .sound
  account :=
    { blocked := false, rate := 80, figures := .department 10000 9200 14, held := 500, openCount := 1, lastUse := 0 }

/-- The profile bytes of the defaults of R35. -/
def defaultFields : ProfileFields where
  plan := 0
  presetHold := 500
  minOpening := 50
  allowance := 1
  basis := 0
  walkInRate := 100
  transitLimit := 10
  purgeWindow := 20
  authTimeout := 45
  pauseAck := 3
  pulseWindow := 3
  levelWindow := 50
  sessionA := 5
  sessionB := 4
  idleA := 7
  idleB := 0
  linkCard := 0
  linkFeed := 1
  linkDeliver := 1
  linkReadyRise := 0
  linkHost := 0
  autoStart := 0

/-! ## Ill-formed terms -/

theorem test_ill_period_alarm : (Instr.setPeriodAlarm 1 none).wellFormed = false := by decide
theorem test_ill_period_alarm_absent : (Instr.setPeriodAlarm 0 (some 5)).wellFormed = false := by decide
theorem test_ill_load_plan : (Instr.loadPlan 0 [1, 2, 3]).wellFormed = false := by decide
theorem test_ill_amend_plan : (Instr.amendPlan 0 5 [1]).wellFormed = false := by decide
theorem test_ill_load_account : (Instr.loadAccount 0 0 2 1 0 [1]).wellFormed = false := by decide
theorem test_ill_frame_body : (Instr.hostFrameComplete 1 (List.replicate 241 0) 0).wellFormed = false := by
  decide +kernel
theorem test_ill_length_byte : (Instr.hostBadLengthByte 241).wellFormed = false := by decide
theorem test_ill_identity : (Instr.cardFrame 0 (.campus 10000000000)).wellFormed = false := by decide

/-! ## Worked values of the spec -/

/-- R187's example. -/
theorem test_crc_digits :
    crc16 [0x31, 0x32, 0x33, 0x34, 0x35, 0x36, 0x37, 0x38, 0x39] = 0x29B1#16 := by decide +kernel

/-- 04, "Worked case: plan 2 at rate 90", tiers 0 and 1. -/
theorem test_prices_tier0 : allKinds.map (plan2.priceAt 90 0) = [72, 126, 144, 252, 405, 765, 810, 1530] := by
  decide +kernel

theorem test_prices_tier1 : allKinds.map (plan2.priceAt 90 1) = [65, 113, 130, 227, 365, 689, 729, 1377] := by
  decide +kernel

/-- R70's table. -/
theorem test_cents : [0, 4, 5, 3244, 3245, 4900, 5000].map (fun n => ({ copier with charged := n } : Session).chargeCents)
    = [0, 0, 1, 324, 325, 490, 500] := by decide +kernel

/-- 11, "Worked example: one SETTLE record": the payment field, the money, the reason and the flags. -/
theorem test_settle_record :
    let r : SettleRecord := { serial := 70041, opened := 1, closed := 2, station := 1, sessionSerial := 9120, paidBy := .campus 212 4001552837, hold := 500, charged := 325, covered := #v[0, 0, 0, 0, 0, 0, 0, 0], uncovered := 0, uncoveredValue := 0, unpermitted := 0, jammed := 0, extendCount := 0, reason := .customer, clamped := false, forced := false, parked := false }
    (r.bytes.drop 17).take 16 = [1, 0xD4, 0x00, 0xC5, 0xD9, 0x82, 0xEE, 0x00, 0xF4, 0x01, 0x00, 0x00, 0x45, 0x01, 0x00, 0x00] ∧
      r.bytes.drop 82 = [1, 0] ∧ r.bytes.length = 84 := by decide +kernel

/-- R191's sum of a CAMPUS summary. -/
theorem test_summary_length :
    (summaryBytes 0 (some { copier with payment := .campus 1, lastKind := some 0 })).length = 91 := by decide +kernel

/-- R189: the END frame, and a CARD frame read from its bytes; the check byte is outside the start byte. -/
theorem test_end_frame : readReaderFrame 2 [0x32, 0x5A, 0x68] = .endFrame 2 := by decide +kernel

theorem test_card_frame :
    readReaderFrame 0 [0x31, 1, 0xC5, 0xD9, 0x82, 0xEE, 0x00, 0x5A, 0x31 ^^^ 1 ^^^ 0xC5 ^^^ 0xD9 ^^^ 0x82 ^^^ 0xEE ^^^ 0x5A] =
      .cardFrame 0 (.campus 4001552837) := by decide +kernel

theorem test_card_bad_check :
    readReaderFrame 0 [0x31, 1, 0xC5, 0xD9, 0x82, 0xEE, 0x00, 0x5A, 0] = .malformedFrame 0 := by decide +kernel

/-! ## The host line -/

theorem test_request_bytes : parseRequest 0x20 [3, 0x2C, 0x01, 0, 0, 9, 0, 0, 0] = .request (.openSession 3 300 9) := by
  decide +kernel

theorem test_bad_length : parseRequest 0x12 [] = .badLength := by decide +kernel
theorem test_unknown_kind : parseRequest 0x18 [] = .unknownKind := by decide +kernel

/-- R163: the fifth queued frame is dropped. -/
theorem test_queue_full :
    let s := { State.reset with receiveQueue := List.replicate 4 ⟨1, [], true⟩ }
    ((after s (.hostFrameComplete 1 [] 0)).receiveQueue.length, (after s (.hostFrameComplete 1 [] 0)).linkOverrun) =
      (4, true) := by decide +kernel

/-! ## Copying (01, 05) -/

/-- 05, "running down a hold under WORST": sheet 27 makes the session HOLDING and shows 305 cents. -/
theorem test_feed_pauses :
    let t := after (hall (busy { copier with charged := 1872, covered := #v[26, 0, 0, 0, 0, 0, 0, 0] } [])) (.feed 0)
    ((t.station 0).session.map fun x => (x.phase, x.pending, x.available)) = some (.holding, 72, 3056) ∧
      (t.station 0).reader.sending = some (.paused 305) := by decide +kernel

/-- 05, "running down a hold under LAST", step 4: a sheet of 65 with 35 available is UNCOVERED. -/
theorem test_feed_uncovered :
    let x := { copier with charged := 4835, pending := 130, tier := 1, lastKind := some 0, phase := .holding, covered := #v[69, 0, 0, 0, 0, 0, 0, 0] }
    (((after (hall (busy x [⟨5, 0, 0, .covered 65, some 41⟩, ⟨6, 0, 0, .covered 65, some 41⟩])) (.feed 0)).station 0).path.map
      Sheet.coverage) = [.covered 65, .covered 65, .uncovered 65] := by decide +kernel

/-- 01, "a path overrun": the ninth sheet jams all nine, numbers wrapping. -/
theorem test_overrun :
    let st := { readyStation with lastSheet := 5, path := [65534, 65535, 0, 1, 2, 3, 4, 5].map stray }
    let t := (after (hall st) (.feed 0)).station 0
    (t.path, t.meters.jammed, t.lastSheet) = ([], 9, 6) ∧
      t.jam.map (fun r => (r.cause, r.inDoubt, r.listed.map DoubtSheet.number)) =
        some (.overrun, 9, [65534, 65535, 0, 1, 2, 3, 4, 5, 6]) := by decide +kernel

/-- 01, "a silent stall at station 3", at 12,100: the transit jam passes through JAMMED into RECOVER. -/
theorem test_transit_expiry :
    let t := after (hall (busy { copier with charged := 477, pending := 72 } [sheet 120 2100])) (.transitExpiry 0)
    (t.now, (t.station 0).state, (t.station 0).session.map fun x => (x.charged, x.pending, x.jammed)) =
      (12100, .recover, some (477, 0, 1)) := by decide +kernel

/-- 06's worked sequence at 46: a second jam folds into the record. -/
theorem test_fold :
    let r : JamRecord := { serial := 41, cause := .line, stamp := 3, inDoubt := 3, listed := [], purged := 2, repeats := 0, lost := none }
    let t := (after (hall { readyStation with state := .recover, jam := some r, path := [stray 304], purgeTimer := some 60000 })
      (.jamRise 0)).station 0
    (t.state, t.purgeTimer) = (.jammed, none) ∧
      t.jam.map (fun r => (r.serial, r.inDoubt, r.purged, r.repeats)) = some (41, 4, 2, 1) := by decide +kernel

/-- 06's worked sequence at 90: the record closes with lost 2. -/
theorem test_purge_window :
    let r : JamRecord := { serial := 41, cause := .line, stamp := 3, inDoubt := 4, listed := [], purged := 2, repeats := 1, lost := none }
    let t := (after (hall { readyStation with state := .recover, jam := some r, purgeTimer := some 90000 })
      (.purgeWindowExpiry 0)).station 0
    (t.state, t.jam.map JamRecord.lost, t.meters.lost, t.meters.purged) = (.ready, some (some 2), 2, 2) := by decide +kernel

/-! ## Sessions and accounts (03, 07) -/

/-- 02's walk-away, at 70: A expires with B expired, the session settles and A runs to 370. -/
theorem test_walk_away :
    let st := { busy copier [] with timerA := .running 70000, timerB := .expired }
    let t := after (hall st) (.idleTimerExpiry 0 .a)
    ((t.station 0).session, (t.station 0).timerA, (t.station 0).timerB) = (none, .running 370000, .stopped) := by
  decide +kernel

/-- 03, "a late authorization", at 70: an approval of 800 gives the preset hold. -/
theorem test_auth_result :
    let x := { copier with payment := .bank 3018 5, hold := 0, phase := .authorizing }
    let t := after (hall (busy x [])) (.authResult 1 3018 800)
    (t.station 0).session.map (fun x => (x.phase, x.hold)) = some (.active, 500) ∧
      t.reply.map Reply.body = some [0, 1, 0xF4, 1, 0, 0] := by decide +kernel

/-- 07, "a period turn", step 3: the grant aligns the slot. -/
theorem test_grant_aligns :
    let s := { hall readyStation with slots := [(905, department)], period := 15 }
    ((after s (.cardFrame 0 (.campus 3300118402))).slot 905).map (fun x => (x.account.figures, x.account.held, x.account.openCount)) =
      some (.department 10000 0 15, 1000, 2) := by decide +kernel

/-- 07, "a damaged prepaid account", step 1: the scrub finds it uncorrectable. -/
theorem test_scrub_suspect :
    let s := { State.reset with slots := [(1207, { prepaid with damage := .uncorrectable })], scrubPosition := 1207 }
    let t := after s .scrubVisit
    ((t.slot 1207).map Slot.suspect, t.lastFault, t.scrubPosition, t.now) = (some true, some 1207, 1208, 250) := by
  decide +kernel

/-- 04, "amending plan 2": its first and last rows. -/
theorem test_amend_bad_plan :
    let s := { State.reset with plans := State.reset.plans.set 2 plan2 }
    (after s (.amendPlan 2 0x0200 [0])).reply.map Reply.body = some [5] := by decide +kernel

theorem test_amend_bad_value :
    let s := { State.reset with plans := State.reset.plans.set 2 plan2 }
    (after s (.amendPlan 2 0x1080 [1800, 950])).reply.map Reply.body = some [4] := by decide +kernel

/-! ## Supply and restart (08, 10) -/

/-- R186: READY and JAM asserted at the end of a restart are recognized one level window later, READY first. -/
theorem test_ready_before_jam :
    let timed : LineState := ⟨true, false, some ⟨0, false⟩⟩
    let s := hall { Station.reset with state := .notReady, lines := { Lines.reset with ready := timed, jam := timed } }
    ({ s with now := 50 } : State).due = some (.readyRise 0) := by decide +kernel

/-- The state after reset is what a restart makes of a part whose retained domain is lost (log 1). -/
theorem test_reset_is_a_restart :
    after { State.reset with marker := false, mainSupply := false, journal := [], notices := [], scrubDue := none }
      (.supplyReturn none) = State.reset := by decide +kernel

/-- 08, "restarts on a full journal", step 2: the restart coalesces. -/
theorem test_coalesce :
    coalesceNewest 9 .supply 0 [.restart ⟨40512, 1, .pin, 1, 0⟩, .restart ⟨40513, 5, .pin, 1, 0⟩] =
      [.restart ⟨40512, 1, .pin, 1, 0⟩, .restart ⟨40513, 9, .supply, 2, 0⟩] := by decide +kernel

/-- 10, "a supply failure in a busy hall", station 3: the close reason is kept, the path is lost. -/
theorem test_restart_settles :
    let x := { copier with hold := 300, charged := 2016, pending := 72, phase := .closing .customer, suspended := true }
    let s := { hall (busy x [sheet 9 0]) with device := .shutdown, mainSupply := false, reservations := 1, journal := [] }
    let t := after s (.supplyReturn none)
    (t.journal.map fun r => match r with | .settle r => (r.charged, r.jammed) | .restart r => (r.settled, r.repeats)) =
      [(202, 1), (1, 1)] ∧ (t.station 0).meters.lost = 1 := by decide +kernel

/-! ## Witnesses: for every statement with hypotheses, a state and operands that meet them, clause by clause -/

theorem serves (st : Station) : (hall st).Serving := ⟨⟨rfl, rfl, rfl⟩, rfl⟩

theorem runs (st : Station) : (hall st).running = true := rfl

theorem witness_StepRunsFrontCommand :
    ({ State.reset with pending := [.turnPeriod, .reset] } : State).pending = [.turnPeriod, .reset] := rfl

theorem witness_ExecKeepsQueue :
    ∃ t, exec .turnPeriod { State.reset with pending := [.reset] } = .next t := ⟨_, rfl⟩

/-- The bad length bytes 0 and 242, a body of 240 bytes. -/
theorem witness_HostFramesAssemble :
    State.reset.alive = true ∧ ((0 : Byte).toNat = 0 ∨ 241 < (0 : Byte).toNat) ∧
      ((242 : Byte).toNat = 0 ∨ 241 < (242 : Byte).toNat) ∧ (List.replicate 240 (0 : Byte)).length ≤ 240 := by
  decide +kernel

/-- A bad frame, an unknown kind below and above 128, a body too long, a queued request with another frame behind. -/
theorem witness_TakenFramesAnswered :
    State.reset.alive = true ∧ State.reset.reply = none ∧
      ({ State.reset with receiveQueue := [⟨1, [], false⟩] } : State).receiveQueue = ⟨1, [], false⟩ :: [] ∧
      requestFields 0x18 [] = none ∧ requestFields 0xFF [] = none ∧
      requestFields 0x12 [1, 2] ≠ none ∧ bodyFits 0x12 [1, 2] = false ∧
      requestCode (.startStation 1) = some 0x12 ∧ (Instr.startStation 1).wellFormed = true ∧
      ({ State.reset with receiveQueue := [⟨0x12, [1], true⟩, ⟨1, [], true⟩] } : State).receiveQueue =
        ⟨0x12, requestBody (.startStation 1), true⟩ :: [⟨1, [], true⟩] := by decide +kernel

theorem witness_RequestsWaitOrAreRefused :
    requestCode .turnPeriod = some 0x04 ∧ State.reset.alive = true ∧
      ({ State.reset with reply := some ⟨0x81, [0], false⟩ } : State).reply ≠ none ∧
      ({ State.reset with receiveQueue := List.replicate 4 ⟨1, [], true⟩ } : State).receiveQueue ≠ [] ∧
      Instr.turnPeriod.wellFormed = true ∧ ({ State.reset with device := .shutdown } : State).LineFree ∧
      Instr.turnPeriod ≠ .getStatus ∧ Instr.turnPeriod ≠ .takeNotice ∧ Instr.turnPeriod ≠ .reset :=
  ⟨rfl, rfl, by decide +kernel, by decide +kernel, rfl, ⟨rfl, rfl, rfl⟩, nofun, nofun, nofun⟩

theorem witness_EveryRequestIsAnswered :
    requestCode (.quote 2 90 1 0) = some 0x33 ∧ (Instr.quote 2 90 1 0).wellFormed = true ∧ State.reset.LineFree :=
  ⟨rfl, rfl, rfl, rfl, rfl⟩

theorem witness_RequestRoundTrip :
    requestCode (.loadAccount 4095 9999999999 2 1 250 [9999999, 0]) = some 0x40 ∧
      (Instr.loadAccount 4095 9999999999 2 1 250 [9999999, 0]).wellFormed = true := by decide +kernel

theorem witness_ReaderFrameRoundTripAndCheck :
    (Instr.cardFrame 7 (.campus 9999999999)).wellFormed = true ∧ (Instr.cardFrame 0 (.bank 1)).wellFormed = true ∧
      (Instr.endFrame 0).wellFormed = true := by decide +kernel

/-- An alarm one second ahead of the new stamp, and one at it. -/
theorem witness_SetTimeTakesStamp :
    State.reset.Serving ∧ (∀ a, ({ State.reset with alarm := some 101 } : State).alarm = some a → (100 : BitVec 32).toNat < a) ∧
      ({ State.reset with alarm := some 100 } : State).alarm = some 100 ∧ 100 ≤ (100 : BitVec 32).toNat :=
  ⟨⟨⟨rfl, rfl, rfl⟩, rfl⟩, by rintro a ⟨⟩; decide, rfl, by decide⟩

theorem witness_PeriodRequests :
    State.reset.Serving ∧ 1 < (2 : Byte).toNat ∧ State.reset.stamp < (1 : BitVec 32).toNat ∧
      (0 : BitVec 32).toNat ≤ State.reset.stamp := ⟨⟨⟨rfl, rfl, rfl⟩, rfl⟩, by decide, by decide, by decide⟩

theorem witness_DeviceRequests :
    (hall (busy copier [])).Serving ∧ (hall (busy copier [])).sessions ≠ [] ∧ (hall readyStation).sessions = [] ∧
      ({ State.reset with device := .shutdown } : State).LineFree :=
  ⟨serves _, by decide +kernel, by decide +kernel, rfl, rfl, rfl⟩

theorem witness_ResetRestartsAfterReply :
    State.reset.LineFree ∧ State.reset.alive = true ∧
      ({ State.reset with reply := some ⟨0x81, [0], false⟩ } : State).reply = some ⟨0x81, [0], false⟩ ∧
      ({ State.reset with reply := some ⟨0x86, [0], true⟩ } : State).reply = some ⟨0x86, [0], true⟩ :=
  ⟨⟨rfl, rfl, rfl⟩, rfl, rfl, rfl⟩

/-- A pending set with nothing enabled, and one whose first enabled entry is not its first. -/
theorem witness_TakeNoticeByPriority :
    let s : State := { State.reset with notices := [⟨.jam, 3⟩, ⟨.stationChange, 1⟩], noticeMask := 0 }
    let t : State := { s with noticeMask := 0x0200 }
    s.LineFree ∧ s.NoticesKept ∧ (∀ n ∈ s.notices, s.enabled n = false) ∧
      (⟨.stationChange, 1⟩ ∈ t.notices ∧ t.enabled ⟨.stationChange, 1⟩ = true ∧
        ∀ m ∈ t.notices, t.enabled m = true → NoticeKind.stationChange.priority < m.kind.priority ∨
          (NoticeKind.stationChange = m.kind ∧ 1 ≤ m.station)) := by
  refine ⟨⟨rfl, rfl, rfl⟩, ⟨by decide +kernel, ?_⟩, by decide +kernel, by decide +kernel⟩
  unfold Notice.Scoped
  decide +kernel

theorem witness_BadStationRefused :
    State.reset.Serving ∧ ((0 : Byte).toNat = 0 ∨ 8 < (0 : Byte).toNat) ∧ ((9 : Byte).toNat = 0 ∨ 8 < (9 : Byte).toNat) :=
  ⟨⟨⟨rfl, rfl, rfl⟩, rfl⟩, by decide, by decide⟩

theorem witness_SetProfileReplaces :
    (hall readyStation).Serving ∧ (1 : Byte).toNat = (0 : StationId).val + 1 ∧
      ((hall readyStation).station 0).state ≠ .offline ∧ (State.reset.station 0).state = .offline ∧
      profileValid { defaultFields with plan := 8 } = false ∧ profileValid defaultFields = true ∧
      (State.reset.station 0).path = [] := ⟨serves _, by decide +kernel⟩

theorem witness_ReadProfileFields :
    State.reset.Serving ∧ (8 : Byte).toNat = (7 : StationId).val + 1 ∧ (State.reset.station 7).profile = .default :=
  ⟨⟨⟨rfl, rfl, rfl⟩, rfl⟩, by decide +kernel⟩

theorem witness_StartStationStarts :
    let jammed := hall { Station.reset with lines := { Lines.reset with jam := standing true } }
    State.reset.Serving ∧ (1 : Byte).toNat = (0 : StationId).val + 1 ∧ (State.reset.station 0).state = .offline ∧
      (State.reset.station 0).session = none ∧ (State.reset.station 0).lines.jam.level = false ∧
      ((hall readyStation).station 0).state ≠ .offline ∧
      (jammed.station 0).state = .offline ∧ (jammed.station 0).session = none ∧ (jammed.station 0).path = [] ∧
      (jammed.station 0).lines.jam.level = true := ⟨⟨⟨rfl, rfl, rfl⟩, rfl⟩, by decide +kernel⟩

/-- Sessions AUTHORIZING, copying with a sheet in the path, CLOSING; a SAVE station. -/
theorem witness_StopAndWakeStation :
    (hall readyStation).Serving ∧ (1 : Byte).toNat = (0 : StationId).val + 1 ∧ (State.reset.station 0).state = .offline ∧
      ((hall readyStation).station 0).session = none ∧ ((hall readyStation).station 0).state = .ready ∧
      ({ copier with phase := .authorizing } : Session).authorizing = true ∧ copier.copying = true ∧
      ((hall (busy copier [sheet 1 0])).station 0).path ≠ [] ∧
      ({ copier with phase := .closing .customer } : Session).closing = true ∧
      readyStation.duration readyStation.profile.linkHost = some 300 ∧
      ((hall { readyStation with state := .save }).station 0).state = .save := ⟨serves _, by decide +kernel⟩

theorem witness_StationReports :
    (hall (busy copier [])).Serving ∧ (1 : Byte).toNat = (0 : StationId).val + 1 ∧
      ((hall (busy copier [])).station 0).session = some copier ∧ copier.suspended = false ∧
      ((hall readyStation).station 0).session = none ∧ ((hall readyStation).station 0).jam = none ∧
      ((hall { readyStation with jam := some (.opened 1 .line 0) }).station 0).jam = some (.opened 1 .line 0) :=
  ⟨serves _, by decide +kernel⟩

theorem witness_ReadMetersInOrder :
    State.reset.LineFree ∧ State.reset.device = .running ∧ ((9 : Byte).toNat = 0 ∨ 8 < (9 : Byte).toNat) ∧
      ({ State.reset with device := .shutdown } : State).device = .shutdown ∧
      (8 : Byte).toNat = (7 : StationId).val + 1 ∧ (State.reset.station 7).meters = .zero :=
  ⟨⟨rfl, rfl, rfl⟩, by decide +kernel⟩

/-- Amounts 0, 1, the preset hold and one above it; a journal of 510 and of 511 records. -/
theorem witness_OpenSessionCreates :
    (hall readyStation).Serving ∧ (1 : Byte).toNat = (0 : StationId).val + 1 ∧
      (State.reset.station 0).state ≠ .ready ∧ (State.reset.station 0).state ≠ .save ∧
      ((hall (busy copier [])).station 0).session ≠ none ∧
      ((hall readyStation).station 0).state = .ready ∧ ((hall readyStation).station 0).session = none ∧
      (0 : BitVec 32).toInt < 1 ∧ (((hall readyStation).station 0).profile.presetHold : Int) < (501 : BitVec 32).toInt ∧
      1 ≤ (1 : BitVec 32).toInt ∧ (500 : BitVec 32).toInt ≤ ((hall readyStation).station 0).profile.presetHold ∧
      510 < (List.replicate 511 (Record.restart ⟨1, 0, .pin, 1, 0⟩)).length + (hall readyStation).reservations ∧
      (List.replicate 510 (Record.restart ⟨1, 0, .pin, 1, 0⟩)).length + (hall readyStation).reservations ≤ 510 :=
  ⟨serves _, by decide +kernel⟩

theorem witness_EndSessionSettles :
    (hall (busy copier [])).Serving ∧ (1 : Byte).toNat = (0 : StationId).val + 1 ∧
      ((hall readyStation).station 0).session = none ∧
      ({ copier with phase := .authorizing } : Session).authorizing = true ∧
      ({ copier with phase := .closing .host } : Session).closing = true ∧
      ((hall (busy copier [sheet 1 0])).station 0).path ≠ [] ∧
      ((hall (busy copier [])).station 0).session = some copier ∧ copier.copying = true ∧
      ((hall (busy copier [])).station 0).path = [] ∧ copier.payment = .counter 7 ∧ copier.stopPending = false :=
  ⟨serves _, by decide +kernel⟩

/-- A BANK session AUTHORIZING with reference 3,017, as in 03's worked sequence. -/
def waiting : Session := { copier with payment := .bank 3017 5, hold := 0, phase := .authorizing }

theorem witness_ReadAuthRequest :
    (hall (busy waiting [])).Serving ∧ (1 : Byte).toNat = (0 : StationId).val + 1 ∧
      ((hall (busy waiting [])).station 0).session = some waiting ∧ waiting.authorizing = true ∧
      waiting.payment = .bank 3017 5 ∧
      ∀ x, ((hall (busy copier [])).station 0).session = some x → x.authorizing = false :=
  ⟨serves _, by decide, rfl, rfl, rfl, by rintro x ⟨⟩; rfl⟩

/-- A negative amount, an unmatched reference, and amounts 0, 49, 50 with a minimum opening of 50. -/
theorem witness_AuthResultOutcomes :
    (hall (busy waiting [])).Serving ∧ (1 : Byte).toNat = (0 : StationId).val + 1 ∧
      (0xFFFFFFFF : BitVec 32).toInt < 0 ∧ 0 ≤ (0 : BitVec 32).toInt ∧
      (∀ x, ((hall (busy waiting [])).station 0).session = some x → x.awaits (3016 : BitVec 16).toNat = false) ∧
      ((hall (busy waiting [])).station 0).session = some waiting ∧ waiting.awaits (3017 : BitVec 16).toNat = true ∧
      (49 : BitVec 32).toNat < ((hall (busy waiting [])).station 0).profile.minOpening ∧
      0 < (50 : BitVec 32).toNat ∧ ((hall (busy waiting [])).station 0).profile.minOpening ≤ (50 : BitVec 32).toNat :=
  ⟨serves _, by decide, by decide, by decide, by rintro x ⟨⟩; rfl, rfl, rfl, by decide, by decide, by decide⟩

/-- Plan 2's fields; a discount of 901; thresholds that fall; an amendment of two fields. -/
def fields2 : List (BitVec 16) := [80, 140, 160, 280, 450, 850, 900, 1700, 50, 200, 1000, 0, 100, 150, 250]

theorem witness_PlansReplaced :
    State.reset.Serving ∧ (fields2.length = 15 ∧ 7 < (8 : Byte).toNat ∧ (7 : Byte).toNat ≤ 7 ∧
      (∃ d ∈ (fields2.set 14 901).drop 11, 900 < d.toNat) ∧ (∀ d ∈ fields2.drop 11, d.toNat ≤ 900)) ∧
      (Plan.ofFields ((fields2.set 9 1001).map BitVec.toNat)).valid = false ∧
      (Plan.ofFields (fields2.map BitVec.toNat)).valid = true ∧
      ([0, 901] : List (BitVec 16)).length = namedFields 0x1200 ∧ (0x1200 : BitVec 16).getLsbD 15 = false ∧
      carriesBadDiscount 0x1200 [0, 901] = true ∧ carriesBadDiscount 0x1200 [0, 900] = false ∧
      (plan2.amend 0x0200 [0]).valid = false ∧ (plan2.amend 0x0600 [0, 0]).valid = true := by
  have allowed : (fields2.drop 11).all (fun d => decide (d.toNat ≤ 900)) = true := by decide +kernel
  refine ⟨⟨⟨rfl, rfl, rfl⟩, rfl⟩, ⟨rfl, by decide, by decide, ⟨901, by decide, by decide⟩, ?_⟩, by decide +kernel⟩
  exact fun d h => of_decide_eq_true (List.all_eq_true.mp allowed d h)

theorem witness_ReadPlanFields :
    State.reset.LineFree ∧ ({ State.reset with device := .shutdown } : State).LineFree ∧ State.reset.device = .running ∧
      7 < (8 : Byte).toNat ∧ ∃ _ : (7 : Byte).toNat < 8, State.reset.plans[(7 : Byte).toNat] = .default :=
  ⟨⟨rfl, rfl, rfl⟩, ⟨rfl, rfl, rfl⟩, rfl, by decide, by decide, rfl⟩

/-- Plan, rate, tier and kind at their limits and one above; an absent and a present threshold; a valid plan. -/
theorem witness_Pricing :
    let s : State := { State.reset with plans := State.reset.plans.set 2 plan2 }
    s.Serving ∧ 7 < (8 : Byte).toNat ∧ 250 < (251 : Byte).toNat ∧ 3 < (4 : Byte).toNat ∧ (250 : Byte).toNat ≤ 250 ∧
      s.plans[0].threshold (3 : Byte).toNat = 0 ∧ s.plans[2].threshold (3 : Byte).toNat ≠ 0 ∧ plan2.valid = true :=
  ⟨⟨⟨rfl, rfl, rfl⟩, rfl⟩, by decide +kernel⟩

/-- The first bad slot; a FREE slot; the largest figures; an identity another slot holds; a slot in use by a session. -/
theorem witness_LoadAccountChecked :
    let s := { hall (busy { copier with payment := .campus 1207 } []) with slots := [(1207, prepaid)] }
    s.Serving ∧ 4095 < (4096 : BitVec 16).toNat ∧ (4095 : BitVec 16).toNat < 4096 ∧
      (9999999999 : BitVec 40).toNat ≤ 9999999999 ∧ ((2 : Byte) = 1 ∨ (2 : Byte) = 2) ∧ (250 : Byte).toNat ≤ 250 ∧
      s.slot 4095 = none ∧ s.bound 4095 = [] ∧ s.lookup 9999999999 = none ∧ (9999999 : BitVec 32).toNat ≤ 9999999 ∧
      s.lookup (7000420015 : BitVec 40).toNat = some 1207 ∧ 1207 ≠ (4095 : BitVec 16).toNat ∧
      s.slot (1207 : BitVec 16).toNat = some prepaid ∧ prepaid.suspect = false ∧ s.bound (1207 : BitVec 16).toNat ≠ [] :=
  ⟨⟨⟨rfl, rfl, rfl⟩, rfl⟩, by decide +kernel⟩

/-- A table of a SUSPECT, a sound prepaid and a sound department slot. -/
def table : List (Nat × Slot) :=
  [(905, department), (1207, prepaid), (4095, { prepaid with identity := 5, suspect := true, damage := .uncorrectable })]

theorem witness_AccountRecordsRead :
    let s : State := { State.reset with slots := table }
    s.Serving ∧ s.SlotsKept ∧ s.IdentitiesDistinct ∧ 4095 < (4096 : BitVec 16).toNat ∧ s.slot 0 = none ∧
      (s.slot 4095).map Slot.suspect = some true ∧ s.slot 1207 = some prepaid ∧ prepaid.damage = .sound ∧
      prepaid.account.figures = .prepaid 2400 ∧ s.slot 905 = some department ∧
      department.account.figures = .department 10000 9200 14 ∧ 9999999999 < (10000000000 : BitVec 40).toNat ∧
      (∀ p ∈ s.slots, p.2.identity ≠ (6 : BitVec 40).toNat) ∧ prepaid.identity = (7000420015 : BitVec 40).toNat :=
  ⟨⟨⟨rfl, rfl, rfl⟩, rfl⟩, show slotsWf table = true by decide +kernel,
    show table.Pairwise _ by decide +kernel, by decide +kernel⟩

theorem witness_TestedReadActs :
    let s : State := { State.reset with slots := [(1, { prepaid with suspect := true }), (2, { prepaid with damage := .correctable }), (3, { prepaid with damage := .uncorrectable })] }
    s.slot 1 = some { prepaid with suspect := true } ∧ s.slot 2 = some { prepaid with damage := .correctable } ∧
      s.slot 3 = some { prepaid with damage := .uncorrectable } ∧ prepaid.suspect = false ∧ prepaid.damage = .sound := by
  decide +kernel

/-- Top-ups to the largest balance and one above; limits at and below what is spent and held. -/
theorem witness_AccountsAmended :
    let s : State := { State.reset with slots := table, period := 14 }
    s.Serving ∧ 4095 < (4096 : BitVec 16).toNat ∧ (∀ x, s.slot 0 = some x → x.suspect = true) ∧
      s.slot 1207 = some prepaid ∧ s.slot 905 = some department ∧ 9999999 < (2400 : Int) + (9997600 : BitVec 32).toInt ∧
      (9999999 : Int) = 2400 + (9997599 : BitVec 32).toInt ∧ prepaid.account.held ≤ 9999999 ∧
      9999999 < (10000000 : BitVec 32).toInt ∧ (9699 : BitVec 32).toInt < (9200 + department.account.held : Nat) ∧
      ((9200 + department.account.held : Nat) : Int) ≤ (9700 : BitVec 32).toInt ∧ ((3 : Byte) ≠ 1 ∧ (3 : Byte) ≠ 2) :=
  ⟨⟨⟨rfl, rfl, rfl⟩, rfl⟩, by decide, nofun, by decide +kernel⟩

theorem witness_DeleteAccountFrees :
    let s := { hall (busy { copier with payment := .campus 905 } []) with slots := table }
    s.Serving ∧ s.SlotsKept ∧ s.IdentitiesDistinct ∧ 4095 < (4096 : BitVec 16).toNat ∧ s.slot 0 = none ∧
      s.slot 905 ≠ none ∧ s.bound 905 ≠ [] ∧ s.slot 1207 = some prepaid ∧ s.bound 1207 = [] ∧
      (7000420015 : BitVec 40).toNat = prepaid.identity ∧
      ({ hall readyStation with slots := table } : State).journal.length + 0 ≤ 510 ∧
      ((hall readyStation).station 0).reader.condition ≠ .waitingIdle ∧ ((hall readyStation).station 0).state = .ready ∧
      ((hall readyStation).station 0).session = none :=
  ⟨⟨⟨rfl, rfl, rfl⟩, rfl⟩, show slotsWf table = true by decide +kernel,
    show table.Pairwise _ by decide +kernel, by decide +kernel⟩

theorem witness_JournalRequests :
    State.reset.Serving ∧ ({ State.reset with journal := [] } : State).journal = [] ∧
      State.reset.journal = .restart ⟨1, 0, .retainLost, 1, 0⟩ :: [] ∧
      (Record.restart ⟨1, 0, .retainLost, 1, 0⟩).serial = (1 : BitVec 32).toNat ∧
      (Record.restart ⟨1, 0, .retainLost, 1, 0⟩).serial ≠ (2 : BitVec 32).toNat ∧
      ∃ r, (after (hall (busy copier [])) (.endSession 1)).journal.drop 1 = .settle r :: [] :=
  ⟨⟨⟨rfl, rfl, rfl⟩, rfl⟩, rfl, rfl, rfl, by decide, ⟨_, rfl⟩⟩

theorem witness_StationEventsAreLocal :
    eventStation (.feed 0) = some 0 ∧ ∃ t, exec (.feed 0) (hall readyStation) = .next t := ⟨rfl, ⟨_, rfl⟩⟩

/-- Levels that differ and agree, with and without a timing; a silent FEED timing. -/
theorem witness_CopierInputsFiltered :
    let s := hall { readyStation with lines := { Lines.reset with feed := ⟨true, false, some ⟨5, true⟩⟩, deliver := standing true } }
    s.running = true ∧ ((s.station 0).lines.get .feed).level = false ∧
      ((s.station 0).lines.get .feed).timing = some ⟨5, true⟩ ∧ ((s.station 0).lines.get .colour).level ≠ true ∧
      ((s.station 0).lines.get .deliver).level ≠ false ∧ ((s.station 0).lines.get .colour).timing = none ∧
      ({ State.reset with device := .shutdown } : State).running = false := by decide +kernel

/-- Room for one sheet more; a price of 72 with 72 available and with 71. -/
theorem witness_FeedJoinsPath :
    let st := { readyStation with path := [1, 2, 3, 4, 5, 6, 7].map stray }
    let x : Session := { copier with charged := 4928 }
    let y : Session := { copier with charged := 4929 }
    (hall st).running = true ∧ ((hall st).station 0).lines.feed.level = false ∧
      ((hall st).station 0).lines.feed.timing = none ∧ ((hall st).station 0).session = none ∧
      ((hall st).station 0).path.length < 8 ∧ ((hall st).station 0).state = .ready ∧
      ((hall st).station 0).duration ((hall st).station 0).profile.linkCard = some 300 ∧
      ((hall { st with profile := { Profile.default with linkFeed := .a } }).station 0).duration .a = some 300 ∧
      ((hall (busy x [])).station 0).session = some x ∧ x.phase = .active ∧ x.suspended = false ∧
      72 = x.plan.priceAt x.rate x.tier ((hall (busy x [])).station 0).lines.kind ∧
      72 ≤ 10 * x.hold - x.charged - x.pending ∧ 10 * y.hold - y.charged - y.pending < 72 := by decide +kernel

/-- Two sheets, one millisecond before the second's transit limit; one sheet of a CLOSING session; an empty path, in
READY and in RECOVER with two purges outstanding. -/
theorem witness_DeliveryTakesOldest :
    let s := { hall (busy { copier with pending := 144 } [sheet 1 0, sheet 2 0]) with now := 9999 }
    let x : Session := { copier with pending := 72, phase := .closing .customer }
    let r : JamRecord := { JamRecord.opened 1 .line 0 with inDoubt := 2 }
    let u := hall { readyStation with state := .recover, jam := some r }
    s.running = true ∧ (s.station 0).lines.deliver.level = false ∧ (s.station 0).lines.deliver.timing = none ∧
      (s.station 0).path = sheet 1 0 :: sheet 2 0 :: [] ∧ s.now < (sheet 2 0).fedAt + 1000 * (s.station 0).profile.transitLimit ∧
      ((hall (busy x [sheet 1 0])).station 0).path = [sheet 1 0] ∧ x.phase = .closing .customer ∧ x.payment = .counter 7 ∧
      x.stopPending = false ∧ x.suspended = false ∧ ((hall (busy x [sheet 1 0])).station 0).state ≠ .save ∧
      72 = (if (sheet 1 0).serial = some x.serial then (sheet 1 0).coveredPrice else 0) ∧
      0 = (if (stray 1).serial = some x.serial then (stray 1).coveredPrice else 0) ∧
      ((hall readyStation).station 0).path = [] ∧ ((hall readyStation).station 0).state ≠ .recover ∧
      ((hall readyStation).station 0).state ≠ .save ∧ (u.station 0).state = .recover ∧ (u.station 0).jam = some r ∧
      (u.station 0).path = [] ∧ r.purged + 1 < r.inDoubt := by decide +kernel

theorem witness_JamRises :
    let s := hall { readyStation with state := .jammed, jam := some (.opened 1 .line 0), path := [stray 1] }
    (hall readyStation).running = true ∧ ((hall readyStation).station 0).lines.jam.level = false ∧
      ((hall readyStation).station 0).lines.jam.timing = none ∧ ((hall readyStation).station 0).path = [] ∧
      (State.reset.station 0).state = .offline ∧ ((hall readyStation).station 0).state = .ready ∧
      ((hall readyStation).station 0).session = none ∧ (s.station 0).state = .jammed ∧
      (s.station 0).jam = some (.opened 1 .line 0) ∧ (JamRecord.opened 1 .line 0).lost = none ∧
      (JamRecord.opened 1 .line 0).inDoubt + (s.station 0).path.length ≤ 4294967295 := by decide +kernel

/-- A JAMMED station with JAM asserted, one with READY deasserted; OFFLINE, NOT-READY, READY and RECOVER stations. -/
theorem witness_StationLevelsAct :
    let r : JamRecord := { JamRecord.opened 1 .line 0 with inDoubt := 1 }
    let s := hall { readyStation with state := .jammed, jam := some r, lines := { Lines.reset with ready := standing true, jam := standing true } }
    let u := hall { readyStation with state := .jammed, jam := some r, lines := Lines.reset }
    s.running = true ∧ (s.station 0).state = .jammed ∧ (s.station 0).jam = some r ∧ r.purged < r.inDoubt ∧
      (s.station 0).lines.jam.level = true ∧ (s.station 0).lines.jam.timing = none ∧
      (s.station 0).lines.ready.level = true ∧ (u.station 0).lines.jam.level = false ∧
      (u.station 0).lines.ready.level = false ∧ (u.station 0).lines.ready.timing = none ∧
      (State.reset.station 0).state = .offline ∧
      ((hall { Station.reset with state := .notReady }).station 0).duration .a = some 300 ∧
      ((hall readyStation).station 0).lines.ready.level = true ∧ ((hall readyStation).station 0).path = [] ∧
      ((hall { readyStation with state := .recover }).station 0).state = .recover := by decide +kernel

theorem witness_PauseAndOutputs :
    let x : Session := { copier with phase := .holding }
    let s := hall { busy x [] with pauseTimer := some 3000 }
    s.running = true ∧ (s.station 0).session = some x ∧ x.phase = .holding ∧ x.suspended = false ∧
      (s.station 0).pauseTimer = some 3000 ∧ s.now ≤ 3000 ∧ (s.station 0).lines.stopped.level = false ∧
      (s.station 0).lines.stopped.timing = none ∧ s.mainSupply = true ∧ s.resetPin = false ∧ s.device = .running ∧
      ({ s with device := .shutdown } : State).device = .shutdown ∧ ((hall readyStation).station 0).session = none := by
  decide +kernel

/-- A path of nine (the eight and an overrun's ninth are the most a path holds within an event), at a READY station
that passes into RECOVER, a NOT-READY one that stands JAMMED, and an OFFLINE one. -/
theorem witness_TransitAndPurgeExpire :
    let path := stray 1 :: [2, 3, 4, 5, 6, 7, 8, 9].map stray
    let s := hall { readyStation with path := path }
    let w := hall { readyStation with state := .notReady, lines := Lines.reset, path := path }
    let o := hall { Station.reset with path := path }
    let u := hall { readyStation with state := .recover, jam := some (.opened 1 .line 0), purgeTimer := some 20000 }
    s.running = true ∧ (s.station 0).path = path ∧ ([2, 3, 4, 5, 6, 7, 8, 9].map stray).length ≤ 8 ∧
      (s.station 0).session = none ∧ (s.station 0).state = .ready ∧
      10000 = max s.now ((stray 1).fedAt + 1000 * (s.station 0).profile.transitLimit) ∧
      (True ↔ (s.station 0).lines.jam.level = false ∧ (s.station 0).lines.ready.level = true) ∧
      (w.station 0).path = path ∧ (w.station 0).session = none ∧ (w.station 0).state = .notReady ∧
      (False ↔ (w.station 0).lines.jam.level = false ∧ (w.station 0).lines.ready.level = true) ∧
      (o.station 0).path = path ∧ (o.station 0).session = none ∧ (o.station 0).state = .offline ∧
      (u.station 0).state = .recover ∧ (u.station 0).jam = some (.opened 1 .line 0) ∧
      (JamRecord.opened 1 .line 0).lost = none ∧ (u.station 0).purgeTimer = some 20000 ∧ u.now ≤ 20000 := by
  decide +kernel

theorem witness_SessionTimersExpire :
    let s := hall readyStation
    let u := hall { busy copier [] with timerB := .expired }
    let v := hall { busy waiting [] with authTimer := some 45000 }
    s.running = true ∧ TimerId.a ≠ .b ∧ (s.station 0).timer .a = .running 300000 ∧ s.now ≤ 300000 ∧
      (s.station 0).duration .a = some 300 ∧ (s.station 0).duration .b = none ∧ (s.station 0).session = none ∧
      (s.station 0).state = .ready ∧ (s.station 0).path = [] ∧ ((hall (busy copier [sheet 1 0])).station 0).path ≠ [] ∧
      (u.station 0).duration .a = some 60 ∧ (u.station 0).timer .b = .expired ∧ (u.station 0).session = some copier ∧
      copier.copying = true ∧ copier.stopPending = false ∧ copier.payment = .counter 7 ∧
      (v.station 0).session = some waiting ∧ waiting.authorizing = true ∧ (v.station 0).authTimer = some 45000 := by
  decide +kernel

theorem witness_PeriodicEvents :
    State.reset.running = true ∧ State.reset.scrubDue = some 250 ∧ State.reset.now ≤ 250 ∧
      (∀ x, State.reset.slot State.reset.scrubPosition = some x → x.suspect = true ∨ x.damage = .sound) ∧
      State.reset.mainSupply = true ∧
      (∀ a, ({ State.reset with alarm := some 2 } : State).alarm = some a → (State.reset.stamp + 1) % 4294967296 < a) ∧
      ({ State.reset with alarm := some 1 } : State).alarm = some 1 ∧ 1 ≤ (State.reset.stamp + 1) % 4294967296 ∧
      ({ State.reset with alarm := some 0 } : State).alarm = some 0 ∧ 0 ≤ State.reset.stamp :=
  ⟨rfl, rfl, by decide, nofun, rfl, by rintro a ⟨⟩; decide, rfl, by decide, rfl, by decide⟩

/-- Each of the four refusals. -/
theorem witness_CardRefusals :
    let full : State := { hall readyStation with journal := List.replicate 511 (.restart ⟨1, 0, .pin, 1, 0⟩) }
    (hall readyStation).running = true ∧ ((hall readyStation).station 0).reader.condition ≠ .waitingIdle ∧
      (9999999999 : BitVec 40).toNat ≤ 9999999999 ∧ ((hall readyStation).station 0).state ≠ .save ∧
      (State.reset.station 0).session = none ∧ (State.reset.station 0).state ≠ .ready ∧
      (full.station 0).state = .ready ∧ 510 < full.journal.length + full.reservations ∧
      (hall readyStation).lookup 9999999999 = none ∧
      (hall readyStation).journal.length + (hall readyStation).reservations ≤ 510 ∧
      ((hall (busy waiting [])).station 0).session = some waiting ∧ waiting.copying = false := by decide +kernel

/-- A grant at the minimum opening amount; the session's own card with one cent of credit. -/
theorem witness_CampusCardAccepted :
    let a : Slot := { prepaid with account := { prepaid.account with figures := .prepaid 50 } }
    let s : State := { hall readyStation with slots := [(1207, a)] }
    let b : Slot := { prepaid with account := { prepaid.account with figures := .prepaid 501, held := 500, openCount := 1 } }
    let x : Session := { copier with payment := .campus 1207 }
    let u : State := { hall (busy x []) with slots := [(1207, b)] }
    s.running = true ∧ (s.station 0).reader.condition ≠ .waitingIdle ∧ (7000420015 : BitVec 40).toNat ≤ 9999999999 ∧
      (s.station 0).state = .ready ∧ (s.station 0).session = none ∧ s.journal.length + s.reservations ≤ 510 ∧
      s.lookup (7000420015 : BitVec 40).toNat = some 1207 ∧ s.slot 1207 = some a ∧ a.suspect = false ∧
      a.damage = .sound ∧ a.account.blocked = false ∧ a.account.figures = .prepaid 50 ∧ 0 < 50 - a.account.held ∧
      (s.station 0).profile.minOpening ≤ 50 - a.account.held ∧
      (u.station 0).session = some x ∧ x.copying = true ∧ x.payment = .campus 1207 ∧ u.slot 1207 = some b ∧
      b.identity = (7000420015 : BitVec 40).toNat ∧ b.account.figures = .prepaid 501 ∧ 0 < 501 - b.account.held := by
  decide +kernel

/-- The counter at its last value. -/
theorem witness_BankAdmission :
    let s : State := { hall readyStation with authRef := 65535 }
    s.running = true ∧ (s.station 0).reader.condition ≠ .waitingIdle ∧ (s.station 0).state = .ready ∧
      (s.station 0).session = none ∧ s.journal.length + s.reservations ≤ 510 ∧ s.authRef < 65536 := by decide +kernel

theorem witness_EndKeyBySession :
    let s := hall (busy copier [sheet 1 0])
    s.running = true ∧ (s.station 0).reader.condition ≠ .waitingIdle ∧ (s.station 0).state = .ready ∧
      (s.station 0).session = some copier ∧ copier.copying = true ∧ (s.station 0).path ≠ [] ∧
      waiting.authorizing = true ∧ ((hall readyStation).station 0).session = none ∧
      ({ copier with phase := .closing .host } : Session).closing = true := by decide +kernel

/-- Each condition of a port; a frame waiting; four waiting. -/
theorem witness_ReaderPorts :
    let port (c : ReaderCondition) : State := hall { readyStation with reader := { ReaderPort.reset with condition := c } }
    State.reset.alive = true ∧ ((port .looking).station 0).reader.condition = .looking ∧
      ((port .assembling).station 0).reader.condition = .assembling ∧
      ((port .waitingIdle).station 0).reader.condition = .waitingIdle ∧ ((port .looking).station 0).state ≠ .save ∧
      State.reset.mainSupply = true ∧ State.reset.resetPin = false ∧ (State.reset.station 0).reader.waiting = [] ∧
      (ReaderPort.mk .looking (some .authorizing) (List.replicate 4 .authorizing)).waiting =
        [.authorizing, .authorizing, .authorizing, .authorizing] := by decide +kernel

theorem witness_PfailShutsDown : (hall (busy copier [sheet 1 0])).running = true := rfl

theorem witness_VolatileStateLost :
    Instr.supplyFailure false = .supplyFailure false ∧ Instr.resetPinAsserted = .resetPinAsserted := ⟨rfl, rfl⟩

/-- A power-up, a sag in SHUTDOWN, the RESET pin alone and after a power-up. -/
theorem witness_RestartTriggers :
    let up : State := { State.reset with mainSupply := false }
    let sag : State := { State.reset with device := .shutdown }
    let pin : State := { State.reset with resetPin := true }
    let both : State := { pin with cameUp := true }
    (up.resetPin = false ∧ up.restart = none ∧ up.mainSupply = false) ∧
      (sag.resetPin = false ∧ sag.restart = none ∧ sag.device = .shutdown) ∧
      (pin.resetPin = true ∧ pin.mainSupply = true ∧ pin.cameUp = false) ∧
      (both.resetPin = true ∧ both.mainSupply = true ∧ both.cameUp = true ∧ both.pfail = false) := by decide +kernel

theorem witness_RetainedLossResets :
    let s : State := { State.reset with marker := false, mainSupply := false }
    s.marker = false ∧ s.mainSupply = false ∧ s.resetPin = false ∧ s.restart = none := ⟨rfl, rfl, rfl, rfl⟩


/-! ### Steps from a sound state -/

/-- A CAMPUS session with a sheet in the path. -/
def paying : Station := busy { copier with payment := .campus 905, charged := 100, pending := 72 } [sheet 120 0]

/-- One such session, its account, its reservation; with main supply or without, and with a feed waiting. -/
def sample (supplied : Bool) (queue : List Instr) : State :=
  { hall paying with
    slots := [(905, department)]
    reservations := 1
    mainSupply := supplied
    notices := [⟨.jam, 3⟩]
    pending := queue }

theorem sample_station (b : Bool) (q : List Instr) (i : StationId) :
    (sample b q).station i = if i = 0 then paying else Station.reset := by
  show (hall paying).station i = _
  revert i
  decide +kernel

theorem sample_each (b : Bool) (q : List Instr) (p : Station → Prop) (h0 : p paying) (h1 : p Station.reset)
    (i : StationId) : p ((sample b q).station i) := by
  rw [sample_station]
  split <;> assumption

theorem sample_bounded (b : Bool) (q : List Instr) : (sample b q).Bounded :=
  ⟨sample_each b q _ ⟨by decide, by decide, nofun⟩ ⟨by decide, by decide, nofun⟩, by show 0 ≤ _; decide⟩

theorem sample_notices (b : Bool) (q : List Instr) : (sample b q).NoticesKept := by
  refine ⟨List.pairwise_singleton _ _, ?_⟩
  intro n h
  obtain rfl := List.mem_singleton.mp h
  unfold Notice.Scoped
  decide

theorem sample_jams (b : Bool) (q : List Instr) : (sample b q).JamsKept :=
  sample_each b q _ (by unfold Station.JamKept; decide) (by unfold Station.JamKept; decide)

theorem sample_money (b : Bool) (q : List Instr) : (sample b q).MoneyKept :=
  sample_each b q _ ⟨by decide +kernel, by decide +kernel, by decide +kernel, nofun⟩ nofun

theorem sample_counts (b : Bool) (q : List Instr) : (sample b q).CountsKept :=
  sample_each b q (fun st => ∀ x ∈ st.session, x.CountsKept)
    (fun x h => by obtain rfl := Option.some.inj (show some _ = some x from h); unfold Session.CountsKept; decide +kernel)
    (fun x h => nomatch (show (none : Option Session) = some x from h))

theorem sample_restart (b : Bool) (q : List Instr) : (sample b q).RestartKept := nofun

theorem sample_journal (b : Bool) (q : List Instr) : (sample b q).JournalKept := by
  have one : (hall paying).sessions.length = 1 := by decide +kernel
  exact ⟨one.symm, by show 1 + 1 ≤ 512; decide, fun _ => by show 1 + 1 < 512; decide, by
    intro h; exact absurd (show (1 : Nat) = 512 from h) (by decide)⟩

theorem sample_sound (b : Bool) (q : List Instr) : (sample b q).Sound where
  bounded := sample_bounded b q
  notices := sample_notices b q
  slots := show slotsWf [(905, department)] = true by decide +kernel
  identities := List.pairwise_singleton _ _
  holds := by
    intro n x h _
    have at905 : n = 905 := by
      by_contra ne
      have none : (sample b q).slot n = none := by
        show getSlot n [(905, department)] = none
        simp [getSlot, Ne.symm ne]
      rw [none] at h
      exact nomatch h
    subst at905
    obtain rfl : department = x := Option.some.inj h
    have held : ((sample b q).bound 905).map Session.hold = [500] := by
      show (((hall paying).sessions.map Prod.snd).filter fun x => x.boundTo 905).map Session.hold = [500]
      decide +kernel
    have count : ((sample b q).bound 905).length = 1 := by simpa using congrArg List.length held
    exact ⟨by unfold State.boundHold; rw [held]; rfl, by rw [count]; rfl, by show 9200 + 500 ≤ 10000; decide⟩
  boundSlots := by
    intro i
    refine sample_each b q (fun st => ∀ x n, st.session = some x → x.payment = .campus n → ((sample b q).slot n).isSome)
      ?_ (fun x _ h => nomatch (show (none : Option Session) = some x from h)) i
    intro x n h paid
    obtain rfl := Option.some.inj (show some _ = some x from h)
    obtain rfl : 905 = n := Payment.campus.inj paid
    rfl
  authorizations := by
    intro i
    refine sample_each b q (fun st => ∀ x, st.session = some x → x.phase = .authorizing → ∃ r k, x.payment = .bank r k)
      ?_ (fun x h => nomatch (show (none : Option Session) = some x from h)) i
    intro x h waits
    obtain rfl := Option.some.inj (show some _ = some x from h)
    exact nomatch waits
  journal := sample_journal b q
  money := sample_money b q
  counts := sample_counts b q
  jams := sample_jams b q
  restart := sample_restart b q

theorem witness_RestartWindsDown :
    let s := sample false []
    s.Sound ∧ s.marker = true ∧ s.mainSupply = false ∧ s.resetPin = false ∧ s.restart = none ∧
      s.journal.length + s.reservations < 512 :=
  ⟨sample_sound _ _, rfl, rfl, rfl, rfl, by show 1 + 1 < 512; decide⟩

/-- The next state of a feed, of a scrub visit and of an idle step at the sample. -/
theorem steps :
    (∃ t, step (sample true [.feed 0]) = .next t) ∧ (∃ t, step (sample true [.scrubVisit]) = .next t) ∧
      ∃ t, step (sample true []) = .next t := ⟨⟨_, rfl⟩, ⟨_, rfl⟩, ⟨_, rfl⟩⟩

theorem witness_StepKeepsListsAndNotices :
    ∃ t, (sample true [.feed 0]).Bounded ∧ (sample true [.feed 0]).CountsKept ∧ (sample true [.feed 0]).NoticesKept ∧
      step (sample true [.feed 0]) = .next t :=
  ⟨_, sample_bounded _ _, sample_counts _ _, sample_notices _ _, rfl⟩

theorem witness_StepKeepsAccountTable :
    ∃ t, (sample true [.scrubVisit]).SlotsKept ∧ (sample true [.scrubVisit]).IdentitiesDistinct ∧
      step (sample true [.scrubVisit]) = .next t :=
  ⟨_, (sample_sound _ _).slots, (sample_sound _ _).identities, rfl⟩

theorem witness_StepKeepsJamRecords :
    ∃ t, (sample true [.jamRise 0]).JamsKept ∧ step (sample true [.jamRise 0]) = .next t :=
  ⟨_, sample_jams _ _, rfl⟩

theorem witness_StepKeepsJournal :
    ∃ t, (sample true [.endSession 1]).JournalKept ∧ (sample true [.endSession 1]).RestartKept ∧
      step (sample true [.endSession 1]) = .next t :=
  ⟨_, sample_journal _ _, sample_restart _ _, rfl⟩

theorem witness_StepKeepsMoney :
    ∃ t, (sample true [.delivery 0]).MoneyKept ∧ (sample true [.delivery 0]).RestartKept ∧
      step (sample true [.delivery 0]) = .next t :=
  ⟨_, sample_money _ _, sample_restart _ _, rfl⟩

theorem witness_StepKeepsSound : ∃ t, (sample true []).Sound ∧ step (sample true []) = .next t :=
  ⟨_, sample_sound _ _, rfl⟩


/-! ### Witnesses of the further clauses -/

/-- An OFFLINE station with a path of nine sheets, one millisecond before the new limit of 10 s and at it; the
limit that stood was 20 s. -/
theorem witness_SetProfileReaimsTransit :
    let s : State := hall { Station.reset with path := stray 1 :: [2, 3, 4, 5, 6, 7, 8, 9].map stray }
    let u : State := hall { Station.reset with path := [stray 1], profile := { Profile.default with transitLimit := 20 } }
    ({ s with now := 9999 } : State).Serving ∧ ({ u with now := 10000 } : State).Serving ∧
      (1 : Byte).toNat = (0 : StationId).val + 1 ∧ (s.station 0).state = .offline ∧ (s.station 0).session = none ∧
      profileValid defaultFields = true ∧ (s.station 0).path = stray 1 :: [2, 3, 4, 5, 6, 7, 8, 9].map stray ∧
      ([2, 3, 4, 5, 6, 7, 8, 9].map stray).length ≤ 8 ∧
      9999 < (stray 1).fedAt + 1000 * defaultFields.transitLimit.toNat ∧
      (u.station 0).state = .offline ∧ (u.station 0).session = none ∧ (u.station 0).path = stray 1 :: [] ∧
      defaultFields.transitLimit.toNat ≠ (u.station 0).profile.transitLimit ∧
      (stray 1).fedAt + 1000 * defaultFields.transitLimit.toNat ≤ 10000 :=
  ⟨⟨⟨rfl, rfl, rfl⟩, rfl⟩, ⟨⟨rfl, rfl, rfl⟩, rfl⟩, by decide +kernel⟩

/-- A JAMMED and a RECOVER station without a session; copying sessions at a READY and at a NOT-READY station. -/
theorem witness_StopStationAtOnce :
    let jammed := hall { readyStation with state := .jammed, jam := some (.opened 1 .line 0) }
    let recover := hall { readyStation with state := .recover, jam := some (.opened 1 .line 0) }
    let waits := hall { busy copier [] with state := .notReady }
    jammed.Serving ∧ recover.Serving ∧ waits.Serving ∧ (hall (busy copier [])).Serving ∧
      (1 : Byte).toNat = (0 : StationId).val + 1 ∧ (jammed.station 0).session = none ∧
      (recover.station 0).session = none ∧ (jammed.station 0).jam = some (.opened 1 .line 0) ∧
      (recover.station 0).jam = some (.opened 1 .line 0) ∧ (JamRecord.opened 1 .line 0).lost = none ∧
      (jammed.station 0).state = .jammed ∧ (recover.station 0).state = .recover ∧
      ((hall (busy copier [])).station 0).session = some copier ∧ (waits.station 0).session = some copier ∧
      copier.copying = true ∧ ((hall (busy copier [])).station 0).path = [] ∧ (waits.station 0).path = [] ∧
      copier.payment = .counter 7 ∧ ((hall (busy copier [])).station 0).state = .ready ∧
      (waits.station 0).state = .notReady :=
  ⟨serves _, serves _, serves _, serves _, by decide +kernel⟩

/-- A SAVE and a READY station, the preset hold, room for one record beside the reservation. -/
theorem witness_OpenSessionWakes :
    let s : State := { hall { readyStation with state := .save } with journal := [], reservations := 510 }
    s.Serving ∧ (hall readyStation).Serving ∧ (1 : Byte).toNat = (0 : StationId).val + 1 ∧
      (s.station 0).state = .save ∧ ((hall readyStation).station 0).state = .ready ∧ (s.station 0).session = none ∧
      ((hall readyStation).station 0).session = none ∧ 1 ≤ (500 : BitVec 32).toInt ∧
      (500 : BitVec 32).toInt ≤ (s.station 0).profile.presetHold ∧
      s.journal.length + s.reservations ≤ 510 ∧ s.NoticesKept := by
  refine ⟨⟨⟨rfl, rfl, rfl⟩, rfl⟩, serves _, by decide, rfl, rfl, rfl, rfl, by decide, by decide +kernel, by decide, ?_⟩
  exact ⟨.nil, nofun⟩

/-- A sound, a correctable, an uncorrectable and a SUSPECT slot under the session that settles. -/
theorem witness_CampusSettlement :
    let x : Session := { copier with payment := .campus 905, charged := 3244 }
    let at905 (a : Slot) : State := { hall (busy x []) with slots := [(905, a)] }
    (∀ a, (at905 a).Serving) ∧ (1 : Byte).toNat = (0 : StationId).val + 1 ∧
      (∀ a, ((at905 a).station 0).session = some x ∧ ((at905 a).station 0).path = [] ∧
        (at905 a).slot 905 = some a) ∧
      x.copying = true ∧ x.payment = .campus 905 ∧ x.stopPending = false ∧ department.suspect = false ∧
      department.damage = .sound ∧ ({ department with damage := .correctable } : Slot).damage ≠ .uncorrectable ∧
      ({ department with damage := .uncorrectable } : Slot).suspect = false ∧
      ({ department with suspect := true } : Slot).suspect = true :=
  ⟨fun _ => ⟨⟨rfl, rfl, rfl⟩, rfl⟩, by decide, fun _ => ⟨rfl, rfl, rfl⟩, by decide +kernel⟩

theorem witness_SettleRecordBytes :
    ∃ r, ({ State.reset with journal := [.settle r] } : State).Serving ∧
      ({ State.reset with journal := [.settle r] } : State).journal = .settle r :: [] :=
  ⟨{ serial := 70041, opened := 1, closed := 2, station := 1, sessionSerial := 9120, paidBy := .campus 212 4001552837
     hold := 500, charged := 325, covered := #v[0, 0, 0, 0, 0, 0, 0, 0], uncovered := 0, uncoveredValue := 0
     unpermitted := 0, jammed := 0, extendCount := 0, reason := .customer, clamped := false, forced := false
     parked := false }, ⟨⟨rfl, rfl, rfl⟩, rfl⟩, rfl⟩

/-- A timing of each command's line at station 1. -/
theorem witness_TimedRecognition :
    let rising : LineState := ⟨true, false, some ⟨7, false⟩⟩
    let falling : LineState := ⟨false, true, some ⟨7, false⟩⟩
    let s := hall { readyStation with lines := { Lines.reset with feed := rising, deliver := rising, jam := rising, ready := rising, stopped := rising, colour := falling } }
    let u := hall { readyStation with lines := { Lines.reset with jam := falling, ready := falling } }
    s.running = true ∧ u.running = true ∧
      (∀ m ∈ [Line.feed, .deliver, .jam, .ready, .stopped], ((s.station 0).lines.get m).level = !true ∧
        ((s.station 0).lines.get m).timing = some ⟨7, false⟩) ∧
      ((s.station 0).lines.get .colour).level = !false ∧
      ((s.station 0).lines.get .colour).timing = some ⟨7, false⟩ ∧
      (∀ m ∈ [Line.jam, .ready], ((u.station 0).lines.get m).level = !false ∧
        ((u.station 0).lines.get m).timing = some ⟨7, false⟩) := by decide +kernel

/-- A feed that needs no timing at stations OFFLINE, NOT-READY with a duration, and with a duration of NONE. -/
theorem witness_FeedAnywhere :
    let s := hall { readyStation with state := .notReady, profile := { Profile.default with linkFeed := .a } }
    let u := hall { readyStation with state := .jammed, path := [1, 2, 3, 4, 5, 6, 7].map stray }
    s.running = true ∧ (s.station 0).lines.feed.level = false ∧ (s.station 0).lines.feed.timing = none ∧
      (s.station 0).session = none ∧ (s.station 0).path.length < 8 ∧ (s.station 0).state ≠ .save ∧
      (s.station 0).state ≠ .offline ∧ (s.station 0).duration (s.station 0).profile.linkFeed = some 300 ∧
      (State.reset.station 0).state = .offline ∧ (State.reset.station 0).session = none ∧
      (u.station 0).path.length < 8 ∧ (u.station 0).duration (u.station 0).profile.linkFeed = none ∧
      (u.station 0).state ≠ .save := by decide +kernel

theorem witness_FeedWakesSave :
    let s := hall { readyStation with state := .save }
    s.running = true ∧ (s.station 0).lines.feed.level = false ∧ (s.station 0).lines.feed.timing = none ∧
      (s.station 0).session = none ∧ (s.station 0).path.length < 8 ∧ (s.station 0).state = .save := by decide +kernel

/-- A price of 72 with 72 available and with 71, in an ACTIVE session and in a HOLDING one under its allowance. -/
theorem witness_FeedUnderPermit :
    let x : Session := { copier with charged := 4928 }
    let y : Session := { copier with charged := 4929, phase := .holding }
    let s := hall (busy x ([1, 2, 3, 4, 5, 6, 7].map stray))
    let u := hall (busy y [])
    s.running = true ∧ (s.station 0).lines.feed.level = false ∧ (s.station 0).lines.feed.timing = none ∧
      (s.station 0).session = some x ∧ s.permit 0 = true ∧ (s.station 0).path.length < 8 ∧
      72 = x.plan.priceAt x.rate x.tier (s.station 0).lines.kind ∧ 72 ≤ 10 * x.hold - x.charged - x.pending ∧
      u.running = true ∧ (u.station 0).lines.feed.level = false ∧ (u.station 0).lines.feed.timing = none ∧
      (u.station 0).session = some y ∧ u.permit 0 = true ∧ (u.station 0).path.length < 8 ∧
      72 = y.plan.priceAt y.rate y.tier (u.station 0).lines.kind ∧ 10 * y.hold - y.charged - y.pending < 72 := by
  decide +kernel

/-- A HELD and FORCED session at a READY station, an ACTIVE one at a JAMMED station, an AUTHORIZING one. -/
theorem witness_FeedWithoutPermit :
    let held : Session := { copier with phase := .held, forced := true }
    let s := hall (busy held [])
    let u := hall { busy copier [] with state := .jammed }
    s.running = true ∧ (s.station 0).lines.feed.level = false ∧ (s.station 0).lines.feed.timing = none ∧
      (s.station 0).session = some held ∧ s.permit 0 = false ∧ (s.station 0).path.length < 8 ∧
      (s.station 0).state ≠ .save ∧ (u.station 0).session = some copier ∧ u.permit 0 = false ∧
      (u.station 0).state ≠ .save ∧ (hall (busy waiting [])).permit 0 = false := by decide +kernel

/-- Eight sheets in the path: READY asserted, and deasserted at a NOT-READY station. -/
theorem witness_FeedOverrun :
    let s := hall { readyStation with path := [1, 2, 3, 4, 5, 6, 7, 8].map stray }
    let u := hall { readyStation with state := .notReady, lines := Lines.reset, path := [1, 2, 3, 4, 5, 6, 7, 8].map stray }
    s.running = true ∧ (s.station 0).lines.feed.level = false ∧ (s.station 0).lines.feed.timing = none ∧
      (s.station 0).session = none ∧ (s.station 0).path.length = 8 ∧ (s.station 0).state = .ready ∧
      (True ↔ (s.station 0).lines.jam.level = false ∧ (s.station 0).lines.ready.level = true) ∧
      (u.station 0).session = none ∧ (u.station 0).path.length = 8 ∧ (u.station 0).state = .notReady ∧
      (u.station 0).lines.feed.level = false ∧ (u.station 0).lines.feed.timing = none ∧
      (False ↔ (u.station 0).lines.jam.level = false ∧ (u.station 0).lines.ready.level = true) := by decide +kernel

theorem witness_LastDeliveryStops :
    let x : Session := { copier with pending := 72, phase := .closing .host, stopPending := true }
    let s := hall (busy x [sheet 1 0])
    s.running = true ∧ (s.station 0).state = .ready ∧ (s.station 0).lines.deliver.level = false ∧
      (s.station 0).lines.deliver.timing = none ∧ (s.station 0).path = [sheet 1 0] ∧ (s.station 0).session = some x ∧
      x.phase = .closing .host ∧ x.suspended = false ∧ x.stopPending = true ∧ x.payment = .counter 7 ∧
      72 = (if (sheet 1 0).serial = some x.serial then (sheet 1 0).coveredPrice else 0) ∧
      0 = (if (stray 1).serial = some x.serial then (stray 1).coveredPrice else 0) := by decide +kernel

/-- An ACTIVE and a HOLDING session with a full path. -/
theorem witness_JamReleasesSession :
    let x : Session := { copier with pending := 72 }
    let s := hall (busy x (sheet 1 0 :: [2, 3, 4, 5, 6, 7, 8].map stray))
    let y : Session := { copier with pending := 72, charged := 4928, phase := .holding }
    let u := hall { busy y [sheet 1 0] with state := .notReady }
    s.running = true ∧ (s.station 0).lines.jam.level = false ∧ (s.station 0).lines.jam.timing = none ∧
      (s.station 0).state = .ready ∧ (s.station 0).path = sheet 1 0 :: [2, 3, 4, 5, 6, 7, 8].map stray ∧
      ([2, 3, 4, 5, 6, 7, 8].map stray).length ≤ 7 ∧ (s.station 0).session = some x ∧ x.copying = true ∧
      (u.station 0).lines.jam.level = false ∧ (u.station 0).lines.jam.timing = none ∧
      (u.station 0).state = .notReady ∧ (u.station 0).path = sheet 1 0 :: [] ∧ (u.station 0).session = some y ∧
      y.copying = true := by decide +kernel

/-- A CLOSING session with and without stop-pending. -/
theorem witness_JamSettlesClosing :
    let x : Session := { copier with pending := 72, phase := .closing .customer }
    let y : Session := { x with stopPending := true }
    let s := hall (busy x [sheet 1 0])
    let u := hall (busy y [sheet 1 0])
    s.running = true ∧ (s.station 0).lines.jam.level = false ∧ (s.station 0).lines.jam.timing = none ∧
      (s.station 0).state = .ready ∧ (s.station 0).path = sheet 1 0 :: [] ∧ (s.station 0).session = some x ∧
      x.phase = .closing .customer ∧ x.suspended = false ∧ x.payment = .counter 7 ∧ x.stopPending = false ∧
      (u.station 0).lines.jam.level = false ∧ (u.station 0).lines.jam.timing = none ∧ (u.station 0).state = .ready ∧
      (u.station 0).path = sheet 1 0 :: [] ∧ (u.station 0).session = some y ∧ y.phase = .closing .customer ∧
      y.stopPending = true := by decide +kernel

theorem witness_OfflineJamWritesOff :
    let s := hall { Station.reset with path := [1, 2, 3, 4, 5, 6, 7, 8].map stray }
    s.running = true ∧ (s.station 0).lines.jam.level = false ∧ (s.station 0).lines.jam.timing = none ∧
      (s.station 0).state = .offline ∧ (s.station 0).path = stray 1 :: [2, 3, 4, 5, 6, 7, 8].map stray ∧
      ([2, 3, 4, 5, 6, 7, 8].map stray).length ≤ 7 ∧ (s.station 0).session = none := by decide +kernel

/-- READY asserted with JAM deasserted; READY deasserted. -/
theorem witness_TransitReleasesSession :
    let x : Session := { copier with charged := 477, pending := 72 }
    let s := hall (busy x [sheet 120 2100])
    let u := hall { busy x [sheet 120 2100] with state := .notReady, lines := Lines.reset }
    s.running = true ∧ (s.station 0).path = sheet 120 2100 :: [] ∧ (s.station 0).session = some x ∧ x.copying = true ∧
      (s.station 0).state = .ready ∧ 12100 = max s.now ((sheet 120 2100).fedAt + 1000 * (s.station 0).profile.transitLimit) ∧
      (True ↔ (s.station 0).lines.jam.level = false ∧ (s.station 0).lines.ready.level = true) ∧
      (u.station 0).path = sheet 120 2100 :: [] ∧ (u.station 0).session = some x ∧ (u.station 0).state = .notReady ∧
      (False ↔ (u.station 0).lines.jam.level = false ∧ (u.station 0).lines.ready.level = true) := by decide +kernel

theorem witness_ScrubFindsDamage :
    let at1207 (d : Damage) : State :=
      { State.reset with slots := [(1207, { prepaid with damage := d })], scrubPosition := 1207 }
    (at1207 .correctable).running = true ∧ (at1207 .uncorrectable).running = true ∧
      (at1207 .correctable).scrubDue = some 250 ∧ (at1207 .uncorrectable).scrubDue = some 250 ∧
      (at1207 .correctable).now ≤ 250 ∧
      (at1207 .correctable).slot (at1207 .correctable).scrubPosition = some { prepaid with damage := .correctable } ∧
      (at1207 .uncorrectable).slot (at1207 .uncorrectable).scrubPosition =
        some { prepaid with damage := .uncorrectable } ∧ prepaid.suspect = false := by decide +kernel

theorem witness_SecondOnVbat :
    ({ State.reset with mainSupply := false } : State).mainSupply = false ∧
      ({ State.reset with mainSupply := false } : State).marker = true ∧
      ({ State.reset with mainSupply := false, marker := false } : State).marker = false := ⟨rfl, rfl, rfl⟩

/-- Each refusal: at an OFFLINE station, with a full journal, of an unknown card, and BUSY by the session's state, by a
BANK card, by a session that is not CAMPUS, and by another account's card. -/
theorem witness_CardRefusedStation :
    let full : State := { hall readyStation with journal := List.replicate 511 (.restart ⟨1, 0, .pin, 1, 0⟩) }
    let x : Session := { copier with payment := .campus 1207 }
    let s : State := { hall (busy x []) with slots := [(1207, prepaid)] }
    full.running = true ∧ (full.station 0).reader.condition ≠ .waitingIdle ∧ (full.station 0).state ≠ .save ∧
      (∀ id, (Card.campus 9999999999) = .campus id → id.toNat ≤ 9999999999) ∧
      (State.reset.station 0).session = none ∧ (State.reset.station 0).state = .offline ∧
      (State.reset.station 0).state ≠ .ready ∧ (full.station 0).session = none ∧ (full.station 0).state = .ready ∧
      510 < full.journal.length + full.reservations ∧ (hall readyStation).lookup 9999999999 = none ∧
      (full.station 0).duration (full.station 0).profile.linkCard = some 300 ∧
      ((hall (busy waiting [])).station 0).session = some waiting ∧ waiting.copying = false ∧
      ((hall (busy copier [])).station 0).session = some copier ∧ (∀ k, copier.payment ≠ .campus k) ∧
      (s.station 0).session = some x ∧ x.payment = .campus 1207 ∧ s.slot 1207 = some prepaid ∧
      prepaid.identity ≠ (9999999999 : BitVec 40).toNat :=
  ⟨rfl, by decide, by decide, by rintro id ⟨⟩; decide, rfl, rfl, by decide, rfl, rfl, by decide +kernel,
    by decide +kernel, by decide +kernel, rfl, rfl, rfl, nofun, rfl, rfl, by decide +kernel, by decide +kernel⟩

/-- Each reason, at an admission and at an extend: SUSPECT, uncorrectable, blocked, no credit, and credit one cent
below the minimum opening amount. -/
theorem witness_AccountRefusals :
    let x : Session := { copier with payment := .campus 1207 }
    let opening (a : Slot) : State := { hall readyStation with slots := [(1207, a)] }
    let extending (a : Slot) : State := { hall (busy x []) with slots := [(1207, a)] }
    let poor : Slot := { prepaid with account := { prepaid.account with figures := .prepaid 49 } }
    (∀ a : Slot, (opening a).running = true ∧ ((opening a).station 0).reader.condition ≠ .waitingIdle ∧
      ((opening a).station 0).state ≠ .save ∧ (opening a).slot 1207 = some a ∧
      ((opening a).station 0).session = none ∧ ((opening a).station 0).state = .ready ∧
      (opening a).journal.length + (opening a).reservations ≤ 510) ∧
      (opening prepaid).lookup (7000420015 : BitVec 40).toNat = some 1207 ∧
      (opening poor).lookup (7000420015 : BitVec 40).toNat = some 1207 ∧
      (∀ a : Slot, (extending a).running = true ∧ ((extending a).station 0).reader.condition ≠ .waitingIdle ∧
        ((extending a).station 0).state ≠ .save ∧ (extending a).slot 1207 = some a ∧
        ((extending a).station 0).session = some x) ∧
      x.copying = true ∧ x.payment = .campus 1207 ∧ prepaid.identity = (7000420015 : BitVec 40).toNat ∧
      (7000420015 : BitVec 40).toNat ≤ 9999999999 ∧ poor.suspect = false ∧ poor.damage ≠ .uncorrectable ∧
      poor.account.blocked = false ∧ 49 - poor.account.held < readyStation.profile.minOpening ∧
      0 - prepaid.account.held = 0 ∧ ({ prepaid with damage := .uncorrectable } : Slot).damage = .uncorrectable ∧
      ({ prepaid.account with blocked := true } : Account).blocked = true :=
  ⟨fun _ => ⟨rfl, nofun, nofun, rfl, rfl, rfl, show 1 + 0 ≤ 510 by decide⟩, by decide +kernel, by decide +kernel,
    fun _ => ⟨rfl, nofun, nofun, rfl, rfl⟩, by decide +kernel⟩

theorem witness_EndSettlesAtOnce :
    let s := hall (busy copier [])
    s.running = true ∧ (s.station 0).reader.condition ≠ .waitingIdle ∧ (s.station 0).state ≠ .save ∧
      (s.station 0).session = some copier ∧ copier.copying = true ∧ (s.station 0).path = [] ∧
      copier.payment = .counter 7 ∧ copier.stopPending = false := by decide +kernel

/-- The sample with only its flags changed is as sound. -/
theorem flags_sound (q : List Instr) (device : DeviceState) (pin : Bool) (reply : Option Reply) :
    ({ sample true q with device := device, resetPin := pin, reply := reply } : State).Sound :=
  let h := sample_sound true q
  { bounded := h.bounded, notices := h.notices, slots := h.slots, identities := h.identities, holds := h.holds
    boundSlots := h.boundSlots, authorizations := h.authorizations, journal := h.journal, money := h.money, counts := h.counts
    jams := h.jams, restart := h.restart }

/-- A power-up, a sag in SHUTDOWN, the RESET pin, and a RESET request's reply, each with a session and a sheet in the
path. -/
theorem witness_RestartOfEveryCause :
    let reply : Reply := { kind := 0x86, body := [0], restarts := true }
    let up := sample false []
    let sag : State := { sample true [] with device := .shutdown, resetPin := false, reply := none }
    let pin : State := { sample true [] with device := .running, resetPin := true, reply := none }
    let asked : State := { sample true [] with device := .running, resetPin := false, reply := some reply }
    (up.Sound ∧ up.marker = true ∧ up.restart = none ∧ up.resetPin = false ∧ up.mainSupply = false) ∧
      (sag.Sound ∧ sag.marker = true ∧ sag.restart = none ∧ sag.resetPin = false ∧ sag.device = .shutdown) ∧
      (pin.Sound ∧ pin.marker = true ∧ pin.restart = none ∧ pin.resetPin = true ∧ pin.mainSupply = true ∧
        pin.cameUp = false ∧ pin.pfail = false) ∧
      (asked.Sound ∧ asked.marker = true ∧ asked.restart = none ∧ asked.alive = true ∧ asked.pfail = false ∧
        asked.reply = some reply ∧ reply.restarts = true) ∧
      up.journal.length + up.reservations < 512 :=
  ⟨⟨sample_sound _ _, rfl, rfl, rfl, rfl⟩, ⟨flags_sound _ _ _ _, rfl, rfl, rfl, rfl⟩,
    ⟨flags_sound _ _ _ _, rfl, rfl, rfl, rfl, rfl, rfl⟩, ⟨flags_sound _ _ _ _, rfl, rfl, rfl, rfl, rfl, rfl⟩,
    by show 1 + 1 < 512; decide⟩

/-- The part after reset with a journal of RESTART records, no notice pending and the main supply absent. -/
def archive (journal : List Record) : State :=
  { State.reset with journal := journal, notices := [], mainSupply := false }

theorem archive_station (journal : List Record) (i : StationId) : (archive journal).station i = Station.reset := by
  show State.reset.station i = _
  revert i
  decide +kernel

theorem archive_sound (journal : List Record) (fits : journal.length ≤ 512)
    (last : journal.length = 512 → ∃ r, journal.getLast? = some (.restart r)) : (archive journal).Sound where
  bounded := ⟨fun i => by rw [archive_station]; exact ⟨by decide, by decide, nofun⟩, by show 0 ≤ _; decide⟩
  notices := ⟨.nil, nofun⟩
  slots := rfl
  identities := .nil
  holds := nofun
  boundSlots := fun i x n h => by rw [archive_station] at h; exact nomatch h
  authorizations := fun i x h => by rw [archive_station] at h; exact nomatch h
  journal := ⟨by show 0 = State.reset.sessions.length; decide +kernel, fits, fun h => absurd rfl h, last⟩
  money := fun i => by rw [archive_station]; exact nofun
  counts := fun i => by rw [archive_station]; exact nofun
  jams := fun i => by rw [archive_station]; unfold Station.JamKept; decide
  restart := nofun

/-- A full journal whose newest record is a RESTART record. -/
theorem witness_RestartOnFullJournal :
    let older := List.replicate 511 (Record.restart ⟨1, 0, .pin, 1, 0⟩)
    let s := archive (older ++ [.restart ⟨1, 0, .pin, 1, 0⟩])
    s.Sound ∧ s.marker = true ∧ s.restart = none ∧ s.resetPin = false ∧ s.mainSupply = false ∧
      s.journal = older ++ [.restart ⟨1, 0, .pin, 1, 0⟩] ∧ s.journal.length = 512 := by
  have full : ∀ older : List Record, older.length = 511 → (older ++ [Record.restart ⟨1, 0, .pin, 1, 0⟩]).length = 512 := by
    intro older h
    rw [List.length_append, h]
    rfl
  exact ⟨archive_sound _ (full _ List.length_replicate).le fun _ => ⟨_, List.getLast?_concat⟩, rfl, rfl, rfl, rfl, rfl,
    full _ List.length_replicate⟩

/-! ## Witnesses of the clauses on idle steps, fallen lines, refused frames, both account kinds and cut restarts -/

/-- A second that is due with the queue empty; nothing due one millisecond before. -/
theorem witness_IdleSteps :
    let s : State := { State.reset with divider := 1000 }
    let u : State := { State.reset with divider := 999 }
    s.pending = [] ∧ s.restart = none ∧ s.due = some .timeBaseTick ∧ u.pending = [] ∧ u.restart = none ∧ u.due = none := by
  decide +kernel

/-- Unknown kinds 0 and 3; figures one above the range, a negative one, and a spent one above its limit. -/
theorem witness_LoadAccountBadFigures :
    State.reset.Serving ∧ ((0 : Byte) ≠ 1 ∧ (0 : Byte) ≠ 2 ∧ [(5 : BitVec 32)].length = 1) ∧
      ((3 : Byte) ≠ 1 ∧ (3 : Byte) ≠ 2 ∧ [(5 : BitVec 32), 5].length = 2) ∧ 9999999 < (10000000 : BitVec 32).toNat ∧
      9999999 < (0xFFFFFFFF : BitVec 32).toNat ∧ (4 : BitVec 32).toNat < (5 : BitVec 32).toNat :=
  ⟨⟨⟨rfl, rfl, rfl⟩, rfl⟩, by decide +kernel⟩

/-- A session with a hold of 500 cents bound to slot 1,207: sound and in use, SUSPECT under its own identity, repaired
with figures that bear the hold exactly and with one cent less, for each account kind; the identity in another slot; and
the replacement of slot 905 that nothing is bound to. -/
theorem witness_LoadAccountReplaces :
    let x : Session := { copier with payment := .campus 1207 }
    let s (a : Slot) : State := { hall (busy x []) with slots := [(905, department), (1207, a)] }
    let lost : Slot := { prepaid with suspect := true, damage := .uncorrectable }
    (∀ a, (s a).Serving ∧ (s a).slot 1207 = some a) ∧ ((s prepaid).bound 1207).map Session.hold = [500] ∧
      (s prepaid).bound 905 = [] ∧ (s prepaid).lookup 3300118402 = some 905 ∧ (905 : Nat) ≠ 1207 ∧
      (s prepaid).lookup 7000420015 = some 1207 ∧ prepaid.suspect = false ∧ lost.suspect = true ∧
      lost.identity = (7000420015 : BitVec 40).toNat ∧ lost.identity ≠ (7000420016 : BitVec 40).toNat ∧
      (s lost).lookup 7000420016 = none ∧ (500 : BitVec 32).toNat ≤ 9999999 ∧ (499 : BitVec 32).toNat < 500 ∧
      (9500 : BitVec 32).toNat + 500 ≤ (10000 : BitVec 32).toNat ∧
      (10000 : BitVec 32).toNat < (9501 : BitVec 32).toNat + 500 ∧ (250 : Byte).toNat ≤ 250 :=
  ⟨fun _ => ⟨⟨⟨rfl, rfl, rfl⟩, rfl⟩, rfl⟩, by decide +kernel⟩

/-- Free counts of 33 and 34 before the reservation, at a READY and at a SAVE station. -/
theorem witness_OpenSessionMarksJournal :
    let s (n : Nat) (st : StationState) : State := { hall { readyStation with state := st } with reservations := n }
    (∀ n st, (s n st).Serving ∧ ((s n st).station 0).session = none ∧ ((s n st).station 0).state = st ∧
      (s n st).NoticesKept) ∧ (1 : Byte).toNat = (0 : StationId).val + 1 ∧
      (s 478 .ready).journal.length + (s 478 .ready).reservations = 479 ∧
      (s 477 .save).journal.length + (s 477 .save).reservations ≠ 479 ∧
      (s 478 .save).journal.length + (s 478 .save).reservations ≤ 510 ∧ 1 ≤ (500 : BitVec 32).toInt ∧
      (500 : BitVec 32).toInt ≤ (readyStation.profile.presetHold : Int) :=
  ⟨fun _ _ => ⟨⟨⟨rfl, rfl, rfl⟩, rfl⟩, rfl, rfl, .nil, nofun⟩, by decide +kernel⟩

/-- An open jam record with these counts. -/
def record (inDoubt purged : Nat) : JamRecord :=
  { JamRecord.opened 6 .line 0 with inDoubt := inDoubt, purged := purged }

/-- READY falls with eight sheets in the path: at a READY station with no session and with a HOLDING one, and at a
RECOVER station. -/
theorem witness_ReadyFallJams :
    let path := [1, 2, 3, 4, 5, 6, 7, 8].map stray
    let x : Session := { copier with phase := .holding }
    let s := hall { readyStation with path := path }
    let u := hall (busy x path)
    let v := hall { readyStation with state := .recover, jam := some (record 3 1), path := path }
    (∀ t ∈ [s, u, v], t.running = true ∧ (t.station 0).lines.ready.level = true ∧
      (t.station 0).lines.ready.timing = none ∧ (t.station 0).path = stray 1 :: [2, 3, 4, 5, 6, 7, 8].map stray) ∧
      ([2, 3, 4, 5, 6, 7, 8].map stray).length ≤ 7 ∧ (s.station 0).state = .ready ∧ (s.station 0).session = none ∧
      (u.station 0).state = .ready ∧ (u.station 0).session = some x ∧ x.copying = true ∧
      (v.station 0).state = .recover ∧ (v.station 0).session = none ∧ (v.station 0).jam = some (record 3 1) ∧
      (record 3 1).inDoubt + (([2, 3, 4, 5, 6, 7, 8].map stray).length + 1) ≤ 4294967295 := by decide +kernel

/-- The purge of the third of three sheets. -/
theorem witness_PurgeCompletes :
    let s := hall { readyStation with state := .recover, jam := some (record 3 2) }
    s.running = true ∧ (s.station 0).lines.deliver.level = false ∧ (s.station 0).lines.deliver.timing = none ∧
      (s.station 0).path = [] ∧ (s.station 0).state = .recover ∧ (s.station 0).jam = some (record 3 2) ∧
      (record 3 2).lost = none ∧ (record 3 2).purged + 1 = (record 3 2).inDoubt := by decide +kernel

/-- A JAM fall and a READY rise at a JAMMED station whose record has nothing in doubt. -/
theorem witness_RecoverEndsAtOnce :
    let s := hall { readyStation with
      state := .jammed
      jam := some (record 0 0)
      lines := { Lines.reset with ready := standing true, jam := standing true } }
    let u := hall { readyStation with state := .jammed, jam := some (record 0 0), lines := Lines.reset }
    (∀ t ∈ [s, u], t.running = true ∧ (t.station 0).state = .jammed ∧ (t.station 0).jam = some (record 0 0)) ∧
      (record 0 0).lost = none ∧ (record 0 0).inDoubt ≤ (record 0 0).purged ∧
      (s.station 0).lines.jam.level = true ∧ (s.station 0).lines.jam.timing = none ∧
      (s.station 0).lines.ready.level = true ∧ (u.station 0).lines.ready.level = false ∧
      (u.station 0).lines.ready.timing = none ∧ (u.station 0).lines.jam.level = false := by decide +kernel

/-- The device in SHUTDOWN, with the greatest identity. -/
theorem witness_ShutdownFramesRefused :
    let s : State := { hall readyStation with device := .shutdown }
    s.alive = true ∧ s.device = .shutdown ∧ (s.station 0).reader.condition ≠ .waitingIdle ∧
      (9999999999 : BitVec 40).toNat ≤ 9999999999 := by decide +kernel

/-- A SAVE station whose linked timer has a duration, one whose linked timer has none, and a journal that is full to
one record. -/
theorem witness_SaveFramesRefused :
    let save : Station := { readyStation with state := .save, timerA := .expired }
    let s := hall { save with reader := { ReaderPort.reset with condition := .assembling } }
    let u := hall { save with profile := { Profile.default with linkCard := .b } }
    let full : State := { s with reservations := 511 }
    (∀ t ∈ [s, u, full], t.running = true ∧ (t.station 0).state = .save ∧ (t.station 0).session = none ∧
      (t.station 0).reader.condition ≠ .waitingIdle) ∧
      (s.station 0).reader.condition = .assembling ∧ (9999999999 : BitVec 40).toNat ≤ 9999999999 ∧
      510 < full.journal.length + full.reservations ∧ s.journal.length + s.reservations ≤ 510 ∧
      s.lookup (9999999999 : BitVec 40).toNat = none ∧ (s.station 0).duration (s.station 0).profile.linkCard = some 300 ∧
      (u.station 0).duration (u.station 0).profile.linkCard = none ∧ (u.station 0).quiet = true ∧
      (u.station 0).path = [] := by decide +kernel

/-- A COVERED and an UNCOVERED sheet of an ACTIVE session and of a CLOSING one, and an UNPERMITTED sheet of neither; the
next sheet one millisecond short of its limit. -/
theorem witness_DeliveryCounted :
    let e : Sheet := ⟨1, 0, 0, .uncovered 72, some 41⟩
    let x : Session := { copier with phase := .closing .host }
    let s (y : Session) (e : Sheet) : State := { hall (busy y [e, sheet 2 0]) with now := 9999 }
    (∀ t ∈ [s copier e, s x e, s copier (sheet 1 0), s copier (stray 1)], t.running = true ∧
      (t.station 0).lines.deliver.level = false ∧ (t.station 0).lines.deliver.timing = none ∧
      t.now < (sheet 2 0).fedAt + 1000 * (t.station 0).profile.transitLimit) ∧
      (∀ y e, ((s y e).station 0).path = e :: sheet 2 0 :: [] ∧ ((s y e).station 0).session = some y) ∧
      e.serial = some copier.serial ∧ (sheet 1 0).serial = some copier.serial ∧ copier.copying = true ∧
      x.copying = false ∧ (stray 1).serial ≠ some copier.serial :=
  ⟨by decide +kernel, fun _ _ => ⟨rfl, rfl⟩, by decide +kernel⟩

/-- A DEPARTMENT account of a past period and of the present one, and a PREPAID one, with the minimum opening amount
as credit; a READY station and a SAVE one with a free count of 33. -/
theorem witness_CampusGrantAligns :
    let acct (f : Figures) : Slot := { prepaid with account := { prepaid.account with figures := f } }
    let s (st : StationState) (f : Figures) : State :=
      { hall { readyStation with state := st } with slots := [(1207, acct f)], period := 15, reservations := 478 }
    (∀ st f, (s st f).running = true ∧ ((s st f).station 0).reader.condition ≠ .waitingIdle ∧
      ((s st f).station 0).state = st ∧ ((s st f).station 0).session = none ∧
      (s st f).journal.length + (s st f).reservations ≤ 510 ∧ (s st f).slot 1207 = some (acct f)) ∧
      (s .ready (.prepaid 50)).lookup (7000420015 : BitVec 40).toNat = some 1207 ∧
      (∀ f, (acct f).suspect = false ∧ (acct f).damage = .sound ∧ (acct f).account.blocked = false ∧
        (acct f).account.held = 0) ∧
      (Figures.prepaid 50).Credits 0 15 50 (.prepaid 50) ∧
      (Figures.department 50 40 14).Credits 0 15 50 (.department 50 0 15) ∧
      (Figures.department 90 40 15).Credits 0 15 50 (.department 90 40 15) ∧
      (s .save (.prepaid 50)).journal.length + (s .save (.prepaid 50)).reservations = 479 ∧
      readyStation.profile.minOpening ≤ 50 :=
  ⟨fun _ _ => ⟨rfl, nofun, rfl, rfl, show 1 + 478 ≤ 510 by decide, rfl⟩, by decide +kernel,
    fun _ => ⟨rfl, rfl, rfl, rfl⟩, ⟨rfl, rfl⟩, ⟨rfl, rfl⟩, ⟨rfl, rfl⟩, by decide +kernel⟩

/-- ACTIVE, HOLDING and HELD sessions whose next sheet fits after the extend, and whose next sheet does not; a
DEPARTMENT account of a past period with a credit of one cent. -/
theorem witness_ExtendAtPause :
    let dept : Slot := { department with account := { department.account with figures := .department 501 0 14 } }
    let x (phase : Phase) (charged : Nat) : Session := { copier with payment := .campus 905, phase := phase, charged := charged }
    let s (y : Session) : State := { hall (busy y []) with slots := [(905, dept)], period := 15 }
    (∀ y, (s y).running = true ∧ ((s y).station 0).reader.condition ≠ .waitingIdle ∧ ((s y).station 0).state ≠ .save ∧
      ((s y).station 0).session = some y ∧ (s y).slot 905 = some dept) ∧
      (∀ p ∈ [Phase.active, .holding, .held], (x p 0).copying = true ∧ (x p 0).payment = .campus 905 ∧
        ({ x p 0 with hold := 501, extendCount := 1 } : Session).pauseCondition readyStation.profile = false ∧
        (x p 5000).copying = true ∧
        ({ x p 5000 with hold := 501, extendCount := 1 } : Session).pauseCondition readyStation.profile = true) ∧
      dept.identity = (3300118402 : BitVec 40).toNat ∧ dept.suspect = false ∧ dept.damage = .sound ∧
      dept.account.blocked = false ∧ 1 = min readyStation.profile.presetHold 1 ∧
      dept.account.figures.Credits dept.account.held 15 1 (.department 501 0 15) :=
  ⟨fun _ => ⟨rfl, nofun, nofun, rfl, rfl⟩, by decide +kernel, rfl, rfl, rfl, rfl, rfl, rfl, rfl⟩

/-- A SAVE station and a READY one, at a free count of 33 and at one of 34. -/
theorem witness_BankAdmissionWakes :
    let s (n : Nat) (st : StationState) : State := { hall { readyStation with state := st } with reservations := n }
    (∀ n st, (s n st).running = true ∧ ((s n st).station 0).reader.condition ≠ .waitingIdle ∧
      ((s n st).station 0).state = st ∧ ((s n st).station 0).session = none) ∧
      (s 478 .save).journal.length + (s 478 .save).reservations = 479 ∧
      (s 477 .ready).journal.length + (s 477 .ready).reservations ≤ 510 :=
  ⟨fun _ _ => ⟨rfl, nofun, rfl, rfl⟩, by decide +kernel⟩

/-- A JAM rise at a RECOVER station with an empty path and with eight sheets. -/
theorem witness_JamAtRecoverFolds :
    let s (path : List Sheet) := hall { readyStation with state := .recover, jam := some (record 3 1), path := path }
    (∀ p, (s p).running = true ∧ ((s p).station 0).lines.jam.level = false ∧ ((s p).station 0).lines.jam.timing = none ∧
      ((s p).station 0).state = .recover ∧ ((s p).station 0).session = none ∧
      ((s p).station 0).jam = some (record 3 1) ∧ ((s p).station 0).path = p) ∧
      (record 3 1).inDoubt + ([] : List Sheet).length ≤ 4294967295 ∧
      (record 3 1).inDoubt + ([1, 2, 3, 4, 5, 6, 7, 8].map stray).length ≤ 4294967295 :=
  ⟨fun _ => ⟨rfl, rfl, rfl, rfl, rfl, rfl, rfl⟩, by decide +kernel⟩

/-- A JAMMED station with JAM asserted and a RECOVER station, each with a full path. -/
theorem witness_TransitExpiryFolds :
    let path := [1, 2, 3, 4, 5, 6, 7, 8].map stray
    let s := hall { readyStation with
      state := .jammed
      jam := some (record 0 0)
      path := path
      lines := { Lines.reset with ready := standing true, jam := standing true } }
    let u := hall { readyStation with state := .recover, jam := some (record 3 3), path := path }
    (∀ t ∈ [s, u], t.running = true ∧ (t.station 0).path = stray 1 :: [2, 3, 4, 5, 6, 7, 8].map stray ∧
      (t.station 0).session = none ∧ 10000 = max t.now ((stray 1).fedAt + 1000 * (t.station 0).profile.transitLimit)) ∧
      ([2, 3, 4, 5, 6, 7, 8].map stray).length ≤ 8 ∧ (s.station 0).state = .jammed ∧ (u.station 0).state = .recover ∧
      (s.station 0).jam = some (record 0 0) ∧ (u.station 0).jam = some (record 3 3) ∧
      (record 3 3).purged ≤ (record 3 3).inDoubt ∧ (record 3 3).inDoubt + (7 + 1) ≤ 4294967295 ∧
      (False ↔ (s.station 0).lines.jam.level = false ∧ (s.station 0).lines.ready.level = true) ∧
      (True ↔ (u.station 0).lines.jam.level = false ∧ (u.station 0).lines.ready.level = true) := by decide +kernel

/-- A restart at each piece of station 1 and at its RESTART record: an authorization, a session that is not one, eight
sheets in the path, a COUNTER session; and room for one record. -/
theorem witness_RestartPieceMade :
    let r (next : Nat) : Restart :=
      { cause := .pin, before := .running, next := next, settled := [], corrected := false, faulted := false }
    let s (x : Session) (next : Nat) : State :=
      { hall (busy x ([1, 2, 3, 4, 5, 6, 7, 8].map stray)) with restart := some (r next), reservations := 1 }
    (∀ x next, (s x next).pending = [] ∧ (s x next).restart = some (r next) ∧
      ((s x next).station 0).session = some x ∧
      ((s x next).station 0).path = stray 1 :: [2, 3, 4, 5, 6, 7, 8].map stray) ∧
      (r 1).next = 1 + (0 : StationId).val ∧ (r 9).next = 9 + (0 : StationId).val ∧
      (r 17).next = 17 + (0 : StationId).val ∧ waiting.phase = .authorizing ∧ copier.phase ≠ .authorizing ∧
      ([2, 3, 4, 5, 6, 7, 8].map stray).length ≤ 8 ∧ copier.payment = .counter 7 ∧ (r 25).next = 25 ∧
      (s copier 25).journal.length < 512 :=
  ⟨fun _ _ => ⟨rfl, rfl, rfl, rfl⟩, by decide +kernel⟩

/-- A power-up cut before its first piece and after its seventeenth. -/
theorem witness_RestartGoesOn :
    let s := sample false []
    s.pending = [] ∧ s.restart = none ∧
      (∃ u, exec (.supplyReturn (some 0)) s = .next u ∧ u.restart.isSome = true) ∧
      ∃ u, exec (.supplyReturn (some 17)) s = .next u ∧ u.restart.isSome = true :=
  ⟨rfl, rfl, ⟨_, rfl, by decide +kernel⟩, ⟨_, rfl, by decide +kernel⟩⟩

/-- Each cause, and a journal that the restart's record brings to a free count of 32. -/
theorem witness_RestartMarksJournal :
    let low := archive (List.replicate 479 (Record.restart ⟨1, 0, .pin, 1, 0⟩))
    let sag : State := { State.reset with device := .shutdown }
    let pin : State := { State.reset with resetPin := true }
    let asked : State := { State.reset with reply := some { kind := 0x86, body := [0], restarts := true } }
    (low.restart = none ∧ low.resetPin = false ∧ low.mainSupply = false ∧ low.journal.length = 479) ∧
      (sag.restart = none ∧ sag.resetPin = false ∧ sag.device = .shutdown) ∧
      (pin.restart = none ∧ pin.resetPin = true ∧ pin.mainSupply = true ∧ pin.cameUp = false ∧ pin.pfail = false) ∧
      (asked.restart = none ∧ asked.alive = true ∧ asked.pfail = false ∧
        ∃ r, asked.reply = some r ∧ r.restarts = true) :=
  ⟨⟨rfl, rfl, rfl, List.length_replicate⟩, ⟨rfl, rfl, rfl⟩, ⟨rfl, rfl, rfl, rfl, rfl⟩, rfl, rfl, rfl, _, rfl, rfl⟩

/-! ## Witnesses of the clauses on overruns, lone deliveries, empty-path jams, unanswered pauses and idle expiries -/

/-- Eight sheets, the most a path holds between events. -/
def fullPath : List Sheet := [1, 2, 3, 4, 5, 6, 7, 8].map stray

/-- A station with a full path overruns: the pins as `FeedOverrun` and its companions ask. -/
def Overruns (s : State) : Prop :=
  s.running = true ∧ (s.station 0).lines.feed.level = false ∧ (s.station 0).lines.feed.timing = none ∧
    (s.station 0).path.length = 8

/-- An ACTIVE session whose ninth sheet is COVERED exactly and is one tenth short, a FORCED one without PERMIT, and an
ACTIVE one at a NOT-READY station with READY deasserted. -/
theorem witness_FeedOverrunSession :
    let x : Session := { copier with charged := 4928 }
    let y : Session := { copier with charged := 4929 }
    let z : Session := { copier with phase := .held, forced := true }
    let s (w : Session) : State := hall (busy w fullPath)
    let u := hall { busy x fullPath with state := .notReady, lines := Lines.reset }
    (∀ w, Overruns (s w) ∧ ((s w).station 0).session = some w ∧ ((s w).station 0).state = .ready) ∧
      (∀ w ∈ [x, y, z], w.copying = true ∧
        w.plan.priceAt w.rate w.tier ((s w).station 0).lines.kind = 72) ∧
      (s x).permit 0 = true ∧ 72 ≤ 10 * x.hold - x.charged - x.pending ∧ (s y).permit 0 = true ∧
      10 * y.hold - y.charged - y.pending < 72 ∧ (s z).permit 0 = false ∧
      (True ↔ ((s x).station 0).lines.jam.level = false ∧ ((s x).station 0).lines.ready.level = true) ∧
      Overruns u ∧ (u.station 0).session = some x ∧ (u.station 0).state = .notReady ∧
      (False ↔ (u.station 0).lines.jam.level = false ∧ (u.station 0).lines.ready.level = true) :=
  ⟨fun _ => ⟨⟨rfl, rfl, rfl, rfl⟩, rfl, rfl⟩, by decide +kernel, by decide +kernel, by decide +kernel,
    by decide +kernel, by decide +kernel, by decide +kernel, by decide +kernel, ⟨rfl, rfl, rfl, rfl⟩, rfl, rfl,
    by decide +kernel⟩

/-- An AUTHORIZING session, and a CLOSING COUNTER one with and without stop-pending. -/
theorem witness_FeedOverrunUnpaused :
    let x (stop : Bool) : Session := { copier with phase := .closing .customer, stopPending := stop }
    let s (w : Session) : State := hall (busy w fullPath)
    (∀ w, Overruns (s w) ∧ ((s w).station 0).session = some w ∧ ((s w).station 0).state = .ready ∧
      (True ↔ ((s w).station 0).lines.jam.level = false ∧ ((s w).station 0).lines.ready.level = true)) ∧
      waiting.phase = .authorizing ∧ waiting.suspended = false ∧
      ∀ b, (x b).phase = .closing .customer ∧ (x b).suspended = false ∧ (x b).payment = .counter 7 :=
  ⟨fun _ => ⟨⟨rfl, rfl, rfl, rfl⟩, rfl, rfl, fun _ => ⟨rfl, rfl⟩, fun _ => trivial⟩, rfl, rfl,
    fun _ => ⟨rfl, rfl, rfl⟩⟩

theorem witness_FeedOverrunOffline :
    let s := hall { Station.reset with path := fullPath }
    Overruns s ∧ (s.station 0).session = none ∧ (s.station 0).state = .offline :=
  ⟨⟨rfl, rfl, rfl, rfl⟩, rfl, rfl⟩

/-- A JAMMED station with JAM asserted and a RECOVER station, without a session and with a HOLDING one; an in-doubt
count that the fold brings to its greatest. -/
theorem witness_FeedOverrunFolds :
    let x : Session := { copier with phase := .holding }
    let s (session : Option Session) (r : JamRecord) : State := hall { readyStation with
      state := .jammed
      jam := some r
      session := session
      path := fullPath
      lines := { Lines.reset with ready := standing true, jam := standing true } }
    let u (session : Option Session) (r : JamRecord) : State := hall { readyStation with
      state := .recover
      jam := some r
      session := session
      path := fullPath }
    (∀ w r, Overruns (s w r) ∧ ((s w r).station 0).state = .jammed ∧ ((s w r).station 0).jam = some r ∧
      ((s w r).station 0).session = w ∧
      (False ↔ ((s w r).station 0).lines.jam.level = false ∧ ((s w r).station 0).lines.ready.level = true)) ∧
      (∀ w r, Overruns (u w r) ∧ ((u w r).station 0).state = .recover ∧ ((u w r).station 0).jam = some r ∧
        ((u w r).station 0).session = w ∧
        (True ↔ ((u w r).station 0).lines.jam.level = false ∧ ((u w r).station 0).lines.ready.level = true)) ∧
      x.copying = true ∧ (record 3 1).purged ≤ (record 3 1).inDoubt ∧ (record 4294967286 0).purged ≤ 4294967286 ∧
      (record 4294967286 0).inDoubt + 9 ≤ 4294967295 :=
  ⟨fun _ _ => ⟨⟨rfl, rfl, rfl, rfl⟩, rfl, rfl, rfl, nofun, fun h => nomatch h.1⟩,
    fun _ _ => ⟨⟨rfl, rfl, rfl, rfl⟩, rfl, rfl, rfl, fun _ => ⟨rfl, rfl⟩, fun _ => trivial⟩, by decide +kernel⟩

/-- A lone COVERED sheet and a stray one, without a session, with an ACTIVE, a HOLDING, a HELD and an AUTHORIZING one, at a
READY station that is not quiet; the same station NOT-READY; a quiet one whose linked timer runs anew. -/
theorem witness_LoneDelivery :
    let sessions : List (Option Session) := [none, some copier, some { copier with phase := .holding },
      some { copier with phase := .held, forced := true }, some waiting]
    let st (w : Option Session) (e : Sheet) : Station := { readyStation with session := w, path := [e] }
    let awake : Station := { st none (stray 1) with timerA := .expired, profile := { Profile.default with linkDeliver := .a } }
    let away (w : Option Session) (e : Sheet) : Station := { st w e with state := .notReady }
    (∀ w e, (hall (st w e)).running = true ∧ ((hall (st w e)).station 0).lines.deliver.level = false ∧
      ((hall (st w e)).station 0).lines.deliver.timing = none ∧ ((hall (st w e)).station 0).path = [e] ∧
      ((hall (st w e)).station 0).session = w ∧ ((hall (st w e)).station 0).state = .ready ∧
      ((hall (away w e)).station 0).state = .notReady) ∧
      (∀ w ∈ sessions, ((hall (st w (sheet 1 0))).station 0).quiet = false ∧
        w.all fun x => x.phase.closeReason.isNone) ∧
      (sheet 1 0).serial = some copier.serial ∧ copier.copying = true ∧ (sheet 1 0).serial = some waiting.serial ∧
      waiting.copying = false ∧ (stray 1).serial ≠ some copier.serial ∧
      ((hall awake).station 0).quiet = true ∧ ((hall awake).station 0).path = [stray 1] ∧
      ((hall awake).station 0).duration ((hall awake).station 0).profile.linkDeliver = some 300 :=
  ⟨fun _ _ => ⟨rfl, rfl, rfl, rfl, rfl, rfl, rfl⟩, by decide +kernel⟩

/-- A quiet station whose DELIVER link has no duration: without a session; with an ACTIVE one whose own sheet it is, and
whose sheet it is not. -/
theorem witness_LoneDeliveryQuiet :
    let off : Profile := { Profile.default with sessionB := 0 }
    let st (w : Option Session) (e : Sheet) : Station :=
      { readyStation with session := w, path := [e], timerA := .expired, profile := off }
    (∀ w e, (hall (st w e)).running = true ∧ ((hall (st w e)).station 0).state = .ready ∧
      ((hall (st w e)).station 0).lines.deliver.level = false ∧
      ((hall (st w e)).station 0).lines.deliver.timing = none ∧ ((hall (st w e)).station 0).path = [e] ∧
      ((hall (st w e)).station 0).session = w) ∧
      (∀ w ∈ [none, some copier], ((hall (st w (sheet 1 0))).station 0).quiet = true ∧
        ((hall (st w (sheet 1 0))).station 0).duration ((hall (st w (sheet 1 0))).station 0).profile.linkDeliver = none) ∧
      copier.copying = true ∧ copier.stopPending = false ∧ copier.payment = .counter 7 ∧
      (sheet 1 0).serial = some copier.serial ∧ (stray 1).serial ≠ some copier.serial :=
  ⟨fun _ _ => ⟨rfl, rfl, rfl, rfl, rfl, rfl⟩, by decide +kernel⟩

/-- Sessions of each state, with a tier in date, at a READY and at a NOT-READY station. -/
theorem witness_JamRiseEmptyPathSession :
    let s (x : Session) (state : StationState) : State := hall { busy x [] with state := state }
    (∀ x state, (s x state).running = true ∧ ((s x state).station 0).lines.jam.level = false ∧
      ((s x state).station 0).lines.jam.timing = none ∧ ((s x state).station 0).path = [] ∧
      ((s x state).station 0).session = some x ∧ ((s x state).station 0).state = state) ∧
      ∀ x ∈ [copier, { copier with phase := .holding }, { copier with phase := .closing .customer }, waiting],
        x.jammed ≤ 4294967295 ∧ x.tier = x.plan.tierFor (min 65535 x.covered.toList.sum) :=
  ⟨fun _ _ => ⟨rfl, rfl, rfl, rfl, rfl, rfl⟩, by decide +kernel⟩

/-- No session, an ACTIVE one, a HELD one. -/
theorem witness_StoppedUnanswered :
    let s (w : Option Session) : State := hall { readyStation with session := w }
    (∀ w, (s w).running = true ∧ ((s w).station 0).lines.stopped.level = false ∧
      ((s w).station 0).lines.stopped.timing = none ∧ ((s w).station 0).session = w) ∧
      copier.phase ≠ .holding ∧ ({ copier with phase := .held } : Session).phase ≠ .holding :=
  ⟨fun _ => ⟨rfl, rfl, rfl, rfl⟩, by decide +kernel⟩

/-- An expiry at its own instant: at a NOT-READY station, with a sheet in the path, with the other timer running, with no
duration for either timer, and with an AUTHORIZING and a CLOSING session. -/
theorem witness_IdleExpiryElsewhere :
    let s (st : Station) : State := { hall st with now := 300000 }
    let moved := { readyStation with state := .notReady }
    let fed := { readyStation with path := [stray 1] }
    let other := { busy copier [] with timerB := .running 300001 }
    let none' := { readyStation with profile := { Profile.default with idleA := 0 } }
    let closing : Session := { copier with phase := .closing .host }
    (∀ st ∈ [moved, fed, other, none', busy waiting [], busy closing []], (s st).running = true ∧
      ((s st).station 0).timer .a = .running 300000 ∧ (s st).now ≤ 300000) ∧ TimerId.a ≠ .b ∧
      ((s moved).station 0).state ≠ .ready ∧ ((s fed).station 0).path ≠ [] ∧
      ((s other).station 0).duration .b = some 30 ∧ ((s other).station 0).timer .b ≠ .expired ∧
      ((s none').station 0).duration .a = none ∧ ((s none').station 0).duration .b = none ∧
      waiting.copying = false ∧ closing.copying = false := by decide +kernel

/-- R188, R38: a RUNNING timer sends its status 1, the presence byte 1 and the seconds rounded up; a STOPPED and an EXPIRED
one send the presence byte 0 and no seconds. R188: a listed COVERED sheet has a presence byte before its price. -/
theorem test_presence_bytes :
    timerBytes 0 (.running 1500) = [1, 1, 2, 0] ∧ timerBytes 0 .stopped = [0, 0] ∧ timerBytes 0 .expired = [2, 0] ∧
      sheetBytes 300 0 (.covered 72) (some 41) = [0x2C, 1, 0, 1, 1, 72, 0, 1, 41, 0, 0, 0] ∧
      sheetBytes 5 2 .unpermitted none = [5, 0, 2, 3, 0, 0] := by decide +kernel

/-- PFAIL recognized within a restart, at its last piece with a session still standing, at the RESET pin, and while the
reply of a RESET request is sent. -/
theorem witness_RestartMeetsPfail :
    let r : Restart :=
      { cause := .command, before := .running, next := 27, settled := [], corrected := false, faulted := false }
    let reply : Reply := { kind := 0x86, body := [0], restarts := true }
    let s : State := { hall (busy copier []) with pfail := true }
    let last : State := { s with restart := some r }
    let pin : State := { s with resetPin := true }
    let asked : State := { s with reply := some reply }
    (last.mainSupply = true ∧ last.restart = some r ∧ last.pfail = true ∧ last.pending = [] ∧ r.next = 27 ∧
      ∃ u, step { last with pfail := false } = .next u) ∧
      (pin.pfail = true ∧ pin.restart = none ∧ pin.resetPin = true ∧ pin.mainSupply = true ∧ pin.cameUp = false ∧
        ∃ u, exec (.resetPinDeasserted none) { pin with pfail := false } = .next u) ∧
      (asked.pfail = true ∧ asked.restart = none ∧ asked.alive = true ∧ asked.reply = some reply ∧
        reply.restarts = true ∧ ∃ u, exec (.replySent none) { asked with pfail := false } = .next u) :=
  ⟨⟨rfl, rfl, rfl, rfl, rfl, _, rfl⟩, ⟨rfl, rfl, rfl, rfl, rfl, _, rfl⟩, rfl, rfl, rfl, rfl, rfl, _, rfl⟩

end Sys2Proof.Tests
end

section
/-! Support for the statements of 01: the part with one station and the notices as given, and what each operation of
a station makes of it. -/

namespace Sys2Proof.Machine

/-- The part with station `i` and the pending notices as given. -/
def State.atStation (s : State) (i : StationId) (st : Station) (notices : List Notice) : State :=
  { s.setStation i st with notices := notices }

section AtStation

variable (s : State) (i : StationId) (st : Station) (ns : List Notice)

theorem State.atStation_station : s.atStation i (s.station i) s.notices = s := by
  unfold State.atStation
  rw [State.setStation_station]

theorem State.atStation_reach (t : Nat) : (s.reach t).atStation i (s.station i) s.notices = s.reach t :=
  (s.reach t).atStation_station i

theorem State.setStation_eq_atStation : s.setStation i st = s.atStation i st s.notices := rfl

@[simp] theorem State.station_atStation_self : (s.atStation i st ns).station i = st :=
  s.station_setStation_self i st

@[simp] theorem State.station_atStation_of_ne {j : StationId} (h : j ≠ i) :
    (s.atStation i st ns).station j = s.station j :=
  s.station_setStation_of_ne h st

@[simp] theorem State.notices_atStation : (s.atStation i st ns).notices = ns := rfl
@[simp] theorem State.now_atStation : (s.atStation i st ns).now = s.now := rfl
@[simp] theorem State.stamp_atStation : (s.atStation i st ns).stamp = s.stamp := rfl
@[simp] theorem State.slots_atStation : (s.atStation i st ns).slots = s.slots := rfl
@[simp] theorem State.journal_atStation : (s.atStation i st ns).journal = s.journal := rfl
@[simp] theorem State.reservations_atStation : (s.atStation i st ns).reservations = s.reservations := rfl

/-- PERMIT follows the station's state and session alone (R25). -/
theorem State.permit_atStation (state : st.state = (s.station i).state) (session : st.session = (s.station i).session) :
    (s.atStation i st ns).permit i = s.permit i := by
  simp only [State.permit, State.station_atStation_self, state, session]
  rfl

@[simp] theorem State.setStation_atStation (st' : Station) :
    (s.atStation i st ns).setStation i st' = s.atStation i st' ns := by
  simp [State.atStation, State.setStation]

@[simp] theorem State.modStation_atStation (f : Station → Station) :
    (s.atStation i st ns).modStation i f = s.atStation i (f st) ns := by
  simp [State.modStation]

@[simp] theorem State.setSession_atStation (x : Option Session) :
    (s.atStation i st ns).setSession i x = s.atStation i { st with session := x } ns :=
  s.modStation_atStation i st ns _

@[simp] theorem State.postAt_atStation (k : NoticeKind) :
    (s.atStation i st ns).postAt k i = s.atStation i st (insertNotice ⟨k, i.val + 1⟩ ns) := rfl

@[simp] theorem State.enterState_atStation (new : StationState) :
    (s.atStation i st ns).enterState i new =
      s.atStation i { st with state := new } (insertNotice ⟨changeNotice st.state new, i.val + 1⟩ ns) := by
  simp [State.enterState]

@[simp] theorem State.indicate_atStation (f : Indicator) :
    (s.atStation i st ns).indicate i f = s.atStation i { st with reader := st.reader.produce f } ns :=
  s.modStation_atStation i st ns _

@[simp] theorem State.setLine_atStation (m : Line) (v : LineState) :
    (s.atStation i st ns).setLine i m v = s.atStation i { st with lines := st.lines.set m v } ns :=
  s.modStation_atStation i st ns _

@[simp] theorem State.reloadBoth_atStation :
    (s.atStation i st ns).reloadBoth i = s.atStation i { st with
      timerA := loadedTimer s.now (st.duration .a), timerB := loadedTimer s.now (st.duration .b) } ns :=
  s.modStation_atStation i st ns _

@[simp] theorem State.joinPath_atStation (n : Nat) (k : Kind) (c : Coverage) (x : Option Nat) :
    (s.atStation i st ns).joinPath i n k c x = s.atStation i { st with path := st.path ++ [⟨n, k, s.now, c, x⟩] } ns :=
  s.modStation_atStation i st ns _

end AtStation

/-! ### Requests -/

/-- The number a host sends for station `i` names it. -/
theorem stationOf_of_toNat {n : Byte} {i : StationId} (h : n.toNat = i.val + 1) : stationOf n = some i := by
  have bound := i.isLt
  unfold stationOf
  rw [dif_pos (by omega)]
  exact congrArg some (Fin.ext (by simp only [h]; omega))

/-- A number outside 1 to 8 names no station. -/
theorem stationOf_of_out {n : Byte} (h : n.toNat = 0 ∨ 8 < n.toNat) : stationOf n = none := by
  unfold stationOf
  rw [dif_neg (by omega)]

/-- The one byte of a number that a byte holds is that byte. -/
theorem leBytes_one_toNat (n : Byte) : leBytes 1 n.toNat = [n] := by
  simp [leBytes]

/-- The eight counts of a vector, one for each kind, as a list. -/
theorem toList_of_eight (v : Vector Nat 8) : v.toList = [v[0], v[1], v[2], v[3], v[4], v[5], v[6], v[7]] := by
  apply List.ext_getElem (by simp)
  intro k hk _
  rw [Vector.length_toList] at hk
  interval_cases k <;> rfl

/-- In SHUTDOWN a request that is not one of the three is answered SHUTDOWN (R166). -/
theorem State.hostRequest_shutdown {s : State} {r : Instr} {kind : Byte} (free : s.LineFree) (down : s.device = .shutdown)
    (fits : bodyFits kind (requestBody r) = true) (refused : servedInShutdown r = false) (reset : r ≠ .reset) :
    s.hostRequest kind r = s.replied (replyKind kind) 15 [] := by
  have answer : ({ s with hostCondition := .hunting } : State).perform r =
      ({ s with hostCondition := .hunting }, .refuse .shutdown) := by
    unfold State.perform
    rw [if_pos ⟨down, refused⟩]
  rw [exec_of_lineFree free fits, State.answer, answer, decide_eq_false reset]
  rfl

/-- Settles O20: the reply is the owning rule's, by the three cases of the station number and the device state. -/
theorem readMetersInOrder : Obligations.ReadMetersInOrder := by
  intro s n free
  refine ⟨fun run out => ?_, fun down => ?_, fun run i hn m hm => ?_⟩
  · rw [exec_readMeters ⟨free, run⟩, State.ownReadMeters, stationOf_of_out out]
    rfl
  · rw [exec_request (kind := 0x17) rfl, State.hostRequest_shutdown (r := .readMeters n) free down rfl rfl nofun]
    rfl
  · have bytes : leBytes 1 (stationNumber i) = [n] := by rw [stationNumber, ← hn, leBytes_one_toNat]
    have meters : (({ s with hostCondition := .hunting } : State).station i).meters = m := hm
    rw [exec_readMeters ⟨free, run⟩, State.ownReadMeters, stationOf_of_toNat hn]
    simp only [bytes, meters, Meters.bytes, toList_of_eight]
    rfl
end Sys2Proof.Machine
end

section
/-! The copier input lines (R1 to R5): candidate timings, eventless and timed recognitions. -/

namespace Sys2Proof.Machine

/-! ### Lines -/

@[simp] theorem Lines.set_set (l : Lines) (m : Line) (v w : LineState) : (l.set m v).set m w = l.set m w := by
  cases m <;> rfl

/-- The filter window of a line, by the class of the line (R2). -/
theorem Profile.window_eq (p : Profile) (m : Line) :
    p.window m = if m = .jam ∨ m = .ready ∨ m = .stopped then p.levelWindow else p.pulseWindow := by
  cases m <;> rfl

/-- The instant already reached is reached without a change. -/
@[simp] theorem State.reach_now_self (s : State) : s.reach s.now = s := by
  simp [State.reach]

/-- A running part goes on running while its interval count rises and a station changes. -/
@[simp] theorem State.running_reach (s : State) (t : Nat) : (s.reach t).running = s.running := rfl
@[simp] theorem State.running_setStation (s : State) (i : StationId) (st : Station) :
    (s.setStation i st).running = s.running := rfl

/-- A change of one line changes that station's lines alone. -/
theorem State.setLine_eq (s : State) (i : StationId) (m : Line) (v : LineState) :
    s.setLine i m v = s.setStation i { s.station i with lines := (s.station i).lines.set m v } := rfl

/-- A recognition of the level that is not recognized yet, in the RUNNING device (R1, R3): the interval count comes to
the end of the window, the line takes the level, and where the timing is not silent the event of the line follows. -/
theorem State.recognize_eq {s : State} {i : StationId} {m : Line} {v : Bool} (run : s.running = true)
    (level : ((s.station i).lines.get m).level ≠ v) :
    s.recognize i m v =
      let t := (s.reach (((s.station i).elapses m).getD s.now)).setLine i m (.recognize v)
      if ((s.station i).lines.get m).silent then t else (t.lineEvent i m v).endEvent i (s.station i).state := by
  have acts : ¬ (s.running = false ∨ ((s.station i).lines.get m).level = v) := by
    rintro (off | same)
    · exact absurd (run.symm.trans off) nofun
    · exact level same
  rw [State.recognize, if_neg acts]

/-- The end of an event that leaves the station's state as it was makes no quiet test (R42). -/
theorem State.endEvent_of_same {s : State} {i : StationId} {before : StationState} (h : (s.station i).state = before) :
    s.endEvent i before = s := by
  unfold State.endEvent
  rw [if_neg (fun k => k.1 (h ▸ k.2))]

/-- The levels whose recognition is no event (R3). -/
theorem State.lineEvent_of_eventless (s : State) (i : StationId) {m : Line} {v : Bool}
    (h : m = .colour ∨ m = .large ∨ m = .duplex ∨ ((m = .feed ∨ m = .deliver ∨ m = .stopped) ∧ v = false)) :
    s.lineEvent i m v = s := by
  rcases h with rfl | rfl | rfl | ⟨rfl | rfl | rfl, rfl⟩ <;> rfl

/-- A recognition without an event changes the line and the interval count (R1, R3, R6). -/
theorem State.recognize_of_eventless {s : State} {i : StationId} {m : Line} {v : Bool} (run : s.running = true)
    (level : ((s.station i).lines.get m).level ≠ v)
    (h : m = .colour ∨ m = .large ∨ m = .duplex ∨ ((m = .feed ∨ m = .deliver ∨ m = .stopped) ∧ v = false)) :
    s.recognize i m v = (s.reach (((s.station i).elapses m).getD s.now)).setLine i m (.recognize v) := by
  rw [State.recognize_eq run level]
  dsimp only
  rw [State.lineEvent_of_eventless _ _ h, State.endEvent_of_same (by simp), ite_self]

/-- A recognition that needs no timing is made at once, with its event (log 7). -/
theorem State.recognize_of_untimed {s : State} {i : StationId} {m : Line} {v : Bool} (run : s.running = true)
    (level : ((s.station i).lines.get m).level ≠ v) (timing : ((s.station i).lines.get m).timing = none) :
    s.recognize i m v =
      ((s.setLine i m (.recognize v)).lineEvent i m v).endEvent i (s.station i).state := by
  have loud : ((s.station i).lines.get m).silent = false := by rw [LineState.silent, timing]; rfl
  have elapsed : (s.station i).elapses m = none := by rw [Station.elapses, timing]; rfl
  rw [State.recognize_eq run level, elapsed, loud, Option.getD_none, State.reach_now_self]
  rfl

/-- A recognition whose window has been timed in the ordinary way is the one that needs no timing, made at the end of
the window (R1, R2; logs 5, 7). -/
theorem State.recognize_of_timing {s : State} {i : StationId} {m : Line} {v : Bool} {since : Nat}
    (run : s.running = true) (level : ((s.station i).lines.get m).level ≠ v)
    (timing : ((s.station i).lines.get m).timing = some ⟨since, false⟩) :
    s.recognize i m v = ((s.reach (since + (s.station i).profile.window m)).setStation i { s.station i with
      lines := (s.station i).lines.set m { (s.station i).lines.get m with timing := none } }).recognize i m v := by
  have loud : ((s.station i).lines.get m).silent = false := by rw [LineState.silent, timing]; rfl
  have elapsed : (s.station i).elapses m = some (since + (s.station i).profile.window m) := by
    rw [Station.elapses, timing]
    rfl
  rw [State.recognize_eq run level, State.recognize_of_untimed (by simpa using run) (by simpa using level) (by simp),
    elapsed, loud]
  simp [State.setLine_eq]

/-- A change of the raw level by the state of the line (R1, R5; log 42). -/
theorem LineState.drive_spec (l : LineState) (watching : Bool) (now : Nat) (v : Bool) :
    (l.drive watching now v).raw = v ∧ (l.drive watching now v).level = l.level ∧
      (watching = false → (l.drive watching now v).timing = l.timing) ∧
      (watching = true → v = l.level → (l.drive watching now v).timing = none) ∧
      (watching = true → v ≠ l.level → l.timing = none → (l.drive watching now v).timing = some ⟨now, false⟩) ∧
      (watching = true → v ≠ l.level → l.timing ≠ none → (l.drive watching now v).timing = l.timing) := by
  cases watching with
  | false => simp [LineState.drive]
  | true =>
      by_cases same : v = l.level
      · simp [LineState.drive, same]
      · cases timing : l.timing <;> simp [LineState.drive, same, timing]

/-- The recognition commands of a line with an event are the recognition of that line (R3). -/
theorem exec_recognition {s : State} {i : StationId} {m : Line} {v : Bool} {c : Instr}
    (h : c = .lineLevelRecognized i m v ∨ (m = .feed ∧ v = true ∧ c = .feed i) ∨
        (m = .deliver ∧ v = true ∧ c = .delivery i) ∨ (m = .jam ∧ v = true ∧ c = .jamRise i) ∨
        (m = .jam ∧ v = false ∧ c = .jamFall i) ∨ (m = .ready ∧ v = true ∧ c = .readyRise i) ∨
        (m = .ready ∧ v = false ∧ c = .readyFall i) ∨ (m = .stopped ∧ v = true ∧ c = .stoppedRise i)) :
    exec c s = .next (s.recognize i m v) := by
  rcases h with rfl | ⟨rfl, rfl, rfl⟩ | ⟨rfl, rfl, rfl⟩ | ⟨rfl, rfl, rfl⟩ | ⟨rfl, rfl, rfl⟩ | ⟨rfl, rfl, rfl⟩ |
    ⟨rfl, rfl, rfl⟩ | ⟨rfl, rfl, rfl⟩ <;> rfl

/-- A FEED or DELIVER recognition of a silent timing is no event (R4; log 43). -/
theorem State.recognize_of_silent {s : State} {i : StationId} {m : Line} {v : Bool} {since : Nat}
    (run : s.running = true) (level : ((s.station i).lines.get m).level ≠ v)
    (timing : ((s.station i).lines.get m).timing = some ⟨since, true⟩) :
    s.recognize i m v = (s.reach (since + (s.station i).profile.window m)).setStation i { s.station i with
      lines := (s.station i).lines.set m (.recognize v) } := by
  have elapsed : (s.station i).elapses m = some (since + (s.station i).profile.window m) := by
    rw [Station.elapses, timing]
    rfl
  have silent : ((s.station i).lines.get m).silent = true := by
    rw [LineState.silent, timing]
    rfl
  rw [State.recognize_eq run level]
  simp only [elapsed, silent, if_true]
  rfl

/-- Settles O35: a raw change is `LineState.drive`, and each kind of recognition is `State.recognize` cut short where
it has no event or is silent, and moved to the end of its window where it is timed. -/
theorem copierInputsFiltered : Obligations.CopierInputsFiltered := by
  refine ⟨?_, ?_, ?_, ?_⟩
  · rintro s i m v _ rfl
    exact ⟨_, rfl, LineState.drive_spec _ _ _ _⟩
  · intro s i m v run level eventless
    exact ⟨_, Nat.le_max_left _ _, congrArg Host.Outcome.next (State.recognize_of_eventless run level eventless)⟩
  · intro s i b since run m level timing
    have unlike : ((s.station i).lines.get m).level ≠ true := by rw [level]; nofun
    have silent := State.recognize_of_silent run unlike timing
    cases b <;> exact congrArg Host.Outcome.next silent
  · intro s i m v since c run level timing command
    have unlike : ((s.station i).lines.get m).level ≠ v := by rw [level]; cases v <;> nofun
    rw [exec_recognition command, exec_recognition command, State.recognize_of_timing run unlike timing,
      Profile.window_eq]
    rfl

end Sys2Proof.Machine
end

section
/-! Jams at one station (R18, R110 to R118): the hand-over of the path, the declaration, the fold and the exit test, each
as what it makes of the station and of the pending notices. -/

namespace Sys2Proof.Machine

/-! ### The pause evaluation -/

/-- A copying session has no close reason. -/
theorem Session.closeReason_of_copying {x : Session} (h : x.copying = true) : x.phase.closeReason = none := by
  cases phase : x.phase <;> simp_all [Session.copying, Phase.closeReason]

/-- The outcome of a pause evaluation looks at the profile, the pause timer and the reader, and at the phase and FORCED
of the session before it. -/
theorem Station.PauseFollows.of_same {before before' after after' : Station} {now : Nat} {x x' y : Session}
    (h : before.PauseFollows after now x y) (profile : before'.profile = before.profile)
    (timer : before'.pauseTimer = before.pauseTimer) (reader : before'.reader = before.reader)
    (timer' : after'.pauseTimer = after.pauseTimer) (reader' : after'.reader = after.reader)
    (phase : x'.phase = x.phase) (forced : x'.forced = x.forced) : before'.PauseFollows after' now x' y := by
  unfold Station.PauseFollows at h ⊢
  rw [profile, timer, reader, timer', reader', phase, forced]
  exact h

/-- A pause evaluation leaves a copying session copying. -/
theorem Station.PauseFollows.copying {before after : Station} {now : Nat} {x y : Session}
    (h : before.PauseFollows after now x y) (copying : x.copying = true) (kept : y.suspended = x.suspended) :
    y.copying = true := by
  have phase : y.phase = x.phase ∨ y.phase = .active ∨ y.phase = .holding := by
    unfold Station.PauseFollows at h
    split at h <;> split at h <;> simp [h.1]
  rw [Session.copying, kept]
  rcases phase with same | active | holding
  · rw [same]
    exact copying
  · simp_all [Session.copying]
  · simp_all [Session.copying]

/-- A pause evaluation changes the station and the notices alone. -/
theorem State.evaluatePause_eq_atStation (s : State) (i : StationId) (st : Station) (ns : List Notice) :
    ∃ st' ns', (s.atStation i st ns).evaluatePause i false = s.atStation i st' ns' := by
  unfold State.evaluatePause
  rw [State.station_atStation_self]
  cases st.session with
  | none => exact ⟨_, _, rfl⟩
  | some x =>
      dsimp only
      split
      · split
        · split
          · exact ⟨_, _, by rw [State.enterHolding, State.modStation_atStation, State.postAt_atStation,
              State.indicate_atStation]⟩
          · exact ⟨_, _, rfl⟩
        · split
          · exact ⟨_, _, rfl⟩
          · exact ⟨_, _, by rw [State.liftPause, State.modStation_atStation, if_neg nofun, State.indicate_atStation]⟩
      · exact ⟨_, _, rfl⟩

/-- A pause evaluation of a copying session, as what it makes of the station and the notices (R93 to R102). -/
theorem State.evaluatePause_atStation (s : State) (i : StationId) {st : Station} (ns : List Notice) {x : Session}
    (session : st.session = some x) (copying : x.copying = true) :
    ∃ phase forced timer reader,
      (s.atStation i st ns).evaluatePause i false = s.atStation i
        { st with session := some { x with phase := phase, forced := forced }, pauseTimer := timer, reader := reader }
        (pauseNotices st i x { x with phase := phase, forced := forced } ns) ∧
      ∀ after : Station, after.pauseTimer = timer → after.reader = reader →
        st.PauseFollows after s.now x { x with phase := phase, forced := forced } := by
  obtain ⟨st', ns', result⟩ := s.evaluatePause_eq_atStation i st ns
  obtain ⟨phase, forced, timer, reader, station, follows, notices⟩ :=
    State.evaluatePause_follows (s := s.atStation i st ns) (by rwa [State.station_atStation_self]) copying
  simp only [result, State.station_atStation_self, State.notices_atStation] at station follows notices
  subst station notices
  exact ⟨phase, forced, timer, reader, result, fun after ht hr => follows.of_same rfl rfl rfl ht hr rfl rfl⟩

/-! ### The hand-over (R18, R112) -/

/-- The session after the hand-over of a path, with its tier and ceiling brought up to date. -/
def Session.handedOver (x : Session) (path : List Sheet) : Session := (x.release path).retier []

/-- A hand-over changes neither the phase nor FORCED of a session, nor what it charges and how it is paid. -/
@[simp] theorem Session.phase_handedOver (x : Session) (path : List Sheet) : (x.handedOver path).phase = x.phase := by
  rw [Session.handedOver, Session.retier_eq]
  rfl

@[simp] theorem Session.forced_handedOver (x : Session) (path : List Sheet) :
    (x.handedOver path).forced = x.forced := by
  rw [Session.handedOver, Session.retier_eq]
  rfl

@[simp] theorem Session.copying_handedOver (x : Session) (path : List Sheet) :
    (x.handedOver path).copying = x.copying := by
  rw [Session.handedOver, Session.retier_eq]
  rfl

@[simp] theorem Session.payment_handedOver (x : Session) (path : List Sheet) :
    (x.handedOver path).payment = x.payment := by
  rw [Session.handedOver, Session.retier_eq]
  rfl

@[simp] theorem Session.charged_handedOver (x : Session) (path : List Sheet) :
    (x.handedOver path).charged = x.charged := by
  rw [Session.handedOver, Session.retier_eq]
  rfl

@[simp] theorem Session.serial_handedOver (x : Session) (path : List Sheet) : (x.handedOver path).serial = x.serial := by
  rw [Session.handedOver, Session.retier_eq]
  rfl

@[simp] theorem Session.stopPending_handedOver (x : Session) (path : List Sheet) :
    (x.handedOver path).stopPending = x.stopPending := by
  rw [Session.handedOver, Session.retier_eq]
  rfl

/-- A hand-over counts the session's own sheets as jammed (R112). -/
theorem Session.jammed_handedOver (x : Session) (path : List Sheet) : (x.handedOver path).jammed =
    min 4294967295 (x.jammed + (path.filter fun e => decide (e.serial = some x.serial)).length) := by
  rw [Session.handedOver, Session.retier_eq]
  rfl

/-- The record after a hand-over, with no pause evaluated. -/
theorem Session.released_handedOver (x : Session) (path : List Sheet) : x.Released (x.handedOver path) path :=
  x.release_retier_released path (x.handedOver path).phase (x.handedOver path).forced

/-- The hand-over as it stands at a station whose session and path are known. -/
theorem Station.session_handOver {st : Station} {x : Session} (h : st.session = some x) :
    st.handOver.session = some (x.handedOver st.path) := by
  simp only [Station.handOver, h, Option.map_some, Session.handedOver]

theorem Station.session_handOver_none {st : Station} (h : st.session = none) : st.handOver.session = none := by
  simp only [Station.handOver, h, Option.map_none]

@[simp] theorem Station.profile_handOver (st : Station) : st.handOver.profile = st.profile := rfl

@[simp] theorem Station.reader_handOver (st : Station) : st.handOver.reader = st.reader := rfl

@[simp] theorem Station.authTimer_handOver (st : Station) : st.handOver.authTimer = st.authTimer := rfl

/-- A hand-over at a station with no session that copies evaluates no pause. -/
theorem State.handOver_atStation (s : State) (i : StationId) {st : Station} (ns : List Notice)
    (idle : ∀ x, st.session = some x → x.copying = false) :
    (s.atStation i st ns).handOver i = s.atStation i st.handOver ns := by
  have evaluated : (s.atStation i st.handOver ns).evaluatePause i false = s.atStation i st.handOver ns := by
    cases session : st.session with
    | none =>
        exact State.evaluatePause_of_none (by simpa using Station.session_handOver_none session) _
    | some x =>
        exact State.evaluatePause_of_not_copying (by simpa using Station.session_handOver session)
          (by simpa using idle x session) _
  simp only [State.handOver, State.modStation_atStation, evaluated, ite_self]

/-- A hand-over of sheets at a station whose session copies (R112): the session is released and its pause evaluated. -/
theorem State.handOver_atStation_of_copying (s : State) (i : StationId) {st : Station} (ns : List Notice) {x : Session}
    (session : st.session = some x) (copying : x.copying = true) (path : st.path ≠ []) :
    ∃ y timer reader,
      (s.atStation i st ns).handOver i = s.atStation i
        { st.handOver with session := some y, pauseTimer := timer, reader := reader } (pauseNotices st i x y ns) ∧
      x.Released y st.path ∧
      ∀ after : Station, after.pauseTimer = timer → after.reader = reader → st.PauseFollows after s.now x y := by
  obtain ⟨phase, forced, timer, reader, result, follows⟩ := s.evaluatePause_atStation i ns
    (Station.session_handOver session) ((x.copying_handedOver st.path).trans copying)
  refine ⟨_, timer, reader, ?_, Session.release_retier_released x st.path phase forced, fun after ht hr =>
    (follows after ht hr).of_same rfl rfl rfl rfl rfl (x.phase_handedOver st.path).symm
      (x.forced_handedOver st.path).symm⟩
  simp only [State.handOver, State.station_atStation_self, if_neg path, State.modStation_atStation, result]
  congr 1
  simp only [pauseNotices, Session.phase_handedOver]
  rfl

/-! ### The exit test (R34) -/

/-- The levels of the exit test: JAM deasserted and READY asserted. -/
def Station.exitOpen (st : Station) : Bool := !st.lines.jam.level && st.lines.ready.level

theorem Station.exitOpen_eq_decide {st : Station} {healthy : Prop} [Decidable healthy]
    (h : healthy ↔ st.lines.jam.level = false ∧ st.lines.ready.level = true) : st.exitOpen = decide healthy := by
  simp only [Station.exitOpen, h, Bool.decide_and]
  cases st.lines.jam.level <;> simp

/-- The station once a jam has made it JAMMED and the exit test has been made: in RECOVER with its purge window, or
standing in JAMMED (R34, R116). -/
def Station.afterJam (st : Station) (now : Nat) : Station :=
  { st with
    state := if st.exitOpen then .recover else .jammed
    purgeTimer := if st.exitOpen then some (now + 1000 * st.profile.purgeWindow) else st.purgeTimer }

@[simp] theorem Station.session_afterJam (st : Station) (now : Nat) : (st.afterJam now).session = st.session := rfl

/-- The notices of that (R26): JAM, and STATION-CHANGE for RECOVER. -/
def Station.jamNotices (st : Station) (i : StationId) (ns : List Notice) : List Notice :=
  if st.exitOpen then insertNotice ⟨.stationChange, i.val + 1⟩ (insertNotice ⟨.jam, i.val + 1⟩ ns)
  else insertNotice ⟨.jam, i.val + 1⟩ ns

theorem Station.exitOpen_congr {st base : Station} (jam : st.lines.jam = base.lines.jam)
    (ready : st.lines.ready = base.lines.ready) : st.exitOpen = base.exitOpen := by
  rw [Station.exitOpen, Station.exitOpen, jam, ready]

/-- The exit test's outcome in the words of the statements: `healthy` is that the levels of the station `base`, whose JAM
and READY lines these still are, allow the exit. -/
theorem Station.state_afterJam {st base : Station} {now : Nat} {healthy : Prop} [Decidable healthy]
    (h : base.exitOpen = decide healthy) (jam : st.lines.jam = base.lines.jam)
    (ready : st.lines.ready = base.lines.ready) :
    (st.afterJam now).state = if healthy then .recover else .jammed := by
  simp [Station.afterJam, Station.exitOpen_congr jam ready, h]

theorem Station.purgeTimer_afterJam {st base : Station} {now : Nat} {healthy : Prop} [Decidable healthy]
    (h : base.exitOpen = decide healthy) (jam : st.lines.jam = base.lines.jam)
    (ready : st.lines.ready = base.lines.ready) (profile : st.profile = base.profile) :
    (st.afterJam now).purgeTimer =
      if healthy then some (now + 1000 * base.profile.purgeWindow) else st.purgeTimer := by
  simp [Station.afterJam, Station.exitOpen_congr jam ready, h, profile]

theorem Station.purgeTimer_afterJam_of_healthy {st base : Station} {now : Nat} {healthy : Prop} [Decidable healthy]
    (h : base.exitOpen = decide healthy) (jam : st.lines.jam = base.lines.jam)
    (ready : st.lines.ready = base.lines.ready) (profile : st.profile = base.profile) (opens : healthy) :
    (st.afterJam now).purgeTimer = some (now + 1000 * base.profile.purgeWindow) := by
  rw [Station.purgeTimer_afterJam h jam ready profile, if_pos opens]

theorem Station.jamNotices_eq {st base : Station} {i : StationId} {ns : List Notice} {healthy : Prop}
    [Decidable healthy] (h : base.exitOpen = decide healthy) (jam : st.lines.jam = base.lines.jam)
    (ready : st.lines.ready = base.lines.ready) : st.jamNotices i ns = if healthy then
      insertNotice ⟨.stationChange, i.val + 1⟩ (insertNotice ⟨.jam, i.val + 1⟩ ns)
      else insertNotice ⟨.jam, i.val + 1⟩ ns := by
  simp [Station.jamNotices, Station.exitOpen_congr jam ready, h]

theorem Station.state_afterJam_or (st : Station) (now : Nat) :
    (st.afterJam now).state = .jammed ∨ (st.afterJam now).state = .recover := by
  unfold Station.afterJam
  dsimp only
  split
  · exact .inr rfl
  · exact .inl rfl

theorem Station.state_afterJam_ne_ready (st : Station) (now : Nat) : (st.afterJam now).state ≠ .ready := by
  unfold Station.afterJam
  dsimp only
  split <;> nofun

/-- A station that becomes JAMMED with purges outstanding, and its exit test. -/
theorem State.exitTest_enterJammed (s : State) (i : StationId) {st : Station} (ns : List Notice) {r : JamRecord}
    (jam : st.jam = some r) (purges : r.purged < r.inDoubt) :
    ((s.atStation i st ns).enterState i .jammed).exitTest i =
      s.atStation i (st.afterJam s.now) (st.jamNotices i ns) := by
  have outstanding : ¬ r.inDoubt ≤ r.purged := by omega
  have posted : changeNotice st.state .jammed = .jam := rfl
  have posted' : changeNotice .jammed .recover = .stationChange := rfl
  cases jamLevel : st.lines.jam.level <;> cases readyLevel : st.lines.ready.level <;>
    simp [State.exitTest, State.enterRecover, Station.purgeComplete, Station.afterJam, Station.jamNotices,
      Station.exitOpen, jam, outstanding, posted, posted', jamLevel, readyLevel]

/-! ### The record (R109, R110) -/

/-- The record that a jam of cause `cause` opens at station `st`, with `n` sheets in doubt. -/
def Station.newRecord (st : Station) (cause : JamCause) (stamp n : Nat) (listed : List DoubtSheet) : JamRecord :=
  { JamRecord.opened ((st.jamSerial + 1) % 65536) cause stamp with inDoubt := n, listed := listed }

/-- A hand-over puts the sheets of the path into the record. -/
theorem Station.jam_handOver {st : Station} {r : JamRecord} (jam : st.jam = some r)
    (fits : r.inDoubt + st.path.length ≤ 4294967295) :
    ∃ listed, st.handOver.jam = some { r with inDoubt := r.inDoubt + st.path.length, listed := listed } := by
  refine ⟨(st.path.foldl JamRecord.absorb r).listed, ?_⟩
  simp only [Station.handOver, jam, Option.map_some]
  exact congrArg some (JamRecord.absorb_fold r st.path fits)

/-! ### Declarations (R111, R114, R30) -/

/-- The station with a record newly opened (R109). -/
def Station.jamOpened (st : Station) (cause : JamCause) (stamp : Nat) : Station :=
  { st with
    jamSerial := (st.jamSerial + 1) % 65536
    jam := some (.opened ((st.jamSerial + 1) % 65536) cause stamp) }

@[simp] theorem Station.session_jamOpened (st : Station) (cause : JamCause) (stamp : Nat) :
    (st.jamOpened cause stamp).session = st.session := rfl

@[simp] theorem Station.path_jamOpened (st : Station) (cause : JamCause) (stamp : Nat) :
    (st.jamOpened cause stamp).path = st.path := rfl

@[simp] theorem Station.profile_jamOpened (st : Station) (cause : JamCause) (stamp : Nat) :
    (st.jamOpened cause stamp).profile = st.profile := rfl

@[simp] theorem Station.reader_jamOpened (st : Station) (cause : JamCause) (stamp : Nat) :
    (st.jamOpened cause stamp).reader = st.reader := rfl

@[simp] theorem Station.authTimer_jamOpened (st : Station) (cause : JamCause) (stamp : Nat) :
    (st.jamOpened cause stamp).authTimer = st.authTimer := rfl

@[simp] theorem State.openJam_atStation (s : State) (i : StationId) (st : Station) (ns : List Notice) (cause : JamCause) :
    (s.atStation i st ns).openJam i cause = s.atStation i (st.jamOpened cause s.stamp) ns :=
  s.modStation_atStation i st ns _

/-- A hand-over into a record newly opened. -/
theorem Station.jam_handOver_opened {st : Station} (cause : JamCause) (stamp : Nat) {n : Nat} (count : st.path.length = n)
    (fits : n ≤ 4294967295) :
    ∃ listed, (st.jamOpened cause stamp).handOver.jam = some (st.newRecord cause stamp n listed) := by
  subst count
  obtain ⟨listed, jam⟩ := (st.jamOpened cause stamp).jam_handOver rfl (by simpa [JamRecord.opened] using fits)
  exact ⟨listed, by simpa [JamRecord.opened, Station.newRecord] using jam⟩

/-- A jam declared at a READY or NOT-READY station with sheets in its path (R111), given what the hand-over leaves. -/
theorem State.declareJam_atStation (s : State) (i : StationId) {st mid : Station} {ns ns' : List Notice} {cause : JamCause}
    {r : JamRecord} (state : st.state = .ready ∨ st.state = .notReady) (path : st.path ≠ [])
    (handed : (s.atStation i (st.jamOpened cause s.stamp) ns).handOver i = s.atStation i mid ns')
    (jam : mid.jam = some r) (purges : r.purged < r.inDoubt) :
    (s.atStation i st ns).declareJam i cause =
      (s.atStation i (mid.afterJam s.now) (mid.jamNotices i ns')).emptyPathReport i := by
  have new : (s.atStation i st ns).declareJam i cause = (s.atStation i st ns).declareNew i cause := by
    rcases state with h | h <;> simp only [State.declareJam, State.station_atStation_self, h]
  rw [new]
  simp only [State.declareNew, State.station_atStation_self, State.openJam_atStation, handed, State.reportIfEmptied,
    if_neg path, State.exitTest_enterJammed s i ns' jam purges]

/-- A jam at a JAMMED or RECOVER station with sheets in its path folds into the open record (R114). -/
theorem State.foldJam_atStation (s : State) (i : StationId) {st mid : Station} {ns ns' : List Notice} {cause : JamCause}
    {r : JamRecord} (state : st.state = .jammed ∨ st.state = .recover) (path : st.path ≠ [])
    (handed : (s.atStation i st ns).handOver i = s.atStation i mid ns')
    (jam : mid.jam = some r) (purges : r.purged < r.inDoubt) :
    (s.atStation i st ns).declareJam i cause =
      (s.atStation i
        (({ mid with jam := some { r with repeats := min 255 (r.repeats + 1) }, purgeTimer := none } : Station).afterJam
          s.now) (mid.jamNotices i ns')).emptyPathReport i := by
  have fold : (s.atStation i st ns).declareJam i cause = (s.atStation i st ns).foldJam i := by
    rcases state with h | h <;> simp only [State.declareJam, State.station_atStation_self, h]
  rw [fold]
  simp only [State.foldJam, State.station_atStation_self, handed, State.modStation_atStation, jam, Option.map_some,
    State.reportIfEmptied, if_neg path]
  rw [State.exitTest_enterJammed s i ns' (r := { r with repeats := satAdd 255 r.repeats 1 }) rfl purges]
  rfl

/-- A jam at an OFFLINE station with no session that copies is written off at once (R30). -/
theorem State.offlineJam_atStation (s : State) (i : StationId) {st : Station} (ns : List Notice) (cause : JamCause)
    (state : st.state = .offline) (path : st.path ≠ []) (idle : ∀ x, st.session = some x → x.copying = false) :
    (s.atStation i st ns).declareJam i cause =
      (s.atStation i (st.jamOpened cause s.stamp).handOver.closeJam
        (insertNotice ⟨.jam, i.val + 1⟩ ns)).emptyPathReport i := by
  have handed := s.handOver_atStation i (st := st.jamOpened cause s.stamp) ns idle
  simp only [State.declareJam, State.station_atStation_self, state, State.offlineJam, State.openJam_atStation, handed,
    State.modStation_atStation, State.postAt_atStation, State.reportIfEmptied, if_neg path]

/-! ### The empty-path report (R14) and the end of an event (R42) -/

/-- A station that is not READY makes no quiet test. -/
theorem State.quietTest_of_not_ready {s : State} {i : StationId} (h : (s.station i).state ≠ .ready) :
    s.quietTest i = s := by
  simp [State.quietTest, h]

/-- A station with sheets in its path makes no quiet test. -/
theorem State.quietTest_of_path {s : State} {i : StationId} (h : (s.station i).path ≠ []) : s.quietTest i = s := by
  simp [State.quietTest, h]

/-- The empty-path report, where the quiet test finds nothing and no session is CLOSING, changes nothing. -/
theorem State.emptyPathReport_of_open {s : State} {i : StationId} (quiet : s.quietTest i = s)
    (stays : ∀ x, (s.station i).session = some x → x.phase.closeReason = none) : s.emptyPathReport i = s := by
  unfold State.emptyPathReport
  rw [quiet]
  cases session : (s.station i).session with
  | none => simp [session]
  | some x => simp [session, stays x session]

/-- The empty-path report, where the quiet test finds nothing, settles a CLOSING session (R14, R68). -/
theorem State.emptyPathReport_of_closing {s : State} {i : StationId} {x : Session} {reason : CloseReason}
    (quiet : s.quietTest i = s) (session : (s.station i).session = some x) (closing : x.phase = .closing reason)
    (stays : x.suspended = false) : s.emptyPathReport i = s.settleInService i x reason := by
  unfold State.emptyPathReport
  rw [quiet]
  simp [session, stays, closing, Phase.closeReason]

/-- What a jam leaves, once its report is made, at a station whose session is not CLOSING. -/
theorem State.emptyPathReport_afterJam {s : State} {i : StationId} {st : Station} {now : Nat} {ns : List Notice}
    (stays : ∀ x, st.session = some x → x.phase.closeReason = none) :
    (s.atStation i (st.afterJam now) ns).emptyPathReport i = s.atStation i (st.afterJam now) ns :=
  State.emptyPathReport_of_open (State.quietTest_of_not_ready (by simpa using st.state_afterJam_ne_ready now))
    (by simpa using stays)

/-- A station that is not READY at the end of an event stays as it is. -/
theorem State.endEvent_of_not_ready {s : State} {i : StationId} (h : (s.station i).state ≠ .ready)
    (before : StationState) : s.endEvent i before = s := by
  simp [State.endEvent, h]

end Sys2Proof.Machine
end

section
/-! The transit expiry and the end of the purge window (R16, R118). -/

namespace Sys2Proof.Machine

/-- A jam at a READY or NOT-READY station whose session, if it has one, neither copies nor is CLOSING (R111). -/
theorem State.declareJam_of_idle (s : State) (i : StationId) {st : Station} (ns : List Notice) (cause : JamCause)
    (state : st.state = .ready ∨ st.state = .notReady) (path : st.path ≠ []) (fits : st.path.length ≤ 4294967295)
    (idle : ∀ x, st.session = some x → x.copying = false ∧ x.phase.closeReason = none) :
    (s.atStation i st ns).declareJam i cause =
      s.atStation i ((st.jamOpened cause s.stamp).handOver.afterJam s.now) (st.jamNotices i ns) := by
  obtain ⟨listed, jam⟩ := st.jam_handOver_opened cause s.stamp rfl fits
  have positive : 0 < st.path.length := List.length_pos_of_ne_nil path
  rw [State.declareJam_atStation s i state path
    (s.handOver_atStation i (st := st.jamOpened cause s.stamp) ns fun x h => (idle x h).1) jam positive]
  refine State.emptyPathReport_afterJam fun x session => ?_
  cases before : st.session with
  | none => simp [Station.handOver, Station.jamOpened, before] at session
  | some w =>
      rw [Station.session_handOver (st := st.jamOpened cause s.stamp) before] at session
      cases session
      simpa using (idle w before).2

/-- What a hand-over leaves of a session's record keeps whether it is suspended. -/
theorem Session.Released.suspended {x y : Session} {path : List Sheet} (h : x.Released y path) :
    y.suspended = x.suspended := by
  obtain ⟨⟨_, _, _, _, rfl⟩, _⟩ := h
  rfl

/-- A jam at a READY or NOT-READY station whose session copies (R111, R112). -/
theorem State.declareJam_of_copying (s : State) (i : StationId) {st : Station} (ns : List Notice) (cause : JamCause)
    {x : Session} (state : st.state = .ready ∨ st.state = .notReady) (path : st.path ≠ [])
    (fits : st.path.length ≤ 4294967295) (session : st.session = some x) (copying : x.copying = true) :
    ∃ y timer reader,
      (s.atStation i st ns).declareJam i cause = s.atStation i
        (({ (st.jamOpened cause s.stamp).handOver with session := some y, pauseTimer := timer, reader := reader } :
          Station).afterJam s.now) (st.jamNotices i (pauseNotices st i x y ns)) ∧
      x.Released y st.path ∧
      ∀ after : Station, after.pauseTimer = timer → after.reader = reader → st.PauseFollows after s.now x y := by
  obtain ⟨listed, jam⟩ := st.jam_handOver_opened cause s.stamp rfl fits
  have positive : 0 < st.path.length := List.length_pos_of_ne_nil path
  obtain ⟨y, timer, reader, handed, released, follows⟩ :=
    s.handOver_atStation_of_copying i (st := st.jamOpened cause s.stamp) ns session copying path
  have still : y.copying = true :=
    (follows { st with pauseTimer := timer, reader := reader } rfl rfl).copying copying released.suspended
  refine ⟨y, timer, reader, ?_, released, follows⟩
  rw [State.declareJam_atStation s i state path handed jam positive, State.emptyPathReport_afterJam]
  · rfl
  · rintro _ ⟨⟩
    exact Session.closeReason_of_copying still

/-- The station after a fold into the open record `r` (R114), with that record once the sheets are in it. -/
def Station.folded (st : Station) (r : JamRecord) (listed : List DoubtSheet) : Station :=
  { st.handOver with
    jam := some { r with inDoubt := r.inDoubt + st.path.length, repeats := min 255 (r.repeats + 1), listed := listed }
    purgeTimer := none }

@[simp] theorem Station.session_folded (st : Station) (r : JamRecord) (listed : List DoubtSheet) :
    (st.folded r listed).session = st.handOver.session := rfl

@[simp] theorem Station.profile_folded (st : Station) (r : JamRecord) (listed : List DoubtSheet) :
    (st.folded r listed).profile = st.profile := rfl

@[simp] theorem Station.reader_folded (st : Station) (r : JamRecord) (listed : List DoubtSheet) :
    (st.folded r listed).reader = st.reader := rfl

/-- A jam at a JAMMED or RECOVER station whose session, if it has one, neither copies nor is CLOSING (R114). -/
theorem State.foldJam_of_idle (s : State) (i : StationId) {st : Station} (ns : List Notice) (cause : JamCause)
    {r : JamRecord} (state : st.state = .jammed ∨ st.state = .recover) (path : st.path ≠ []) (jam : st.jam = some r)
    (purges : r.purged ≤ r.inDoubt) (fits : r.inDoubt + st.path.length ≤ 4294967295)
    (idle : ∀ x, st.session = some x → x.copying = false ∧ x.phase.closeReason = none) :
    ∃ listed, (s.atStation i st ns).declareJam i cause =
      s.atStation i ((st.folded r listed).afterJam s.now) (st.jamNotices i ns) := by
  obtain ⟨listed, absorbed⟩ := st.jam_handOver jam fits
  have positive : 0 < st.path.length := List.length_pos_of_ne_nil path
  refine ⟨listed, ?_⟩
  rw [State.foldJam_atStation s i state path (s.handOver_atStation i ns fun x h => (idle x h).1) absorbed
    (by dsimp only; omega), State.emptyPathReport_afterJam]
  · rfl
  · intro x session
    cases before : st.session with
    | none => simp [Station.handOver, before] at session
    | some w =>
        rw [show _ = st.handOver.session from rfl, Station.session_handOver before] at session
        cases session
        simpa using (idle w before).2

/-- A jam at a JAMMED or RECOVER station whose session copies (R114, R112). -/
theorem State.foldJam_of_copying (s : State) (i : StationId) {st : Station} (ns : List Notice) (cause : JamCause)
    {r : JamRecord} {x : Session} (state : st.state = .jammed ∨ st.state = .recover) (path : st.path ≠ [])
    (jam : st.jam = some r) (purges : r.purged ≤ r.inDoubt) (fits : r.inDoubt + st.path.length ≤ 4294967295)
    (session : st.session = some x) (copying : x.copying = true) :
    ∃ y timer reader listed,
      (s.atStation i st ns).declareJam i cause = s.atStation i
        (({ st.folded r listed with session := some y, pauseTimer := timer, reader := reader } : Station).afterJam s.now)
        (st.jamNotices i (pauseNotices st i x y ns)) ∧
      x.Released y st.path ∧
      ∀ after : Station, after.pauseTimer = timer → after.reader = reader → st.PauseFollows after s.now x y := by
  obtain ⟨listed, absorbed⟩ := st.jam_handOver jam fits
  have positive : 0 < st.path.length := List.length_pos_of_ne_nil path
  obtain ⟨y, timer, reader, handed, released, follows⟩ := s.handOver_atStation_of_copying i ns session copying path
  have still : y.copying = true :=
    (follows { st with pauseTimer := timer, reader := reader } rfl rfl).copying copying released.suspended
  refine ⟨y, timer, reader, listed, ?_, released, follows⟩
  rw [State.foldJam_atStation s i state path handed absorbed (by dsimp only; omega), State.emptyPathReport_afterJam]
  · rfl
  · rintro _ ⟨⟩
    exact Session.closeReason_of_copying still

/-- The closing of an OPEN record (R118, R29, R121). -/
theorem Station.closeJam_of_open {st : Station} {r : JamRecord} (jam : st.jam = some r) (lost : r.lost = none) :
    st.closeJam = { st with
      purgeTimer := none
      jam := some { r with lost := some (r.inDoubt - r.purged) }
      meters := { st.meters with
        lost := (st.meters.lost + (r.inDoubt - r.purged)) % 100000000
        purged := (st.meters.purged + r.purged) % 100000000 } } := by
  simp only [Station.closeJam, jam, lost]
  rfl

/-- The station after its path is written off at once (R30): the record of the jam CLOSED with every sheet lost. -/
def Station.writtenOff (st : Station) (cause : JamCause) (stamp : Nat) (listed : List DoubtSheet) : Station :=
  { (st.jamOpened cause stamp).handOver with
    purgeTimer := none
    jam := some { st.newRecord cause stamp st.path.length listed with lost := some st.path.length }
    meters := { st.meters with
      jammed := (st.meters.jammed + st.path.length) % 100000000
      lost := (st.meters.lost + st.path.length) % 100000000
      purged := st.meters.purged % 100000000 } }

/-- A jam at an OFFLINE station without a session (R30). -/
theorem State.offlineJam_of_none (s : State) (i : StationId) {st : Station} (ns : List Notice) (cause : JamCause)
    (state : st.state = .offline) (path : st.path ≠ []) (fits : st.path.length ≤ 4294967295)
    (session : st.session = none) :
    ∃ listed, (s.atStation i st ns).declareJam i cause =
      s.atStation i (st.writtenOff cause s.stamp listed) (insertNotice ⟨.jam, i.val + 1⟩ ns) := by
  obtain ⟨listed, jam⟩ := st.jam_handOver_opened cause s.stamp rfl fits
  have none : (st.jamOpened cause s.stamp).handOver.session = none := Station.session_handOver_none session
  refine ⟨listed, ?_⟩
  rw [State.offlineJam_atStation s i ns cause state path (by simp [session]), Station.closeJam_of_open jam rfl,
    State.emptyPathReport_of_open]
  · rfl
  · refine State.quietTest_of_not_ready ?_
    rw [State.station_atStation_self]
    show st.state ≠ _
    rw [state]
    nofun
  · simp [none]

/-- The transit expiry with sheets in the path (R16): the interval count reaches the instant at which the oldest sheet's
limit ends, and a jam of cause TRANSIT is declared. -/
theorem exec_transitExpiry {s : State} {i : StationId} {e : Sheet} {rest : List Sheet} (run : s.running = true)
    (path : (s.station i).path = e :: rest) :
    exec (.transitExpiry i) s = .next
      ((((s.reach (e.fedAt + 1000 * (s.station i).profile.transitLimit)).atStation i (s.station i) s.notices).declareJam i
        .transit).endEvent i (s.station i).state) := by
  have aimed : (s.station i).transitExpiry = some (e.fedAt + 1000 * (s.station i).profile.transitLimit) := by
    rw [Station.transitExpiry, path]
    rfl
  rw [State.atStation_reach]
  show Host.Outcome.next (s.transitExpires i) = _
  rw [State.transitExpires, aimed]
  dsimp only
  rw [if_pos run]

/-- The end of the purge window of an OPEN record (R118). -/
theorem State.endRecover_atStation (s : State) (i : StationId) {st : Station} {ns : List Notice} {r : JamRecord}
    (state : st.state = .recover) (jam : st.jam = some r) (lost : r.lost = none) :
    (s.atStation i st ns).endRecover i = s.atStation i { st with
      state := .ready
      purgeTimer := none
      jam := some { r with lost := some (r.inDoubt - r.purged) }
      meters := { st.meters with
        lost := (st.meters.lost + (r.inDoubt - r.purged)) % 100000000
        purged := (st.meters.purged + r.purged) % 100000000 }
      timerA := loadedTimer s.now (st.duration .a)
      timerB := loadedTimer s.now (st.duration .b) } (insertNotice ⟨.recovered, i.val + 1⟩ ns) := by
  rw [State.endRecover, State.modStation_atStation, Station.closeJam_of_open jam lost, State.enterState_atStation,
    State.reloadBoth_atStation]
  simp only [state]
  rfl

/-- A station that has just reloaded both timers makes no quiet test at the end of the event. -/
theorem State.endEvent_of_loaded {s : State} {i : StationId} {st : Station} {ns : List Notice}
    (a : st.timerA = loadedTimer s.now (st.duration .a)) (b : st.timerB = loadedTimer s.now (st.duration .b))
    (before : StationState) : (s.atStation i st ns).endEvent i before = s.atStation i st ns :=
  State.endEvent_of_not_quiet (by simpa using Station.not_quiet_of_loaded a b) before

end Sys2Proof.Machine
end

section
namespace Sys2Proof.Machine

/-- A station without a session has none that copies or is CLOSING. -/
theorem Station.idle_of_none {st : Station} (h : st.session = none) :
    ∀ x, st.session = some x → x.copying = false ∧ x.phase.closeReason = none := by
  simp [h]

/-- An event that leaves the station JAMMED or in RECOVER ends with no quiet test. -/
theorem State.endEvent_afterJam (s : State) (i : StationId) (st : Station) (now : Nat) (ns : List Notice)
    (before : StationState) :
    (s.atStation i (st.afterJam now) ns).endEvent i before = s.atStation i (st.afterJam now) ns :=
  State.endEvent_of_not_ready (by simpa using st.state_afterJam_ne_ready now) before

/-- Settles O41: the expiry declares the jam that the station's state and session call for; what each declaration
leaves is read off the station and the notices it makes. -/
theorem transitAndPurgeExpire : Obligations.TransitAndPurgeExpire := by
  refine ⟨?_, ?_, ?_, ?_⟩
  · rintro s i e rest healthy _ now run path room session rfl levels
    have full : (s.station i).path ≠ [] := by rw [path]; nofun
    have count : (s.station i).path.length = rest.length + 1 := by rw [path]; rfl
    have fits : (s.station i).path.length ≤ 4294967295 := by omega
    have exit := Station.exitOpen_eq_decide levels
    rw [exec_transitExpiry run path, ← count]
    refine ⟨fun state => ?_, fun state => ?_⟩
    · obtain ⟨listed, jam⟩ := (s.station i).jam_handOver_opened .transit s.stamp rfl fits
      rw [State.declareJam_of_idle _ i _ _ state full fits (Station.idle_of_none session), State.endEvent_afterJam]
      refine ⟨_, (s.station i).newRecord .transit s.stamp (s.station i).path.length listed, rfl, ?_⟩
      rw [State.station_atStation_self]
      exact ⟨rfl, Station.session_handOver_none session, Station.state_afterJam exit rfl rfl,
        Station.purgeTimer_afterJam exit rfl rfl rfl, Station.jamNotices_eq exit rfl rfl, jam, rfl, rfl, rfl, rfl, rfl, rfl, rfl, rfl,
        rfl, rfl, rfl, fun j hj => State.station_atStation_of_ne _ i _ _ hj⟩
    · obtain ⟨listed, result⟩ := State.offlineJam_of_none (s.reach _) i s.notices .transit state full fits session
      rw [result, State.endEvent_of_same (State.station_atStation_self .. ▸ rfl)]
      refine ⟨_, { (s.station i).newRecord .transit s.stamp (s.station i).path.length listed with
        lost := some (s.station i).path.length }, rfl, ?_⟩
      rw [State.station_atStation_self]
      exact ⟨rfl, state, rfl, rfl, rfl, rfl, rfl, rfl, rfl, rfl, fun j hj => State.station_atStation_of_ne _ i _ _ hj⟩
  · rintro s i x e rest healthy _ now run path room session copying state rfl levels
    have full : (s.station i).path ≠ [] := by rw [path]; nofun
    have count : (s.station i).path.length = rest.length + 1 := by rw [path]; rfl
    have fits : (s.station i).path.length ≤ 4294967295 := by omega
    have exit := Station.exitOpen_eq_decide levels
    rw [exec_transitExpiry run path, ← count, ← path]
    obtain ⟨listed, jam⟩ := (s.station i).jam_handOver_opened .transit s.stamp rfl fits
    obtain ⟨y, timer, reader, result, released, follows⟩ :=
      State.declareJam_of_copying (s.reach _) i s.notices .transit state full fits session copying
    rw [result, State.endEvent_afterJam]
    refine ⟨_, y, (s.station i).newRecord .transit s.stamp (s.station i).path.length listed, rfl, ?_⟩
    rw [State.station_atStation_self]
    exact ⟨rfl, Station.state_afterJam exit rfl rfl, rfl, rfl, released, follows _ rfl rfl, jam, rfl, rfl, rfl, rfl, rfl, rfl,
      rfl, fun j hj => State.station_atStation_of_ne _ i _ _ hj⟩
  · rintro s i e rest r healthy _ now run path room session state jam purges fits rfl levels
    have full : (s.station i).path ≠ [] := by rw [path]; nofun
    have count : (s.station i).path.length = rest.length + 1 := by rw [path]; rfl
    have exit := Station.exitOpen_eq_decide levels
    rw [exec_transitExpiry run path, ← count]
    obtain ⟨listed, result⟩ := State.foldJam_of_idle (s.reach _) i s.notices .transit state full jam purges
      (by rw [count]; exact fits) (Station.idle_of_none session)
    rw [result, State.endEvent_afterJam]
    refine ⟨_, listed, rfl, ?_⟩
    rw [State.station_atStation_self]
    exact ⟨rfl, Station.state_afterJam exit rfl rfl, Station.purgeTimer_afterJam exit rfl rfl rfl, rfl, rfl,
      Station.jamNotices_eq exit rfl rfl, rfl,
      rfl, rfl, fun j hj => State.station_atStation_of_ne _ i _ _ hj⟩
  · intro s i r expiry run state jam lost timer later
    have expires : s.purgeExpires i = ((s.reach expiry).endRecover i).endEvent i .recover := by
      simp only [State.purgeExpires, timer, run, state, and_self, if_true]
    have now : (s.reach expiry).now = expiry := Nat.max_eq_right later
    show Host.Outcome.next (s.purgeExpires i) = _
    rw [expires, ← s.atStation_reach i, State.endRecover_atStation _ i state jam lost, State.endEvent_of_loaded rfl rfl, now]
    simp only [State.reach, Nat.max_eq_right later]
    rfl

end Sys2Proof.Machine
end

section
/-! Activities and the coverage of a fed sheet (R40, R45, R8, R87, R88), each as what it makes of one station. -/

namespace Sys2Proof.Machine

/-! ### Activities (R40, R45) -/

/-- An idle timer of the station after an activity linked to timer `link` (R40). -/
def Station.linkedTimer (st : Station) (now : Nat) (link t : TimerId) : IdleTimer :=
  if st.state ≠ .offline ∧ t = link then
    match st.duration link with
    | some d => .running (now + 1000 * d)
    | none => st.timer t
  else st.timer t

/-- The station after an activity linked to timer `link`. -/
def Station.reloaded (st : Station) (now : Nat) (link : TimerId) : Station :=
  { st with timerA := st.linkedTimer now link .a, timerB := st.linkedTimer now link .b }

/-- An OFFLINE station changes no timer (R40). -/
theorem Station.linkedTimer_of_offline {st : Station} (off : st.state = .offline) (now : Nat) (link t : TimerId) :
    st.linkedTimer now link t = st.timer t :=
  if_neg fun k => k.1 off

theorem Station.reloaded_of_idle {st : Station} {now : Nat} {link : TimerId}
    (h : st.state = .offline ∨ st.duration link = none) : st.reloaded now link = st := by
  have same : ∀ t, st.linkedTimer now link t = st.timer t := by
    intro t
    unfold Station.linkedTimer
    rcases h with off | none
    · rw [if_neg (fun k => k.1 off)]
    · rw [none]
      exact ite_self _
  unfold Station.reloaded
  rw [same, same]
  rfl

theorem Station.reloaded_of_duration {st : Station} {now d : Nat} {link : TimerId} (off : st.state ≠ .offline)
    (h : st.duration link = some d) : st.reloaded now link = st.setTimer link (.running (now + 1000 * d)) := by
  cases link <;> simp [Station.reloaded, Station.linkedTimer, Station.setTimer, Station.timer, h, off]

/-- Timers that follow a linked activity are reloaded as R40 says. -/
theorem Station.reloaded_of_timers {before after : Station} {now : Nat} {link : TimerId}
    (a : after.timerA = before.linkedTimer now link .a) (b : after.timerB = before.linkedTimer now link .b) :
    before.Reloaded now link after := by
  have timers : ∀ t, after.timer t = before.linkedTimer now link t := by
    intro t
    cases t
    · exact a
    · exact b
  refine ⟨fun d off h => ?_, fun h => ?_, fun other ne => ?_⟩
  · rw [timers, Station.linkedTimer, if_pos ⟨off, rfl⟩, h]
  · rw [timers, Station.linkedTimer]
    rcases h with off | none
    · rw [if_neg (fun k => k.1 off)]
    · rw [none]
      exact ite_self _
  · rw [timers, Station.linkedTimer, if_neg (fun k => ne k.2)]

/-- An activity at a station that is not in SAVE. -/
theorem State.activity_atStation (s : State) (i : StationId) {st : Station} (ns : List Notice) (link : TimerId)
    (save : st.state ≠ .save) :
    (s.atStation i st ns).activity i link = s.atStation i (st.reloaded s.now link) ns := by
  by_cases off : st.state = .offline
  · rw [Station.reloaded_of_idle (.inl off), State.activity_of_idle (.inl (by simpa using off))]
  · cases h : st.duration link with
    | none =>
        rw [Station.reloaded_of_idle (.inr h), State.activity_of_idle (.inr (by simpa using ⟨save, h⟩))]
    | some d =>
        rw [Station.reloaded_of_duration off h,
          State.activity_of_duration (by simpa using off) (by simpa using save) (by simpa using h)]
        simp

/-- An activity at a SAVE station wakes it into READY first (R45). -/
theorem State.activity_atStation_save (s : State) (i : StationId) {st : Station} (ns : List Notice) (link : TimerId)
    (save : st.state = .save) :
    (s.atStation i st ns).activity i link =
      s.atStation i (({ st with state := .ready } : Station).reloaded s.now link)
        (insertNotice ⟨.stationChange, i.val + 1⟩ ns) := by
  have woken : (s.atStation i st ns).activity i link = ((s.atStation i st ns).enterState i .ready).activity i link := by
    simp [State.activity, save]
  rw [woken, State.enterState_atStation, State.activity_atStation _ _ _ _ (by nofun), save]
  rfl

/-- The station once a FEED or DELIVER assertion has been recognized and its activity made. -/
def Station.asserted (st : Station) (m : Line) (now : Nat) (link : TimerId) : Station :=
  ({ st with lines := st.lines.set m (.recognize true) } : Station).reloaded now link

theorem State.activity_asserted {s : State} {i : StationId} (m : Line) (link : TimerId)
    (save : (s.station i).state ≠ .save) :
    (s.setLine i m (.recognize true)).activity i link =
      s.atStation i ((s.station i).asserted m s.now link) s.notices :=
  s.activity_atStation i (st := { s.station i with lines := (s.station i).lines.set m (.recognize true) }) s.notices link
    save

theorem State.activity_asserted_save {s : State} {i : StationId} (m : Line) (link : TimerId)
    (save : (s.station i).state = .save) :
    (s.setLine i m (.recognize true)).activity i link =
      s.atStation i (({ s.station i with state := .ready } : Station).asserted m s.now link)
        (insertNotice ⟨.stationChange, i.val + 1⟩ s.notices) :=
  s.activity_atStation_save i (st := { s.station i with lines := (s.station i).lines.set m (.recognize true) }) s.notices
    link save

/-- A feed whose line carries no candidate timing (R3, R6): the line's level, the activity, the sheet. -/
theorem exec_feed {s : State} {i : StationId} (run : s.running = true) (level : (s.station i).lines.feed.level = false)
    (timing : (s.station i).lines.feed.timing = none) :
    exec (.feed i) s = .next ((((s.setLine i .feed (.recognize true)).activity i
      (s.station i).profile.linkFeed).feedSheet i).endEvent i (s.station i).state) := by
  have unlike : ((s.station i).lines.get .feed).level ≠ true := fun h => nomatch level.symm.trans h
  have profile : ((s.setLine i .feed (.recognize true)).station i).profile = (s.station i).profile := by
    rw [State.station_setLine_self]
  show Host.Outcome.next (s.recognize i .feed true) = _
  rw [State.recognize_of_untimed run unlike timing, State.lineEvent, profile]

/-- A delivery whose line carries no candidate timing (R3, R11). -/
theorem exec_delivery {s : State} {i : StationId} (run : s.running = true)
    (level : (s.station i).lines.deliver.level = false) (timing : (s.station i).lines.deliver.timing = none) :
    exec (.delivery i) s = .next ((((s.setLine i .deliver (.recognize true)).activity i
      (s.station i).profile.linkDeliver).deliverSheet i).endEvent i (s.station i).state) := by
  have unlike : ((s.station i).lines.get .deliver).level ≠ true := fun h => nomatch level.symm.trans h
  have profile : ((s.setLine i .deliver (.recognize true)).station i).profile = (s.station i).profile := by
    rw [State.station_setLine_self]
  show Host.Outcome.next (s.recognize i .deliver true) = _
  rw [State.recognize_of_untimed run unlike timing, State.lineEvent, profile]

/-! ### The coverage of a fed sheet (R87, R88, R73) -/

/-- PERMIT is asserted only while the session copies, at a READY station (R25). -/
theorem State.copying_of_permit {s : State} {i : StationId} {x : Session} (session : (s.station i).session = some x)
    (permit : s.permit i = true) : (s.station i).state = .ready ∧ x.copying = true := by
  simp only [State.permit, session, Bool.and_eq_true, decide_eq_true_eq] at permit
  obtain ⟨⟨-, ready⟩, here, phase⟩ := permit
  refine ⟨ready, ?_⟩
  simp only [Session.copying, here, Bool.true_and, Bool.or_eq_true, decide_eq_true_eq, Bool.and_eq_true] at phase ⊢
  tauto

/-- A sheet fed at a station without a session. -/
theorem State.coverSheet_of_none (s : State) (i : StationId) {st : Station} (ns : List Notice) (n : Nat) (k : Kind)
    (session : st.session = none) :
    (s.atStation i st ns).coverSheet i n k =
      s.atStation i { st with path := st.path ++ [⟨n, k, s.now, .unpermitted, none⟩] } ns := by
  simp [State.coverSheet, session]

/-- The session's record once a COVERED sheet of kind `k` and price `price` is fed (R88), before tier and pause. -/
def Session.fedCovered (x : Session) (k : Kind) (price : Nat) : Session :=
  { x with
    fed := min 4294967295 (x.fed + 1), pending := x.pending + price
    clamped := x.clamped || x.plan.clampsAt x.rate x.tier k
    lastKind := some k }

/-- The fed sheet changes neither the phase nor FORCED of its session, nor what its tier follows from. -/
theorem Session.copying_fedCovered (x : Session) (k : Kind) (price : Nat) :
    (x.fedCovered k price).copying = x.copying := rfl

theorem Session.phase_fedCovered (x : Session) (k : Kind) (price : Nat) : (x.fedCovered k price).phase = x.phase := rfl

theorem Session.forced_fedCovered (x : Session) (k : Kind) (price : Nat) : (x.fedCovered k price).forced = x.forced :=
  rfl

theorem Session.tiered_fedCovered {x y : Session} {k : Kind} {price : Nat} {path : List Sheet}
    (h : (x.fedCovered k price).Tiered y path) : x.Tiered y path := h

theorem Session.copying_recounted (x : Session) (fed : Nat) (clamped : Bool) :
    ({ x with fed := fed, clamped := clamped } : Session).copying = x.copying := rfl

/-- A tier update leaves the session copying or not, as it was. -/
@[simp] theorem Session.copying_retier (x : Session) (path : List Sheet) : (x.retier path).copying = x.copying := by
  rw [Session.retier_eq]
  rfl

@[simp] theorem Session.phase_retier (x : Session) (path : List Sheet) : (x.retier path).phase = x.phase := by
  rw [Session.retier_eq]

@[simp] theorem Session.forced_retier (x : Session) (path : List Sheet) : (x.retier path).forced = x.forced := by
  rw [Session.retier_eq]

/-- A COVERED sheet joins the path and its session, whose tier is brought up to date before its pause is evaluated
(R88, R82, R93). -/
theorem State.coverSheet_of_covered (s : State) (i : StationId) {st : Station} (ns : List Notice) {n : Nat}
    {k : Kind} {x : Session} {e : Sheet} (session : st.session = some x)
    (permitted : (s.atStation i st ns).permit i = true)
    (fits : x.plan.priceAt x.rate x.tier k ≤ 10 * x.hold - x.charged - x.pending)
    (sheet : e = ⟨n, k, s.now, .covered (x.plan.priceAt x.rate x.tier k), some x.serial⟩) :
    ∃ tier ceiling phase forced timer reader y,
      y = { x with
        fed := min 4294967295 (x.fed + 1), pending := x.pending + x.plan.priceAt x.rate x.tier k
        clamped := x.clamped || x.plan.clampsAt x.rate x.tier k
        lastKind := some k, tier := tier, ceiling := ceiling, phase := phase, forced := forced } ∧
      (s.atStation i st ns).coverSheet i n k = s.atStation i
        { st with path := st.path ++ [e], session := some y, pauseTimer := timer, reader := reader }
        (pauseNotices st i x y ns) ∧
      x.Tiered y (st.path ++ [e]) ∧
      ∀ after : Station, after.pauseTimer = timer → after.reader = reader → st.PauseFollows after s.now x y := by
  obtain ⟨-, copying⟩ := State.copying_of_permit (by simpa using session) permitted
  obtain ⟨fed, counted⟩ : ∃ fed, fed = x.fedCovered k (x.plan.priceAt x.rate x.tier k) := ⟨_, rfl⟩
  have joined : (s.atStation i st ns).coverSheet i n k = (s.atStation i { st with
      path := st.path ++ [e], session := some (fed.retier (st.path ++ [e])) } ns).evaluatePause i false := by
    simp [State.coverSheet, session, permitted, satAdd, Config.top32, Session.available, fits, sheet, counted,
      Session.fedCovered]
  have phase' : fed.phase = x.phase := by rw [counted, Session.phase_fedCovered]
  have forced' : fed.forced = x.forced := by rw [counted, Session.forced_fedCovered]
  have copying' : fed.copying = true := by rw [counted, Session.copying_fedCovered, copying]
  obtain ⟨phase, forced, timer, reader, result, follows⟩ := s.evaluatePause_atStation i
    (st := { st with path := st.path ++ [e], session := some (fed.retier (st.path ++ [e])) }) ns rfl
    ((fed.copying_retier _).trans copying')
  have tiered : x.Tiered (fed.retier (st.path ++ [e])) (st.path ++ [e]) := by
    have follows := fed.retier_tiered (st.path ++ [e])
    generalize fed.retier (st.path ++ [e]) = y at follows ⊢
    rw [counted] at follows
    exact Session.tiered_fedCovered follows
  refine ⟨_, _, phase, forced, timer, reader, { fed.retier (st.path ++ [e]) with phase := phase, forced := forced },
    by rw [Session.retier_eq, counted, Session.fedCovered], ?_, ⟨tiered.1, tiered.2⟩,
      fun after ht hr => (follows after ht hr).of_same rfl rfl
      rfl rfl rfl (phase'.symm.trans (fed.phase_retier _).symm) (forced'.symm.trans (fed.forced_retier _).symm)⟩
  rw [joined, result]
  congr 1
  simp only [pauseNotices, Session.phase_retier, phase']

/-- The coverage of a sheet fed into a session, and what the feed leaves of the session: COVERED where PERMIT is
asserted and the price fits, with the pause evaluated; otherwise counted as fed with no money moved. -/
theorem State.coverSheet_of_session (s : State) (i : StationId) {st : Station} (ns : List Notice) {n price : Nat}
    {k : Kind} {x : Session} {e : Sheet} {permit : Bool} (session : st.session = some x)
    (permitted : (s.atStation i st ns).permit i = permit) (cost : price = x.plan.priceAt x.rate x.tier k)
    (sheet : e = { number := n, kind := k, fedAt := s.now
                   coverage := if permit then
                     if price ≤ 10 * x.hold - x.charged - x.pending then .covered price else .uncovered price
                     else .unpermitted
                   serial := some x.serial }) :
    ∃ y timer reader,
      (s.atStation i st ns).coverSheet i n k = s.atStation i
        { st with path := st.path ++ [e], session := some y, pauseTimer := timer, reader := reader }
        (if e.isCovered then pauseNotices st i x y ns else ns) ∧
      y.copying = x.copying ∧
      (e.isCovered = true → (∃ tier ceiling phase forced, y = { x with
          fed := min 4294967295 (x.fed + 1), pending := x.pending + price
          clamped := x.clamped || x.plan.clampsAt x.rate x.tier k
          lastKind := some k, tier := tier, ceiling := ceiling, phase := phase, forced := forced }) ∧
        x.Tiered y (st.path ++ [e]) ∧
        ∀ after : Station, after.pauseTimer = timer → after.reader = reader → st.PauseFollows after s.now x y) ∧
      (e.isCovered = false → y = { x with
          fed := min 4294967295 (x.fed + 1)
          clamped := x.clamped || (permit && x.plan.clampsAt x.rate x.tier k) } ∧
        timer = st.pauseTimer ∧ reader = st.reader) := by
  subst cost
  cases permit with
  | false =>
      simp only [Bool.false_eq_true, if_false] at sheet
      subst sheet
      refine ⟨_, st.pauseTimer, st.reader, ?_, ?_, nofun, fun _ => ⟨rfl, rfl, rfl⟩⟩
      · simp [State.coverSheet, session, permitted, Sheet.isCovered, satAdd, Config.top32]
      · exact x.copying_recounted _ _
  | true =>
      obtain ⟨-, copying⟩ := State.copying_of_permit (by simpa using session) permitted
      by_cases fits : x.plan.priceAt x.rate x.tier k ≤ 10 * x.hold - x.charged - x.pending
      · simp only [if_pos, if_pos fits] at sheet
        obtain ⟨tier, ceiling, phase, forced, timer, reader, y, record, result, tiered, follows⟩ :=
          s.coverSheet_of_covered i ns session permitted fits sheet
        have covered : e.isCovered = true := by rw [sheet]; rfl
        refine ⟨y, timer, reader, by rw [result, covered]; rfl, ?_, fun _ => ⟨⟨tier, ceiling, phase, forced, record⟩,
          tiered, follows⟩, fun h => nomatch covered.symm.trans h⟩
        have follow := follows { st with pauseTimer := timer, reader := reader } rfl rfl
        exact (follow.copying copying (by rw [record])).trans copying.symm
      · simp only [if_pos, if_neg fits] at sheet
        subst sheet
        refine ⟨_, st.pauseTimer, st.reader, ?_, ?_, nofun, fun _ => ⟨rfl, rfl, rfl⟩⟩
        · simp [State.coverSheet, session, permitted, Sheet.isCovered, satAdd, Config.top32, Session.available, fits]
        · exact x.copying_recounted _ _

end Sys2Proof.Machine
end

section
/-! The settlement of a COUNTER session (R70, R72), and what a CLOSING one meets at a jam (R113). -/

namespace Sys2Proof.Machine

/-! ### The settlement of a COUNTER session -/

/-- The part once a SETTLE record has joined the journal in place of its session's reservation (R155). -/
def State.journaled (s : State) (q : SettleRecord) : State :=
  { s with
    recordSerial := (s.recordSerial + 1) % 4294967296
    journal := s.journal ++ [.settle q]
    reservations := s.reservations - 1 }

/-- The SETTLE record of a COUNTER session of station `i` with its close reason (R151). -/
def State.counterRecord (s : State) (i : StationId) (x : Session) (reason : CloseReason) : SettleRecord :=
  settleRecord ((s.recordSerial + 1) % 4294967296) s.stamp 0 i x ((x.charged + 5) / 10) reason

/-- A COUNTER session has no account step: its settlement is the record, CLOSED and SESSION-CLOSED (R70, R71). -/
theorem State.settle_atStation (s : State) (i : StationId) (st : Station) (ns : List Notice) {x : Session} {ref : Nat}
    (payment : x.payment = .counter ref) (reason : CloseReason) :
    (s.atStation i st ns).settle i x reason = (s.journaled (s.counterRecord i x reason)).atStation i
      { st with reader := st.reader.produce (.closed ((x.charged + 5) / 10)), session := none }
      (insertNotice ⟨.sessionClosed, i.val + 1⟩ ns) := by
  have account : (s.atStation i st ns).accountStep x x.chargeCents = (s.atStation i st ns, false) := by
    simp only [State.accountStep, payment]
  have identity : (s.atStation i st ns).identityOf { x with parked := x.parked || false } = 0 := by
    simp only [State.identityOf, payment]
  have written (r : Nat → SettleRecord) : (s.atStation i st ns).writeSettle r =
      (s.journaled (r ((s.recordSerial + 1) % 4294967296))).atStation i st ns := rfl
  simp only [State.settle, account, identity, written, State.indicate_atStation, State.postAt_atStation,
    State.setSession_atStation, State.stamp_atStation]
  rw [show ({ x with parked := x.parked || false } : Session) = x by simp]
  rfl

/-- The settlement in service of a COUNTER session that is not stop-pending reloads the idle pair (R72). -/
theorem State.settleInService_atStation (s : State) (i : StationId) (st : Station) (ns : List Notice) {x : Session}
    {ref : Nat} (payment : x.payment = .counter ref) (stays : x.stopPending = false) (reason : CloseReason) :
    (s.atStation i st ns).settleInService i x reason = (s.journaled (s.counterRecord i x reason)).atStation i
      { st with
        reader := st.reader.produce (.closed ((x.charged + 5) / 10))
        session := none
        timerA := loadedTimer s.now (codeSeconds st.profile.idleA)
        timerB := loadedTimer s.now (codeSeconds st.profile.idleB) }
      (insertNotice ⟨.sessionClosed, i.val + 1⟩ ns) := by
  simp only [State.settleInService, State.settle_atStation s i st ns payment, stays, Bool.false_eq_true, if_false,
    State.reloadBoth_atStation]
  rfl

/-- A stop-pending COUNTER session leaves its station OFFLINE (R72, R29). -/
theorem State.settleInService_of_stopPending (s : State) (i : StationId) (st : Station) (ns : List Notice) {x : Session}
    {ref : Nat} (payment : x.payment = .counter ref) (stops : x.stopPending = true) (reason : CloseReason) :
    (s.atStation i st ns).settleInService i x reason = (s.journaled (s.counterRecord i x reason)).atStation i
      { ({ st with
          reader := st.reader.produce (.closed ((x.charged + 5) / 10)), session := none } : Station).leaveService with
        state := .offline }
      (insertNotice ⟨changeNotice st.state .offline, i.val + 1⟩ (insertNotice ⟨.sessionClosed, i.val + 1⟩ ns)) := by
  have state (a : Station) : a.leaveService.state = a.state := by
    unfold Station.leaveService Station.stopIdle Station.closeJam
    split
    · split
      · rfl
      · split <;> rfl
    · rfl
  simp only [State.settleInService, State.settle_atStation s i st ns payment, stops, if_true, State.enterOffline,
    State.modStation_atStation, State.enterState_atStation, state]

/-- A JAMMED or RECOVER station that leaves service closes its OPEN record (R29). -/
theorem Station.leaveService_of_jam {st : Station} {r : JamRecord} (state : st.state = .jammed ∨ st.state = .recover)
    (jam : st.jam = some r) (lost : r.lost = none) :
    st.leaveService = { st with
      purgeTimer := none
      jam := some { r with lost := some (r.inDoubt - r.purged) }
      meters := { st.meters with
        lost := (st.meters.lost + (r.inDoubt - r.purged)) % 100000000
        purged := (st.meters.purged + r.purged) % 100000000 }
      timerA := .stopped
      timerB := .stopped } := by
  rw [Station.leaveService, if_pos state, Station.closeJam_of_open jam lost]
  rfl

/-- A READY or NOT-READY station that leaves service stops its idle timers (R29). -/
theorem Station.leaveService_of_working {st : Station} (state : st.state = .ready ∨ st.state = .notReady) :
    st.leaveService = { st with timerA := .stopped, timerB := .stopped } := by
  rw [Station.leaveService, if_neg]
  · rfl
  · rcases state with h | h <;> rw [h] <;> nofun

/-! ### A CLOSING session at a jam (R113) -/

/-- A jam at a READY or NOT-READY station whose session is CLOSING: the hand-over releases its sheets, and the report
of the emptied path settles it. -/
theorem State.declareJam_of_closing (s : State) (i : StationId) {st : Station} (ns : List Notice) (cause : JamCause)
    {x : Session} {reason : CloseReason} (state : st.state = .ready ∨ st.state = .notReady) (path : st.path ≠ [])
    (fits : st.path.length ≤ 4294967295) (session : st.session = some x) (closing : x.phase = .closing reason)
    (stays : x.suspended = false) :
    (s.atStation i st ns).declareJam i cause =
      (s.atStation i ((st.jamOpened cause s.stamp).handOver.afterJam s.now) (st.jamNotices i ns)).settleInService i
        (x.handedOver st.path) reason := by
  obtain ⟨listed, jam⟩ := st.jam_handOver_opened cause s.stamp rfl fits
  have positive : 0 < st.path.length := List.length_pos_of_ne_nil path
  have idle : x.copying = false := by simp [Session.copying, closing]
  have handed : (st.jamOpened cause s.stamp).handOver.session = some (x.handedOver st.path) :=
    Station.session_handOver session
  have suspended : (x.handedOver st.path).suspended = x.suspended := by
    rw [Session.handedOver, Session.retier_eq]
    rfl
  rw [State.declareJam_atStation s i state path (s.handOver_atStation i (st := st.jamOpened cause s.stamp) ns
    fun w h => by cases session.symm.trans h; exact idle) jam positive]
  exact State.emptyPathReport_of_closing
    (State.quietTest_of_not_ready (by simpa using Station.state_afterJam_ne_ready _ _))
    (by simpa using handed) ((x.phase_handedOver _).trans closing) (suspended.trans stays)

/-! ### The fed sheet -/

/-- A feed after its activity, with room in the path: the next number and the coverage (R8). -/
theorem State.feedSheet_of_room (s : State) (i : StationId) {st : Station} (ns : List Notice)
    (room : st.path.length < 8) :
    (s.atStation i st ns).feedSheet i = (s.atStation i { st with lastSheet := (st.lastSheet + 1) % 65536 } ns).coverSheet i
      ((st.lastSheet + 1) % 65536) st.lines.kind := by
  simp only [State.feedSheet, State.station_atStation_self, State.modStation_atStation]
  exact if_pos room

/-- A feed after its activity, with eight sheets in the path: an overrun follows the coverage (R10). -/
theorem State.feedSheet_of_full (s : State) (i : StationId) {st : Station} (ns : List Notice)
    (full : st.path.length = 8) :
    (s.atStation i st ns).feedSheet i = ((s.atStation i { st with lastSheet := (st.lastSheet + 1) % 65536 } ns).coverSheet
      i ((st.lastSheet + 1) % 65536) st.lines.kind).declareJam i .overrun := by
  have noRoom : ¬ st.path.length < Config.pathCapacity := by rw [full]; decide
  simp only [State.feedSheet, State.station_atStation_self, State.modStation_atStation]
  exact if_neg noRoom

end Sys2Proof.Machine
end

section
/-! Feeds (R6 to R10, R87, R88). -/

namespace Sys2Proof.Machine

/-- The station as a feed finds it once its activity is made and the sheet has its number. -/
def Station.feeding (st : Station) (now : Nat) : Station :=
  { st.asserted .feed now st.profile.linkFeed with lastSheet := (st.lastSheet + 1) % 65536 }

/-- A feed with room in the path, at a station that is not in SAVE. -/
theorem exec_feed_of_room {s : State} {i : StationId} (run : s.running = true)
    (level : (s.station i).lines.feed.level = false) (timing : (s.station i).lines.feed.timing = none)
    (save : (s.station i).state ≠ .save) (room : (s.station i).path.length < 8) :
    exec (.feed i) s = .next (((s.atStation i ((s.station i).feeding s.now) s.notices).coverSheet i
      (((s.station i).lastSheet + 1) % 65536) (s.station i).lines.kind).endEvent i (s.station i).state) := by
  rw [exec_feed run level timing, State.activity_asserted _ _ save,
    State.feedSheet_of_room _ _ (st := (s.station i).asserted .feed s.now _) _ room]
  rfl

/-- A feed that finds eight sheets in the path overruns it (R10). -/
theorem exec_feed_of_full {s : State} {i : StationId} (run : s.running = true)
    (level : (s.station i).lines.feed.level = false) (timing : (s.station i).lines.feed.timing = none)
    (save : (s.station i).state ≠ .save) (full : (s.station i).path.length = 8) :
    exec (.feed i) s = .next ((((s.atStation i ((s.station i).feeding s.now) s.notices).coverSheet i
      (((s.station i).lastSheet + 1) % 65536) (s.station i).lines.kind).declareJam i .overrun).endEvent i
        (s.station i).state) := by
  rw [exec_feed run level timing, State.activity_asserted _ _ save,
    State.feedSheet_of_full _ _ (st := (s.station i).asserted .feed s.now _) _ full]
  rfl

/-- A feed with room in the path at a station without a session (R8, R87): the sheet joins UNPERMITTED with no serial,
and the linked timer is reloaded. -/
theorem exec_feed_of_none {s : State} {i : StationId} {e : Sheet} {fed : Station} (run : s.running = true)
    (level : (s.station i).lines.feed.level = false) (timing : (s.station i).lines.feed.timing = none)
    (session : (s.station i).session = none) (room : (s.station i).path.length < 8)
    (save : (s.station i).state ≠ .save)
    (sheet : e = { number := ((s.station i).lastSheet + 1) % 65536, kind := (s.station i).lines.kind, fedAt := s.now
                   coverage := .unpermitted, serial := none })
    (joined : fed = { s.station i with
      lines := { (s.station i).lines with feed := { raw := true, level := true, timing := none } }
      lastSheet := ((s.station i).lastSheet + 1) % 65536
      path := (s.station i).path ++ [e] }) :
    exec (.feed i) s = .next (s.setStation i (fed.reloaded s.now (s.station i).profile.linkFeed)) := by
  subst sheet joined
  rw [exec_feed_of_room run level timing save room,
    State.coverSheet_of_none _ _ (st := (s.station i).feeding s.now) _ _ _ session,
    State.endEvent_of_same (State.station_atStation_self .. ▸ rfl)]
  rfl

/-- That feed where the linked timer has a duration (R40). -/
theorem exec_feed_of_duration {s : State} {i : StationId} {e : Sheet} {fed : Station} {d : Nat} (run : s.running = true)
    (level : (s.station i).lines.feed.level = false) (timing : (s.station i).lines.feed.timing = none)
    (session : (s.station i).session = none) (room : (s.station i).path.length < 8)
    (save : (s.station i).state ≠ .save) (off : (s.station i).state ≠ .offline)
    (duration : (s.station i).duration (s.station i).profile.linkFeed = some d)
    (sheet : e = { number := ((s.station i).lastSheet + 1) % 65536, kind := (s.station i).lines.kind, fedAt := s.now
                   coverage := .unpermitted, serial := none })
    (joined : fed = { s.station i with
      lines := { (s.station i).lines with feed := { raw := true, level := true, timing := none } }
      lastSheet := ((s.station i).lastSheet + 1) % 65536
      path := (s.station i).path ++ [e] }) :
    exec (.feed i) s = .next (s.setStation i
      (fed.setTimer (s.station i).profile.linkFeed (.running (s.now + 1000 * d)))) := by
  have off' : fed.state ≠ .offline := by rw [joined]; exact off
  have duration' : fed.duration (s.station i).profile.linkFeed = some d := by rw [joined]; exact duration
  rw [exec_feed_of_none run level timing session room save sheet joined, Station.reloaded_of_duration off' duration']

/-- The kind of a sheet is the number that its three levels write (R6). -/
theorem Lines.kind_eq (l : Lines) (h : (if l.colour.level then 4 else 0) + (if l.large.level then 2 else 0) +
    (if l.duplex.level then 1 else 0) < 8) :
    l.kind = ⟨(if l.colour.level then 4 else 0) + (if l.large.level then 2 else 0) +
      (if l.duplex.level then 1 else 0), h⟩ := by
  apply Fin.ext
  show l.kind.val = (if l.colour.level then 4 else 0) + (if l.large.level then 2 else 0) +
    (if l.duplex.level then 1 else 0)
  unfold Lines.kind
  cases l.colour.level <;> cases l.large.level <;> cases l.duplex.level <;> rfl

/-- A feed with room in the path of a SAVE station without a session (R45): woken, the sheet keeps it READY. -/
theorem exec_feed_of_save {s : State} {i : StationId} (run : s.running = true)
    (level : (s.station i).lines.feed.level = false) (timing : (s.station i).lines.feed.timing = none)
    (session : (s.station i).session = none) (room : (s.station i).path.length < 8)
    (save : (s.station i).state = .save) :
    exec (.feed i) s = .next (s.atStation i
      { ({ s.station i with state := .ready } : Station).feeding s.now with
        path := (s.station i).path ++ [{ number := ((s.station i).lastSheet + 1) % 65536, kind := (s.station i).lines.kind
                                         fedAt := s.now, coverage := .unpermitted, serial := none }] }
      (insertNotice ⟨.stationChange, i.val + 1⟩ s.notices)) := by
  have numbered := s.feedSheet_of_room i
    (st := ({ s.station i with state := .ready } : Station).asserted .feed s.now (s.station i).profile.linkFeed)
    (insertNotice ⟨.stationChange, i.val + 1⟩ s.notices) room
  have joined := s.coverSheet_of_none i (st := ({ s.station i with state := .ready } : Station).feeding s.now)
    (insertNotice ⟨.stationChange, i.val + 1⟩ s.notices) (((s.station i).lastSheet + 1) % 65536)
    (s.station i).lines.kind session
  rw [exec_feed run level timing, State.activity_asserted_save _ _ save, numbered.trans joined, State.endEvent,
    State.quietTest_of_path (by simp), ite_self]
  rfl

/-- What waking a SAVE station leaves of its timers is what R40 says of the activity. -/
theorem Station.linkedTimer_of_woken {st : Station} (save : st.state = .save) (now : Nat) (link t : TimerId) :
    ({ st with state := .ready } : Station).linkedTimer now link t = st.linkedTimer now link t := by
  have same : ({ st with state := .ready } : Station).timer t = st.timer t := by cases t <;> rfl
  have duration : ({ st with state := .ready } : Station).duration link = st.duration link := rfl
  simp only [Station.linkedTimer, save, same, duration, ne_eq, reduceCtorEq, not_false_eq_true, true_and]

/-- The station once sheet `e` has joined its path, with its session, pause timer and reader as the feed leaves them. -/
def Station.fedInto (st : Station) (now : Nat) (e : Sheet) (x : Session) (timer : Option Nat) (reader : ReaderPort) :
    Station :=
  { st.feeding now with path := st.path ++ [e], session := some x, pauseTimer := timer, reader := reader }

theorem Station.state_fedInto (st : Station) (now : Nat) (e : Sheet) (x : Session) (timer : Option Nat)
    (reader : ReaderPort) : (st.fedInto now e x timer reader).state = st.state := rfl

@[simp] theorem Station.profile_fedInto (st : Station) (now : Nat) (e : Sheet) (x : Session) (timer : Option Nat)
    (reader : ReaderPort) : (st.fedInto now e x timer reader).profile = st.profile := rfl

/-- The coverage of a sheet fed into session `x` of a station that is not in SAVE, whatever the
event then makes of the path: the session as fed, and its pause where the sheet is COVERED. -/
theorem State.coverSheet_feeding {s : State} {i : StationId} {x : Session} {price : Nat} {e : Sheet}
    (session : (s.station i).session = some x)
    (cost : price = x.plan.priceAt x.rate x.tier (s.station i).lines.kind)
    (sheet : e = { number := ((s.station i).lastSheet + 1) % 65536, kind := (s.station i).lines.kind, fedAt := s.now
                   coverage := if s.permit i then
                     if price ≤ 10 * x.hold - x.charged - x.pending then .covered price else .uncovered price
                     else .unpermitted
                   serial := some x.serial }) :
    ∃ fed timer reader,
      (s.atStation i ((s.station i).feeding s.now) s.notices).coverSheet i (((s.station i).lastSheet + 1) % 65536)
          (s.station i).lines.kind = s.atStation i ((s.station i).fedInto s.now e fed timer reader)
        (if e.isCovered then pauseNotices (s.station i) i x fed s.notices else s.notices) ∧
      fed.copying = x.copying ∧
      (e.isCovered = true → (∃ tier ceiling phase forced, fed = { x with
          fed := min 4294967295 (x.fed + 1), pending := x.pending + price
          clamped := x.clamped || x.plan.clampsAt x.rate x.tier (s.station i).lines.kind
          lastKind := some (s.station i).lines.kind
          tier := tier, ceiling := ceiling, phase := phase, forced := forced }) ∧
        x.Tiered fed ((s.station i).path ++ [e]) ∧
        ∀ after : Station, after.pauseTimer = timer → after.reader = reader →
          (s.station i).PauseFollows after s.now x fed) ∧
      (e.isCovered = false → fed = { x with
          fed := min 4294967295 (x.fed + 1)
          clamped := x.clamped || (s.permit i && x.plan.clampsAt x.rate x.tier (s.station i).lines.kind) } ∧
        timer = (s.station i).pauseTimer ∧ reader = (s.station i).reader) :=
  s.coverSheet_of_session i (st := (s.station i).feeding s.now) s.notices session
    (State.permit_atStation _ _ _ _ rfl rfl) cost sheet

/-- PERMIT is asserted at a READY station of the RUNNING device whose session is ACTIVE (R25). -/
theorem State.permit_of_active {s : State} {i : StationId} {x : Session} (run : s.running = true)
    (ready : (s.station i).state = .ready) (session : (s.station i).session = some x) (active : x.phase = .active)
    (here : x.suspended = false) : s.permit i = true := by
  simp only [State.running, State.alive, Bool.and_eq_true, decide_eq_true_eq] at run
  obtain ⟨⟨⟨⟨supply, pin⟩, -⟩, -⟩, device⟩ := run
  simp [State.permit, State.driven, supply, pin, device, ready, session, active, here]

/-- A sheet fed with PERMIT asserted is COVERED exactly where its price fits (R88). -/
theorem Sheet.isCovered_of_permit {e : Sheet} {price credit : Nat} {permit : Bool}
    (coverage : e.coverage = if permit then if price ≤ credit then .covered price else .uncovered price
      else .unpermitted) : e.isCovered = (permit && decide (price ≤ credit)) := by
  rw [Sheet.isCovered, coverage]
  cases permit with
  | false => rfl
  | true => by_cases fits : price ≤ credit <;> simp [fits]

/-- An UNPERMITTED sheet of the station's session, if it has one (R87). -/
def Station.unpermittedSheet (st : Station) (now : Nat) : Sheet where
  number := (st.lastSheet + 1) % 65536
  kind := st.lines.kind
  fedAt := now
  coverage := .unpermitted
  serial := st.session.map Session.serial

/-- The session that counts one sheet more as fed (R73). -/
def Session.counted (x : Session) : Session := { x with fed := min 4294967295 (x.fed + 1) }

/-- The station once an UNPERMITTED sheet has joined its path: a session counts it as fed (R73). -/
def Station.fedUnpermitted (st : Station) (now : Nat) : Station :=
  { st.feeding now with
    path := st.path ++ [st.unpermittedSheet now]
    session := st.session.map Session.counted }

@[simp] theorem Station.profile_fedUnpermitted (st : Station) (now : Nat) :
    (st.fedUnpermitted now).profile = st.profile := rfl

@[simp] theorem Station.reader_fedUnpermitted (st : Station) (now : Nat) :
    (st.fedUnpermitted now).reader = st.reader := rfl

@[simp] theorem Station.authTimer_fedUnpermitted (st : Station) (now : Nat) :
    (st.fedUnpermitted now).authTimer = st.authTimer := rfl

/-- A sheet fed with PERMIT deasserted is UNPERMITTED. -/
theorem State.coverSheet_unpermitted {s : State} {i : StationId} (permit : s.permit i = false) :
    (s.atStation i ((s.station i).feeding s.now) s.notices).coverSheet i (((s.station i).lastSheet + 1) % 65536)
      (s.station i).lines.kind = s.atStation i ((s.station i).fedUnpermitted s.now) s.notices := by
  cases session : (s.station i).session with
  | none =>
      rw [State.coverSheet_of_none _ _ (st := (s.station i).feeding s.now) _ _ _ session]
      simp [Station.fedUnpermitted, Station.unpermittedSheet, session]
      exact congrArg (fun x => s.atStation i { (s.station i).feeding s.now with path := _, session := x } _) session
  | some x =>
      obtain ⟨fed, timer, reader, result, -, -, bare⟩ := State.coverSheet_feeding session rfl (by rw [permit])
      obtain ⟨rfl, rfl, rfl⟩ := bare rfl
      rw [result]
      simp [Station.fedUnpermitted, Station.unpermittedSheet, Session.counted, Station.fedInto, Sheet.isCovered, permit, session]
      rfl

/-- An overrun with PERMIT deasserted. -/
theorem exec_feed_of_full_unpermitted {s : State} {i : StationId} (run : s.running = true)
    (level : (s.station i).lines.feed.level = false) (timing : (s.station i).lines.feed.timing = none)
    (save : (s.station i).state ≠ .save) (full : (s.station i).path.length = 8) (permit : s.permit i = false) :
    exec (.feed i) s = .next (((s.atStation i ((s.station i).fedUnpermitted s.now) s.notices).declareJam i
      .overrun).endEvent i (s.station i).state) := by
  rw [exec_feed_of_full run level timing save full, State.coverSheet_unpermitted permit]

/-- The path of an overrun holds nine sheets. -/
theorem length_overrun {path : List Sheet} (full : path.length = 8) (e : Sheet) : (path ++ [e]).length = 9 := by
  simp [full]

theorem State.permit_of_none {s : State} {i : StationId} (session : (s.station i).session = none) :
    s.permit i = false := by
  simp [State.permit, session]

/-- PERMIT is deasserted where the session does not copy. -/
theorem State.permit_of_not_copying {s : State} {i : StationId} {x : Session}
    (session : (s.station i).session = some x) (idle : x.copying = false) : s.permit i = false := by
  cases permit : s.permit i with
  | false => rfl
  | true => exact (idle.symm.trans (State.copying_of_permit session permit).2).symm

/-- PERMIT is deasserted where the station is not READY. -/
theorem State.permit_of_not_ready {s : State} {i : StationId} (h : (s.station i).state ≠ .ready) :
    s.permit i = false := by
  simp [State.permit, h]

/-- The READY or NOT-READY station after a feed with PERMIT deasserted has overrun its path, before a session is settled. -/
def Station.overrun (st : Station) (now stamp : Nat) : Station :=
  ((st.fedUnpermitted now).jamOpened .overrun stamp).handOver.afterJam now

theorem Station.reader_overrun (st : Station) (now stamp : Nat) : (st.overrun now stamp).reader = st.reader := by
  simp [Station.overrun, Station.afterJam]

theorem Station.authTimer_overrun (st : Station) (now stamp : Nat) :
    (st.overrun now stamp).authTimer = st.authTimer := by
  simp [Station.overrun, Station.afterJam]

/-- The record that this overrun opens. -/
theorem Station.jam_overrun {st : Station} (now stamp : Nat) (full : st.path.length = 8) :
    ∃ listed, (st.overrun now stamp).jam = some ((st.fedUnpermitted now).newRecord .overrun stamp 9 listed) :=
  (st.fedUnpermitted now).jam_handOver_opened .overrun stamp (length_overrun full _) (by decide)

theorem Station.fits_overrun {st : Station} (now : Nat) (full : st.path.length = 8) :
    (st.fedUnpermitted now).path ≠ [] ∧ (st.fedUnpermitted now).path.length ≤ 4294967295 :=
  ⟨by simp [Station.fedUnpermitted], (length_overrun full (st.unpermittedSheet now)).trans_le (by decide)⟩

/-- A session at the overrun counts the ninth sheet and gives up all of its own. -/
theorem Station.session_fedUnpermitted {st : Station} {x : Session} (session : st.session = some x) (now : Nat) :
    (st.fedUnpermitted now).session = some x.counted := by
  rw [Station.fedUnpermitted, session]
  rfl

theorem Station.session_overrun {st : Station} {x : Session} (session : st.session = some x) (now stamp : Nat) :
    (st.overrun now stamp).session = some (x.counted.handedOver (st.fedUnpermitted now).path) :=
  Station.session_handOver (st := (st.fedUnpermitted now).jamOpened .overrun stamp)
    (Station.session_fedUnpermitted session now)

/-- An overrun with PERMIT deasserted where the session, if there is one, neither copies nor is CLOSING. -/
theorem exec_overrun_of_idle {s : State} {i : StationId} (run : s.running = true)
    (level : (s.station i).lines.feed.level = false) (timing : (s.station i).lines.feed.timing = none)
    (full : (s.station i).path.length = 8) (permit : s.permit i = false)
    (state : (s.station i).state = .ready ∨ (s.station i).state = .notReady)
    (idle : ∀ x, (s.station i).session = some x → x.copying = false ∧ x.phase.closeReason = none) :
    exec (.feed i) s = .next (s.atStation i ((s.station i).overrun s.now s.stamp) ((s.station i).jamNotices i s.notices)) := by
  obtain ⟨path, fits⟩ := Station.fits_overrun s.now full
  have idle' : ∀ x, ((s.station i).fedUnpermitted s.now).session = some x →
      x.copying = false ∧ x.phase.closeReason = none := by
    intro y h
    obtain ⟨x, session, rfl⟩ := Option.map_eq_some_iff.mp h
    exact idle x session
  have save : (s.station i).state ≠ .save := by rcases state with h | h <;> rw [h] <;> nofun
  rw [exec_feed_of_full_unpermitted run level timing save full permit,
    s.declareJam_of_idle i (st := (s.station i).fedUnpermitted s.now) s.notices .overrun state path fits idle',
    State.endEvent_afterJam]
  rfl

/-- An overrun of a CLOSING COUNTER session's station (R113): the settlement follows the jam in the event. -/
theorem exec_overrun_of_closing {s : State} {i : StationId} {x : Session} {reason : CloseReason} (run : s.running = true)
    (level : (s.station i).lines.feed.level = false) (timing : (s.station i).lines.feed.timing = none)
    (full : (s.station i).path.length = 8) (state : (s.station i).state = .ready ∨ (s.station i).state = .notReady)
    (session : (s.station i).session = some x) (here : x.suspended = false) (closing : x.phase = .closing reason) :
    exec (.feed i) s = .next
      (((s.atStation i ((s.station i).overrun s.now s.stamp) ((s.station i).jamNotices i s.notices)).settleInService i
        (x.counted.handedOver ((s.station i).fedUnpermitted s.now).path) reason).endEvent i (s.station i).state) := by
  obtain ⟨path, fits⟩ := Station.fits_overrun s.now full
  have idle : x.copying = false := by simp [Session.copying, closing]
  have save : (s.station i).state ≠ .save := by rcases state with h | h <;> rw [h] <;> nofun
  rw [exec_feed_of_full_unpermitted run level timing save full (State.permit_of_not_copying session idle),
    s.declareJam_of_closing i (st := (s.station i).fedUnpermitted s.now) s.notices .overrun state path fits
      (Station.session_fedUnpermitted session s.now) closing here]
  rfl

theorem Station.state_overrun (st : Station) (now stamp : Nat) :
    (st.overrun now stamp).state = if st.exitOpen then .recover else .jammed := rfl

theorem Station.state_overrun_ne_ready (st : Station) (now stamp : Nat) : (st.overrun now stamp).state ≠ .ready := by
  rw [Station.state_overrun]
  split <;> nofun

/-- The station after that settlement where no stop is pending (R72). -/
def Station.overrunSettled (st : Station) (now stamp : Nat) (x : Session) : Station :=
  { st.overrun now stamp with
    reader := (st.overrun now stamp).reader.produce (.closed ((x.charged + 5) / 10))
    session := none
    timerA := loadedTimer now (codeSeconds (st.overrun now stamp).profile.idleA)
    timerB := loadedTimer now (codeSeconds (st.overrun now stamp).profile.idleB) }

/-- The station after that settlement where a stop was pending (R72, R29): OFFLINE, with the record CLOSED. -/
def Station.overrunStopped (st : Station) (now stamp : Nat) (x : Session) (listed : List DoubtSheet) : Station :=
  { st.overrun now stamp with
    state := .offline
    reader := (st.overrun now stamp).reader.produce (.closed ((x.charged + 5) / 10))
    session := none
    purgeTimer := none
    jam := some { (st.fedUnpermitted now).newRecord .overrun stamp 9 listed with lost := some 9 }
    meters := { (st.overrun now stamp).meters with
      lost := ((st.overrun now stamp).meters.lost + 9) % 100000000
      purged := ((st.overrun now stamp).meters.purged + 0) % 100000000 }
    timerA := .stopped
    timerB := .stopped }

/-- The SETTLE record of that overrun. -/
def State.overrunRecord (s : State) (i : StationId) (x : Session) (reason : CloseReason) : SettleRecord :=
  s.counterRecord i (x.counted.handedOver ((s.station i).fedUnpermitted s.now).path) reason

/-- What that record carries. -/
theorem State.charged_overrunRecord (s : State) (i : StationId) (x : Session) (reason : CloseReason) :
    (s.overrunRecord i x reason).charged = (x.charged + 5) / 10 := by
  rw [State.overrunRecord, State.counterRecord, Session.charged_handedOver]
  rfl

theorem State.reason_overrunRecord (s : State) (i : StationId) (x : Session) (reason : CloseReason) :
    (s.overrunRecord i x reason).reason = reason := rfl

theorem State.sessionSerial_overrunRecord (s : State) (i : StationId) (x : Session) (reason : CloseReason) :
    (s.overrunRecord i x reason).sessionSerial = x.serial :=
  Session.serial_handedOver x.counted _

theorem State.jammed_overrunRecord (s : State) (i : StationId) (x : Session) (reason : CloseReason) :
    (s.overrunRecord i x reason).jammed = min 4294967295
      (x.jammed + (((s.station i).fedUnpermitted s.now).path.filter fun e => decide (e.serial = some x.serial)).length) :=
  Session.jammed_handedOver x.counted _

theorem exec_overrun_settled {s : State} {i : StationId} {x : Session} {reason : CloseReason} {ref : Nat}
    (run : s.running = true) (level : (s.station i).lines.feed.level = false)
    (timing : (s.station i).lines.feed.timing = none) (full : (s.station i).path.length = 8)
    (state : (s.station i).state = .ready ∨ (s.station i).state = .notReady)
    (session : (s.station i).session = some x) (here : x.suspended = false) (closing : x.phase = .closing reason)
    (payment : x.payment = .counter ref) (stays : x.stopPending = false) :
    exec (.feed i) s = .next ((s.journaled (s.overrunRecord i x reason)).atStation i
      ((s.station i).overrunSettled s.now s.stamp x)
      (insertNotice ⟨.sessionClosed, i.val + 1⟩ ((s.station i).jamNotices i s.notices))) := by
  rw [exec_overrun_of_closing run level timing full state session here closing, s.settleInService_atStation i
    ((s.station i).overrun s.now s.stamp) _ (x := x.counted.handedOver _) ((Session.payment_handedOver _ _).trans payment)
    ((Session.stopPending_handedOver _ _).trans stays), Session.charged_handedOver, State.endEvent_of_not_ready (by
      rw [State.station_atStation_self]
      exact (s.station i).state_overrun_ne_ready s.now s.stamp)]
  rfl

theorem exec_overrun_stopped {s : State} {i : StationId} {x : Session} {reason : CloseReason} {ref : Nat}
    {listed : List DoubtSheet} (run : s.running = true) (level : (s.station i).lines.feed.level = false)
    (timing : (s.station i).lines.feed.timing = none) (full : (s.station i).path.length = 8)
    (state : (s.station i).state = .ready ∨ (s.station i).state = .notReady)
    (session : (s.station i).session = some x) (here : x.suspended = false) (closing : x.phase = .closing reason)
    (payment : x.payment = .counter ref) (stops : x.stopPending = true)
    (jam : ((s.station i).overrun s.now s.stamp).jam =
      some (((s.station i).fedUnpermitted s.now).newRecord .overrun s.stamp 9 listed)) :
    exec (.feed i) s = .next ((s.journaled (s.overrunRecord i x reason)).atStation i
      ((s.station i).overrunStopped s.now s.stamp x listed)
      (insertNotice ⟨if (s.station i).exitOpen then .recovered else .stationChange, i.val + 1⟩
        (insertNotice ⟨.sessionClosed, i.val + 1⟩ ((s.station i).jamNotices i s.notices)))) := by
  have jammed : ((s.station i).overrun s.now s.stamp).state = .jammed ∨
      ((s.station i).overrun s.now s.stamp).state = .recover := Station.state_afterJam_or _ _
  have notice : changeNotice ((s.station i).overrun s.now s.stamp).state .offline =
      if (s.station i).exitOpen then .recovered else .stationChange := by
    rw [Station.state_overrun]
    cases (s.station i).exitOpen <;> rfl
  rw [exec_overrun_of_closing run level timing full state session here closing, s.settleInService_of_stopPending i
    ((s.station i).overrun s.now s.stamp) _ (x := x.counted.handedOver _) ((Session.payment_handedOver _ _).trans payment)
    ((Session.stopPending_handedOver _ _).trans stops), Session.charged_handedOver,
    Station.leaveService_of_jam (st := { (s.station i).overrun s.now s.stamp with reader := _, session := none })
      (r := ((s.station i).fedUnpermitted s.now).newRecord .overrun s.stamp 9 listed) jammed jam rfl, notice, State.endEvent_of_not_ready (by
      rw [State.station_atStation_self]
      nofun)]
  rfl

theorem Station.state_writtenOff (st : Station) (cause : JamCause) (stamp : Nat) (listed : List DoubtSheet) :
    (st.writtenOff cause stamp listed).state = st.state := rfl

theorem Station.session_writtenOff {st : Station} (session : st.session = none) (cause : JamCause) (stamp : Nat)
    (listed : List DoubtSheet) : (st.writtenOff cause stamp listed).session = none :=
  Station.session_handOver_none (st := st.jamOpened cause stamp) session

theorem Station.session_folded_none {st : Station} (session : st.session = none) (r : JamRecord)
    (listed : List DoubtSheet) (now : Nat) : ((st.folded r listed).afterJam now).session = none :=
  Station.session_handOver_none session

theorem Station.session_fedUnpermitted_none {st : Station} (session : st.session = none) (now : Nat) :
    (st.fedUnpermitted now).session = none := by
  rw [Station.fedUnpermitted, session]
  rfl

theorem Station.state_fedUnpermitted (st : Station) (now : Nat) : (st.fedUnpermitted now).state = st.state := rfl

/-- An overrun at an OFFLINE station without a session (R30). -/
theorem exec_overrun_of_offline {s : State} {i : StationId} (run : s.running = true)
    (level : (s.station i).lines.feed.level = false) (timing : (s.station i).lines.feed.timing = none)
    (full : (s.station i).path.length = 8) (session : (s.station i).session = none)
    (off : (s.station i).state = .offline) :
    ∃ listed, exec (.feed i) s = .next (s.atStation i
      (((s.station i).fedUnpermitted s.now).writtenOff .overrun s.stamp listed) (insertNotice ⟨.jam, i.val + 1⟩ s.notices)) := by
  obtain ⟨path, fits⟩ := Station.fits_overrun s.now full
  obtain ⟨listed, result⟩ := s.offlineJam_of_none i (st := (s.station i).fedUnpermitted s.now) s.notices .overrun off
    path fits (congrArg (Option.map _) session)
  refine ⟨listed, ?_⟩
  rw [exec_feed_of_full_unpermitted run level timing (by rw [off]; nofun) full (State.permit_of_none session), result,
    State.endEvent_of_not_ready]
  rw [State.station_atStation_self, Station.state_writtenOff, Station.state_fedUnpermitted, off]
  nofun

end Sys2Proof.Machine
end

section
namespace Sys2Proof.Machine

/-- Settles O36: a feed is the assertion of its line with its activity, the coverage of the sheet, and with eight sheets
in the path the jam that the station's state and session call for. -/
theorem feedJoinsPath : Obligations.FeedJoinsPath := by
  refine ⟨?_, ?_, ?_, ?_, ?_, ?_, ?_, ?_, ?_, ?_, ?_⟩
  · intro s i d run level timing session room ready duration
    exact exec_feed_of_duration run level timing session room (by rw [ready]; nofun) (by rw [ready]; nofun) duration
      (by rw [Lines.kind_eq]) rfl
  · intro s i e fed run level timing session room save sheet joined
    refine ⟨fun idle => ?_, fun d off duration =>
      exec_feed_of_duration run level timing session room save off duration sheet joined⟩
    have idle' : fed.state = .offline ∨ fed.duration (s.station i).profile.linkFeed = none := by
      rw [joined]
      exact idle
    rw [exec_feed_of_none run level timing session room save sheet joined, Station.reloaded_of_idle idle']
  · intro s i run level timing session room save
    refine ⟨_, ⟨((s.station i).lastSheet + 1) % 65536, (s.station i).lines.kind, s.now, .unpermitted, none⟩,
      exec_feed_of_save run level timing session room save, ?_⟩
    rw [State.station_atStation_self]
    exact ⟨rfl, rfl, rfl, rfl, rfl, rfl, rfl,
      Station.reloaded_of_timers (Station.linkedTimer_of_woken save _ _ _) (Station.linkedTimer_of_woken save _ _ _),
      session, rfl, rfl, rfl, rfl, fun j hj => State.station_atStation_of_ne _ i _ _ hj⟩
  · intro s i x price run level timing session ready active here room cost
    have permit := State.permit_of_active run ready session active here
    obtain ⟨e, sheet⟩ : ∃ e : Sheet, e = { number := ((s.station i).lastSheet + 1) % 65536
                                           kind := (s.station i).lines.kind, fedAt := s.now
                                           coverage := if s.permit i then
                                             if price ≤ 10 * x.hold - x.charged - x.pending then .covered price
                                             else .uncovered price else .unpermitted
                                           serial := some x.serial } := ⟨_, rfl⟩
    obtain ⟨fed, timer, reader, result, -, covered, bare⟩ := State.coverSheet_feeding session cost sheet
    have coverage := Sheet.isCovered_of_permit (congrArg Sheet.coverage sheet)
    rw [exec_feed_of_room run level timing (by rw [ready]; nofun) room, result,
      State.endEvent_of_same (State.station_atStation_self .. ▸ rfl)]
    refine ⟨_, fed, e, rfl, ?_⟩
    rw [State.station_atStation_self]
    have others := fun j hj => State.station_atStation_of_ne s (j := j) i
      ((s.station i).fedInto s.now e fed timer reader)
      (if e.isCovered then pauseNotices (s.station i) i x fed s.notices else s.notices) hj
    by_cases fits : price ≤ 10 * x.hold - x.charged - x.pending
    · obtain ⟨⟨tier, ceiling, phase, forced, rfl⟩, -, -⟩ := covered (by simp [coverage, permit, fits])
      exact ⟨rfl, rfl, by rw [sheet], by rw [sheet], by rw [sheet], by rw [sheet], rfl, rfl, rfl, rfl,
        fun _ => ⟨by rw [sheet, permit, if_pos rfl, if_pos fits], rfl, rfl⟩, fun tight => absurd fits (by omega), others,
        rfl, rfl, rfl⟩
    · obtain ⟨rfl, rfl, rfl⟩ := bare (by simp [coverage, fits])
      exact ⟨rfl, rfl, by rw [sheet], by rw [sheet], by rw [sheet], by rw [sheet], rfl, rfl, rfl, rfl,
        fun cheap => absurd cheap fits, fun _ => ⟨by rw [sheet, permit, if_pos rfl, if_neg fits], rfl, rfl, rfl, active⟩,
        others, rfl, rfl, rfl⟩
  · intro s i x price e run level timing session permit room cost sheet
    obtain ⟨ready, -⟩ := State.copying_of_permit session permit
    have save : (s.station i).state ≠ .save := by rw [ready]; nofun
    have sheet' : e = { number := ((s.station i).lastSheet + 1) % 65536, kind := (s.station i).lines.kind, fedAt := s.now
                        coverage := if s.permit i then
                          if price ≤ 10 * x.hold - x.charged - x.pending then .covered price else .uncovered price
                          else .unpermitted
                        serial := some x.serial } := by rw [sheet, permit]; rfl
    obtain ⟨fed, timer, reader, result, -, covered, bare⟩ := State.coverSheet_feeding session cost sheet'
    have coverage := Sheet.isCovered_of_permit (congrArg Sheet.coverage sheet')
    rw [exec_feed_of_room run level timing save room, result,
      State.endEvent_of_same (State.station_atStation_self .. ▸ rfl)]
    refine ⟨_, fed, rfl, ?_⟩
    rw [State.station_atStation_self, State.notices_atStation, coverage]
    refine ⟨rfl, rfl, Station.reloaded_of_timers rfl rfl, fun fits => ?_, fun tight => ?_,
      (Station.state_fedInto _ _ _ _ _ _).trans ready, rfl, rfl, rfl,
      fun j hj => State.station_atStation_of_ne _ i _ _ hj⟩
    · obtain ⟨record, tiered, follows⟩ := covered (by simp [coverage, permit, fits])
      exact ⟨record, tiered, follows _ rfl rfl, by simp [permit, fits]⟩
    · obtain ⟨record, timer, reader⟩ := bare (by simp [coverage, tight])
      exact ⟨by rw [record, permit, Bool.true_and], timer, reader, by simp [tight]⟩
  · intro s i x run level timing session permit room save
    rw [exec_feed_of_room run level timing save room, State.coverSheet_unpermitted permit,
      State.endEvent_of_same (State.station_atStation_self .. ▸ rfl)]
    refine ⟨_, rfl, ?_⟩
    rw [State.station_atStation_self]
    simp only [Station.fedUnpermitted, Station.unpermittedSheet, session, Option.map_some]
    exact ⟨trivial, rfl, Station.reloaded_of_timers rfl rfl, rfl, rfl, rfl, rfl, rfl, rfl, rfl,
      fun j hj => State.station_atStation_of_ne _ i _ _ hj⟩
  · intro s i healthy _ run level timing session full state levels
    have exit := Station.exitOpen_eq_decide levels
    have nine := length_overrun full ((s.station i).unpermittedSheet s.now)
    obtain ⟨listed, jam⟩ := (s.station i).jam_overrun s.now s.stamp full
    rw [exec_overrun_of_idle run level timing full (State.permit_of_none session) state (Station.idle_of_none session)]
    refine ⟨_, ((s.station i).fedUnpermitted s.now).newRecord .overrun s.stamp 9 listed, rfl, ?_⟩
    rw [State.station_atStation_self]
    generalize s.station i = st at exit jam nine ⊢
    exact ⟨rfl, Station.state_afterJam exit rfl rfl, rfl, jam, rfl, rfl, rfl, rfl, rfl, rfl, rfl, by rw [← nine]; rfl,
      fun h => Station.purgeTimer_afterJam_of_healthy exit rfl rfl (by simp) h, Station.jamNotices_eq exit rfl rfl, rfl, rfl,
      fun j hj => State.station_atStation_of_ne _ i _ _ hj⟩
  · intro s i x price e healthy _ run level timing session copying full state levels cost sheet
    have exit := Station.exitOpen_eq_decide levels
    have save : (s.station i).state ≠ .save := by rcases state with h | h <;> rw [h] <;> nofun
    have nine := length_overrun full e
    obtain ⟨fed, timer, reader, covering, copies, covered, bare⟩ := State.coverSheet_feeding session cost sheet
    obtain ⟨listed, jam⟩ := ((s.station i).fedInto s.now e fed timer reader).jam_handOver_opened .overrun s.stamp nine (by decide)
    obtain ⟨y, timer', reader', result, released, follows⟩ := s.declareJam_of_copying i
      (st := (s.station i).fedInto s.now e fed timer reader)
      (if e.isCovered then pauseNotices (s.station i) i x fed s.notices else s.notices) .overrun state
      (by simp [Station.fedInto]) (nine.trans_le (by decide)) rfl (copies.trans copying)
    rw [exec_feed_of_full run level timing save full, covering, result, State.endEvent_afterJam]
    refine ⟨_, fed, (s.station i).fedInto s.now e fed timer reader, y,
      ((s.station i).fedInto s.now e fed timer reader).newRecord .overrun s.stamp 9 listed, rfl, rfl, fun h => ?_, bare, ?_⟩
    · obtain ⟨record, tiered, outcome⟩ := covered h
      exact ⟨record, tiered, outcome _ rfl rfl⟩
    · rw [State.station_atStation_self]
      generalize s.station i = st at exit jam nine released follows ⊢
      exact ⟨rfl, released, follows _ rfl rfl, rfl, Station.state_afterJam exit rfl rfl, rfl, Station.reloaded_of_timers rfl rfl,
        jam, rfl, rfl, rfl, rfl, rfl, rfl, rfl, by rw [← nine]; rfl,
        fun h => Station.purgeTimer_afterJam_of_healthy exit rfl rfl (by simp) h,
        Station.jamNotices_eq exit rfl rfl, rfl, rfl, rfl, fun j hj => State.station_atStation_of_ne _ i _ _ hj⟩
  · rintro s i x healthy _ _ run level timing session here full state levels rfl
    have exit := Station.exitOpen_eq_decide levels
    have nine := length_overrun full ((s.station i).unpermittedSheet s.now)
    obtain ⟨listed, jam⟩ := (s.station i).jam_overrun s.now s.stamp full
    have own : (s.station i).path ++ [{ number := ((s.station i).lastSheet + 1) % 65536, kind := (s.station i).lines.kind
                                        fedAt := s.now, coverage := .unpermitted, serial := some x.serial }] =
        ((s.station i).fedUnpermitted s.now).path := by
      rw [Station.fedUnpermitted, Station.unpermittedSheet, session]
      rfl
    rw [own]
    refine ⟨fun waits => ?_, fun reason ref closing payment => ?_⟩
    · have idle : x.copying = false := by simp [Session.copying, waits]
      have handed := Station.session_overrun session s.now s.stamp
      rw [exec_overrun_of_idle run level timing full (State.permit_of_not_copying session idle) state fun w h => by
        cases session.symm.trans h
        exact ⟨idle, (congrArg Phase.closeReason waits).trans rfl⟩]
      refine ⟨_, x.counted.handedOver ((s.station i).fedUnpermitted s.now).path,
        ((s.station i).fedUnpermitted s.now).newRecord .overrun s.stamp 9 listed, rfl, ?_⟩
      rw [State.station_atStation_self]
      generalize s.station i = st at exit jam nine handed ⊢
      exact ⟨rfl, Station.state_afterJam exit rfl rfl, jam, rfl, rfl, rfl, handed, (Session.phase_handedOver _ _).trans waits,
        Session.forced_handedOver _ _, Session.released_handedOver _ _, st.reader_overrun _ _,
        st.authTimer_overrun _ _, by rw [← nine]; rfl,
        Station.jamNotices_eq exit rfl rfl, rfl, rfl, rfl, fun j hj => State.station_atStation_of_ne _ i _ _ hj⟩
    · have notices := (s.station i).jamNotices_eq (ns := s.notices) (i := i) exit rfl rfl
      have others (a : Station) (ns : List Notice) (j : StationId) (hj : j ≠ i) :
          ((s.journaled (s.overrunRecord i x reason)).atStation i a ns).station j = s.station j :=
        State.station_atStation_of_ne _ i a ns hj
      cases stops : x.stopPending with
      | false =>
          rw [exec_overrun_settled run level timing full state session here closing payment stops, notices]
          refine ⟨_, s.overrunRecord i x reason, ((s.station i).fedUnpermitted s.now).newRecord .overrun s.stamp 9 listed, rfl, ?_⟩
          rw [State.station_atStation_self]
          have charged := s.charged_overrunRecord i x reason
          have serial := s.sessionSerial_overrunRecord i x reason
          have why := s.reason_overrunRecord i x reason
          have jammed := s.jammed_overrunRecord i x reason
          generalize s.overrunRecord i x reason = q at why charged serial jammed others ⊢
          have ok := others ((s.station i).overrunSettled s.now s.stamp x)
          generalize s.station i = st at exit jam nine jammed ok ⊢
          exact ⟨rfl, rfl, Station.state_afterJam (now := s.now) exit rfl rfl, jam, rfl, rfl, rfl, rfl, why, charged, serial,
            jammed, rfl, rfl, rfl, by rw [← nine]; rfl, rfl, rfl, rfl, rfl, ok _⟩
      | true =>
          have kind : (if (s.station i).exitOpen then NoticeKind.recovered else .stationChange) =
              if healthy then .recovered else .stationChange := by simp [exit]
          rw [exec_overrun_stopped run level timing full state session here closing payment stops jam, notices, kind]
          refine ⟨_, s.overrunRecord i x reason, { ((s.station i).fedUnpermitted s.now).newRecord .overrun s.stamp 9 listed with
            lost := some 9 }, rfl, ?_⟩
          rw [State.station_atStation_self]
          have charged := s.charged_overrunRecord i x reason
          have serial := s.sessionSerial_overrunRecord i x reason
          have why := s.reason_overrunRecord i x reason
          have jammed := s.jammed_overrunRecord i x reason
          generalize s.overrunRecord i x reason = q at why charged serial jammed others ⊢
          have ok := others ((s.station i).overrunStopped s.now s.stamp x listed)
          generalize s.station i = st at exit jam nine jammed ok ⊢
          exact ⟨rfl, rfl, rfl, rfl, rfl, rfl, rfl, rfl, why, charged, serial,
            jammed, rfl, rfl, rfl, by rw [← nine]; rfl, rfl, rfl, rfl, rfl, ok _⟩
  · intro s i run level timing session full off
    have nine := length_overrun full ((s.station i).unpermittedSheet s.now)
    obtain ⟨listed, result⟩ := exec_overrun_of_offline run level timing full session off
    rw [result]
    refine ⟨_, { ((s.station i).fedUnpermitted s.now).newRecord .overrun s.stamp 9 listed with lost := some 9 }, rfl, ?_⟩
    rw [State.station_atStation_self]
    generalize s.station i = st at off session nine ⊢
    exact ⟨rfl, (Station.state_writtenOff _ _ _ _).trans off,
      Station.session_writtenOff (Station.session_fedUnpermitted_none session s.now) _ _ _, rfl, by rw [← nine]; rfl, rfl, rfl, rfl, rfl,
      rfl, rfl, rfl, by rw [← nine]; rfl, Station.linkedTimer_of_offline off _ _ _,
      Station.linkedTimer_of_offline off _ _ _, rfl, rfl, rfl,
      fun j hj => State.station_atStation_of_ne _ i _ _ hj⟩
  · rintro s i r healthy _ _ _ run level timing full state jam purges fits levels rfl rfl copies
    have exit := Station.exitOpen_eq_decide levels
    have save : (s.station i).state ≠ .save := by rcases state with h | h <;> rw [h] <;> nofun
    have busy : (s.station i).state ≠ .ready := by rcases state with h | h <;> rw [h] <;> nofun
    have nine := length_overrun full ((s.station i).unpermittedSheet s.now)
    rw [exec_feed_of_full_unpermitted run level timing save full (State.permit_of_not_ready busy)]
    cases session : (s.station i).session with
    | none =>
        have none : ((s.station i).fedUnpermitted s.now).session = none := congrArg (Option.map _) session
        obtain ⟨listed, result⟩ := s.foldJam_of_idle i (st := (s.station i).fedUnpermitted s.now) s.notices .overrun state
          (by simp [Station.fedUnpermitted]) jam purges (by simpa [Station.fedUnpermitted, full] using fits)
          (Station.idle_of_none none)
        rw [result, State.endEvent_afterJam]
        refine ⟨_, listed, rfl, ?_⟩
        rw [State.station_atStation_self]
        generalize s.station i = st at exit nine none session ⊢
        exact ⟨rfl, Station.state_afterJam exit rfl rfl, rfl, Station.purgeTimer_afterJam exit rfl rfl (by simp),
          by rw [← nine]; rfl, by rw [← nine]; rfl, Station.reloaded_of_timers rfl rfl,
          fun _ => ⟨Station.session_folded_none none _ _ _, by simp [Station.afterJam], Station.jamNotices_eq exit rfl rfl⟩,
          fun _ h => absurd h nofun, rfl, rfl,
          fun j hj => State.station_atStation_of_ne _ i _ _ hj⟩
    | some x =>
        have fed : ((s.station i).fedUnpermitted s.now).session = some x.counted := by
          rw [Station.fedUnpermitted, session]
          rfl
        obtain ⟨y, timer, reader, listed, result, released, follows⟩ := s.foldJam_of_copying i
          (st := (s.station i).fedUnpermitted s.now) s.notices .overrun state (by simp [Station.fedUnpermitted]) jam purges
          (by simpa [Station.fedUnpermitted, full] using fits) fed (copies x session)
        rw [result, State.endEvent_afterJam]
        refine ⟨_, listed, rfl, ?_⟩
        rw [State.station_atStation_self]
        generalize s.station i = st at exit nine released follows session ⊢
        have own : st.path ++ [{ number := (st.lastSheet + 1) % 65536, kind := st.lines.kind, fedAt := s.now
                                 coverage := .unpermitted, serial := (some x).map Session.serial }] =
            (st.fedUnpermitted s.now).path := by
          rw [Station.fedUnpermitted, Station.unpermittedSheet, session]
        rw [own]
        refine ⟨rfl, Station.state_afterJam exit rfl rfl, rfl, Station.purgeTimer_afterJam exit rfl rfl (by simp),
          by rw [← nine]; rfl, by rw [← nine]; rfl, Station.reloaded_of_timers rfl rfl, nofun, ?_, rfl, rfl,
          fun j hj => State.station_atStation_of_ne _ i _ _ hj⟩
        rintro _ ⟨⟩
        exact ⟨y, rfl, released, (follows _ rfl rfl).of_same rfl rfl rfl rfl rfl rfl rfl, Station.jamNotices_eq exit rfl rfl⟩

end Sys2Proof.Machine
end

section
/-! Deliveries (R11 to R14, R89, R93, R117). -/

namespace Sys2Proof.Machine

/-! ### The activity of an assertion, SAVE or not -/

/-- The station once an activity has woken it, if it was in SAVE (R45). -/
def Station.woken (st : Station) : Station := { st with state := if st.state = .save then .ready else st.state }

/-- The notices of that. -/
def Station.wakeNotices (st : Station) (i : StationId) (ns : List Notice) : List Notice :=
  if st.state = .save then insertNotice ⟨.stationChange, i.val + 1⟩ ns else ns

theorem Station.woken_of_ne {st : Station} (save : st.state ≠ .save) : st.woken = st := by
  rw [Station.woken, if_neg save]

theorem Station.wakeNotices_of_ne {st : Station} (save : st.state ≠ .save) (i : StationId) (ns : List Notice) :
    st.wakeNotices i ns = ns :=
  if_neg save

theorem State.activity_asserted_any (s : State) (i : StationId) (m : Line) (link : TimerId) :
    (s.setLine i m (.recognize true)).activity i link = s.atStation i ((s.station i).woken.asserted m s.now link)
      ((s.station i).wakeNotices i s.notices) := by
  by_cases save : (s.station i).state = .save
  · rw [State.activity_asserted_save m link save, Station.wakeNotices, if_pos save, Station.woken, if_pos save]
  · rw [State.activity_asserted m link save, Station.wakeNotices_of_ne save, Station.woken_of_ne save]

/-! ### What the delivered sheet changes -/

theorem Meters.deliver_eq (m : Meters) (e : Sheet) : m.deliver e = m.afterDelivery e := by
  unfold Meters.deliver Meters.afterDelivery
  cases e.coverage <;> rfl

theorem Session.deliver_eq (x : Session) (e : Sheet) : x.deliver e = x.afterDelivery e := by
  unfold Session.deliver Session.afterDelivery
  cases e.coverage <;> rfl

/-- A delivery moves money and counts; what the session is and where it stands stays. -/
theorem Session.afterDelivery_kept (x : Session) (e : Sheet) :
    (x.afterDelivery e).phase = x.phase ∧ (x.afterDelivery e).forced = x.forced ∧
    (x.afterDelivery e).suspended = x.suspended ∧ (x.afterDelivery e).stopPending = x.stopPending ∧
    (x.afterDelivery e).payment = x.payment ∧ (x.afterDelivery e).serial = x.serial := by
  unfold Session.afterDelivery
  cases e.coverage <;> exact ⟨rfl, rfl, rfl, rfl, rfl, rfl⟩

theorem Session.copying_afterDelivery (x : Session) (e : Sheet) : (x.afterDelivery e).copying = x.copying := by
  unfold Session.afterDelivery
  cases e.coverage <;> rfl

theorem Session.charged_afterDelivery (x : Session) (e : Sheet) :
    (x.afterDelivery e).charged = x.charged + e.coveredPrice := by
  unfold Session.afterDelivery Sheet.coveredPrice
  cases e.coverage <;> rfl

/-- What the report of sheet `e`, delivered at station `before`, makes of the session, the pause timer, the reader and
the notices (R12, R89, R93). -/
def Station.Reported (before : Station) (i : StationId) (now : Nat) (e : Sheet) (ns : List Notice)
    (session : Option Session) (timer : Option Nat) (reader : ReaderPort) (ns' : List Notice) : Prop :=
  (before.session = none → session = none ∧ timer = before.pauseTimer ∧ reader = before.reader ∧ ns' = ns) ∧
  (∀ x, before.session = some x → e.serial ≠ some x.serial →
    session = some x ∧ timer = before.pauseTimer ∧ reader = before.reader ∧ ns' = ns) ∧
  ∀ x, before.session = some x → e.serial = some x.serial →
    (x.copying = false →
      session = some (x.afterDelivery e) ∧ timer = before.pauseTimer ∧ reader = before.reader ∧ ns' = ns) ∧
    (x.copying = true → ∃ phase forced,
      session = some { x.afterDelivery e with phase := phase, forced := forced } ∧
      (∀ after : Station, after.pauseTimer = timer → after.reader = reader →
        before.PauseFollows after now x { x.afterDelivery e with phase := phase, forced := forced }) ∧
      ns' = pauseNotices before i x { x.afterDelivery e with phase := phase, forced := forced } ns)

/-- The report looks at the station's session, pause timer, reader and profile. -/
theorem Station.Reported.of_same {before before' : Station} {i : StationId} {now : Nat} {e : Sheet}
    {ns ns' : List Notice} {session : Option Session} {timer : Option Nat} {reader : ReaderPort}
    (h : before.Reported i now e ns session timer reader ns') (same : before'.session = before.session)
    (timer' : before'.pauseTimer = before.pauseTimer) (reader' : before'.reader = before.reader)
    (profile : before'.profile = before.profile) : before'.Reported i now e ns session timer reader ns' := by
  unfold Station.Reported pauseNotices Station.PauseFollows at h ⊢
  rw [same, timer', reader', profile]
  exact h

/-- The session that a report leaves is there where one was, copies where it did, and keeps its close reason. -/
theorem Station.Reported.kept {before : Station} {i : StationId} {now : Nat} {e : Sheet} {ns ns' : List Notice}
    {session : Option Session} {timer : Option Nat} {reader : ReaderPort} {x : Session}
    (h : before.Reported i now e ns session timer reader ns') (present : before.session = some x) :
    ∃ y, session = some y ∧ y.copying = x.copying ∧ y.charged = (x.charged + if e.serial = some x.serial then
        e.coveredPrice else 0) ∧ y.serial = x.serial ∧ y.payment = x.payment ∧ y.stopPending = x.stopPending ∧
      y.suspended = x.suspended ∧ (x.copying = false → y.phase = x.phase ∧ ns' = ns ∧ reader = before.reader) := by
  obtain ⟨-, other, own⟩ := h
  obtain ⟨phase, forced, suspended, stop, payment, serial⟩ := x.afterDelivery_kept e
  by_cases carries : e.serial = some x.serial
  · rw [if_pos carries]
    obtain ⟨idle, copies⟩ := own x present carries
    cases copying : x.copying with
    | false =>
        obtain ⟨rfl, -, rfl, rfl⟩ := idle copying
        exact ⟨_, rfl, (x.copying_afterDelivery e).trans copying, x.charged_afterDelivery e, serial, payment, stop, suspended,
          fun _ => ⟨phase, rfl, rfl⟩⟩
    | true =>
        obtain ⟨phase', forced', rfl, follows, rfl⟩ := copies copying
        exact ⟨_, rfl, (follows { before with pauseTimer := timer, reader := reader } rfl rfl).copying copying suspended,
          x.charged_afterDelivery e, serial, payment, stop, suspended, nofun⟩
  · rw [if_neg carries]
    obtain ⟨rfl, -, rfl, rfl⟩ := other x present carries
    exact ⟨x, rfl, rfl, rfl, rfl, rfl, rfl, rfl, fun _ => ⟨rfl, rfl, rfl⟩⟩

theorem State.reportDelivery_atStation (s : State) (i : StationId) (st : Station) (ns : List Notice) (e : Sheet) :
    ∃ session timer reader ns', st.Reported i s.now e ns session timer reader ns' ∧
      (s.atStation i st ns).reportDelivery i e = s.atStation i
        { st with session := session, pauseTimer := timer, reader := reader } ns' := by
  unfold State.reportDelivery
  rw [State.station_atStation_self]
  cases present : st.session with
  | none =>
      refine ⟨none, st.pauseTimer, st.reader, ns, ⟨fun _ => ⟨rfl, rfl, rfl, rfl⟩, ?_, ?_⟩, ?_⟩
      · exact fun x h => nomatch present.symm.trans h
      · exact fun x h => nomatch present.symm.trans h
      · exact congrArg (fun x => s.atStation i { st with session := x } ns) present
  | some x =>
      dsimp only
      by_cases own : e.serial = some x.serial
      · rw [if_pos (by simpa [Sheet.carries] using own), State.setSession_atStation, Session.deliver_eq]
        obtain ⟨phase, forced, -⟩ := x.afterDelivery_kept e
        cases copies : x.copying with
        | false =>
            refine ⟨_, st.pauseTimer, st.reader, ns, ⟨?_, ?_, ?_⟩, State.evaluatePause_of_not_copying
              (by rw [State.station_atStation_self]) ((x.copying_afterDelivery e).trans copies) _⟩
            · exact fun h => nomatch present.symm.trans h
            · exact fun y h other => by cases present.symm.trans h; exact absurd own other
            · intro y h _
              cases present.symm.trans h
              exact ⟨fun _ => ⟨rfl, rfl, rfl, rfl⟩, fun h => nomatch copies.symm.trans h⟩
        | true =>
            obtain ⟨phase', forced', timer, reader, result, follows⟩ := s.evaluatePause_atStation i
              (st := { st with session := some (x.afterDelivery e) }) ns rfl ((x.copying_afterDelivery e).trans copies)
            refine ⟨_, timer, reader, _, ⟨?_, ?_, ?_⟩, result⟩
            · exact fun h => nomatch present.symm.trans h
            · exact fun y h other => by cases present.symm.trans h; exact absurd own other
            · intro y h _
              cases present.symm.trans h
              refine ⟨fun h => (nomatch copies.symm.trans h), fun _ => ⟨phase', forced', rfl, fun after ht hr =>
                (follows after ht hr).of_same rfl rfl rfl rfl rfl phase.symm forced.symm, ?_⟩⟩
              rw [pauseNotices, pauseNotices, phase]
      · rw [if_neg (by simpa [Sheet.carries] using own)]
        refine ⟨some x, st.pauseTimer, st.reader, ns, ⟨?_, ?_, ?_⟩, ?_⟩
        · exact fun h => nomatch present.symm.trans h
        · exact fun y h _ => by cases present.symm.trans h; exact ⟨rfl, rfl, rfl, rfl⟩
        · exact fun y h own' => by cases present.symm.trans h; exact absurd own' own
        · exact congrArg (fun x => s.atStation i { st with session := x } ns) present

/-! ### A delivery with sheets in the path -/

/-- The station with its oldest sheet `e` popped and counted, `rest` left in its path. -/
def Station.delivering (st : Station) (now : Nat) (e : Sheet) (rest : List Sheet) : Station :=
  { st.woken.asserted .deliver now st.profile.linkDeliver with path := rest, meters := st.meters.afterDelivery e }

/-- The station once the session has its report, with the pause evaluation that follows it. -/
def Station.delivered (st : Station) (now : Nat) (e : Sheet) (rest : List Sheet) (session : Option Session)
    (timer : Option Nat) (reader : ReaderPort) : Station :=
  { st.delivering now e rest with session := session, pauseTimer := timer, reader := reader }

/-- What a delivery makes of the part before the empty-path report or the re-aimed transit timer. -/
theorem exec_delivery_of_sheet {s : State} {i : StationId} {e : Sheet} {rest : List Sheet} (run : s.running = true)
    (level : (s.station i).lines.deliver.level = false) (timing : (s.station i).lines.deliver.timing = none)
    (path : (s.station i).path = e :: rest) :
    ∃ session timer reader ns, (s.station i).Reported i s.now e ((s.station i).wakeNotices i s.notices) session timer
        reader ns ∧
      ∀ t, t = s.atStation i ((s.station i).delivered s.now e rest session timer reader) ns →
        exec (.delivery i) s = .next ((if rest = [] then t.emptyPathReport i
          else if t.transitDue i then t.declareJam i .transit else t).endEvent i (s.station i).state) := by
  obtain ⟨session, timer, reader, ns, reported, result⟩ := s.reportDelivery_atStation i
    ((s.station i).delivering s.now e rest) ((s.station i).wakeNotices i s.notices) e
  refine ⟨session, timer, reader, ns, reported.of_same rfl rfl rfl rfl, ?_⟩
  rintro _ rfl
  have same : ((s.station i).woken.asserted .deliver s.now (s.station i).profile.linkDeliver).path = e :: rest := path
  have popped : (s.atStation i ((s.station i).woken.asserted .deliver s.now (s.station i).profile.linkDeliver)
      ((s.station i).wakeNotices i s.notices)).modStation i (fun st => { st with
        path := rest, meters := st.meters.deliver e }) =
      s.atStation i ((s.station i).delivering s.now e rest) ((s.station i).wakeNotices i s.notices) := by
    rw [State.modStation_atStation, Meters.deliver_eq]
    rfl
  rw [exec_delivery run level timing, State.activity_asserted_any, State.deliverSheet, State.station_atStation_self, same]
  simp only [State.popSheet, popped, result]
  rfl

/-- A delivery with another sheet behind it whose transit limit has not ended (R11, R12). -/
theorem exec_delivery_of_more {s : State} {i : StationId} {e f : Sheet} {rest : List Sheet} (run : s.running = true)
    (level : (s.station i).lines.deliver.level = false) (timing : (s.station i).lines.deliver.timing = none)
    (path : (s.station i).path = e :: f :: rest)
    (early : s.now < f.fedAt + 1000 * (s.station i).profile.transitLimit) :
    ∃ session timer reader ns, (s.station i).Reported i s.now e ((s.station i).wakeNotices i s.notices) session timer
        reader ns ∧
      exec (.delivery i) s =
        .next (s.atStation i ((s.station i).delivered s.now e (f :: rest) session timer reader) ns) := by
  obtain ⟨session, timer, reader, ns, reported, result⟩ := exec_delivery_of_sheet run level timing path
  refine ⟨session, timer, reader, ns, reported, ?_⟩
  have due : (s.atStation i ((s.station i).delivered s.now e (f :: rest) session timer reader) ns).transitDue i = false := by
    rw [State.transitDue, State.station_atStation_self]
    exact decide_eq_false (Nat.not_le.mpr early)
  have still : ((s.atStation i ((s.station i).delivered s.now e (f :: rest) session timer reader) ns).station i).path ≠ [] := by
    rw [State.station_atStation_self]
    nofun
  rw [result _ rfl, if_neg nofun, due, if_neg Bool.false_ne_true, State.endEvent, State.quietTest_of_path still, ite_self]

/-- The delivery of the only sheet in the path of a station that is not in SAVE (R11, R14). -/
theorem exec_delivery_of_last {s : State} {i : StationId} {e : Sheet} (run : s.running = true)
    (save : (s.station i).state ≠ .save) (level : (s.station i).lines.deliver.level = false)
    (timing : (s.station i).lines.deliver.timing = none) (path : (s.station i).path = [e]) :
    ∃ session timer reader ns, (s.station i).Reported i s.now e s.notices session timer reader ns ∧
      exec (.delivery i) s =
        .next (((s.atStation i ((s.station i).delivered s.now e [] session timer reader) ns).emptyPathReport i).endEvent i
          (s.station i).state) := by
  obtain ⟨session, timer, reader, ns, reported, result⟩ := exec_delivery_of_sheet run level timing path
  rw [Station.wakeNotices_of_ne save] at reported
  exact ⟨session, timer, reader, ns, reported, by rw [result _ rfl, if_pos rfl]⟩

end Sys2Proof.Machine
end

section
/-! What ends a delivery: the quiet test of the empty-path report (R14, R42 to R44), orphans and purges (R13, R117). -/

namespace Sys2Proof.Machine

/-! ### The quiet test -/

/-- A session that does not copy keeps the quiet test from doing anything. -/
theorem State.quietTest_of_not_copying {s : State} {i : StationId} {x : Session}
    (session : (s.station i).session = some x) (idle : x.copying = false) : s.quietTest i = s := by
  simp [State.quietTest, session, idle]

theorem State.quietTest_of_not_quiet {s : State} {i : StationId} (h : (s.station i).quiet = false) :
    s.quietTest i = s := by
  simp [State.quietTest, h]

/-- An activity whose timer has a duration leaves no station quiet, and no activity makes a station quiet (R40, R42). -/
theorem Station.not_quiet_of_linked {st st' : Station} {now : Nat} {link : TimerId} (off : st.state ≠ .offline)
    (duration : ∀ t, st'.duration t = st.duration t) (a : st'.timerA = st.linkedTimer now link .a)
    (b : st'.timerB = st.linkedTimer now link .b)
    (h : st.quiet = false ∨ ∃ d, st.duration link = some d) : st'.quiet = false := by
  cases linked : st.duration link with
  | none =>
      have quiet : st.quiet = false := h.resolve_right fun ⟨d, timed⟩ => nomatch linked.symm.trans timed
      have timer (t : TimerId) : st.linkedTimer now link t = st.timer t := by
        rw [Station.linkedTimer, linked]
        exact ite_self _
      rw [← quiet, Station.quiet, Station.quiet, duration, duration, a, b, timer, timer]
      rfl
  | some d => cases link <;> simp [Station.quiet, Station.linkedTimer, duration, a, b, linked, off]

/-- The quiet test of a station without a session: it stays, or enters SAVE (R44). -/
theorem State.quietTest_of_none (s : State) (i : StationId) {st : Station} (ns : List Notice)
    (session : st.session = none) :
    ∃ state ns', (s.atStation i st ns).quietTest i = s.atStation i { st with state := state } ns' := by
  by_cases asleep : st.quiet = true ∧ st.state = .ready ∧ st.path = []
  · refine ⟨.save, insertNotice ⟨changeNotice st.state .save, i.val + 1⟩ ns, ?_⟩
    simp only [State.quietTest, State.station_atStation_self, if_pos asleep, session,
      State.enterState_atStation]
  · exact ⟨st.state, ns, by simp only [State.quietTest, State.station_atStation_self, if_neg asleep]⟩

/-- A quiet READY station with an empty path and no session enters SAVE (R44). -/
theorem State.emptyPathReport_of_quiet_none (s : State) (i : StationId) {st : Station} (ns : List Notice)
    (quiet : st.quiet = true) (ready : st.state = .ready) (path : st.path = []) (session : st.session = none) :
    (s.atStation i st ns).emptyPathReport i = s.atStation i { st with state := .save }
      (insertNotice ⟨.stationChange, i.val + 1⟩ ns) := by
  have test : (s.atStation i st ns).quietTest i = s.atStation i { st with state := .save }
      (insertNotice ⟨.stationChange, i.val + 1⟩ ns) := by
    simp only [State.quietTest, State.station_atStation_self, quiet, ready, path, session, and_self, if_true,
      State.enterState_atStation]
    rfl
  rw [State.emptyPathReport, test]
  simp only [State.station_atStation_self, session]

/-- A quiet READY station with an empty path closes its copying COUNTER session as abandoned and settles it (R43). -/
theorem State.emptyPathReport_of_quiet_counter (s : State) (i : StationId) {st : Station} (ns : List Notice)
    {x : Session} {ref : Nat} (quiet : st.quiet = true) (ready : st.state = .ready) (path : st.path = [])
    (session : st.session = some x) (copying : x.copying = true) (payment : x.payment = .counter ref)
    (stays : x.stopPending = false) :
    (s.atStation i st ns).emptyPathReport i =
      (s.journaled (s.counterRecord i x .walkAway)).atStation i { st with
        session := none
        pauseTimer := none
        reader := st.reader.produce (.closed ((x.charged + 5) / 10))
        timerA := loadedTimer s.now (codeSeconds st.profile.idleA)
        timerB := loadedTimer s.now (codeSeconds st.profile.idleB) } (insertNotice ⟨.sessionClosed, i.val + 1⟩ ns) := by
  have test : (s.atStation i st ns).quietTest i = (s.atStation i { st with
      session := some { x with phase := .closing .walkAway }, pauseTimer := none } ns).settleInService i
        { x with phase := .closing .walkAway } .walkAway := by
    simp only [State.quietTest, State.station_atStation_self, quiet, ready, path, session, copying, and_self, if_true,
      State.closeRequest, State.modStation_atStation]
  rw [State.emptyPathReport, test, s.settleInService_atStation i _ ns (x := { x with phase := .closing .walkAway })
    payment stays]
  simp only [State.station_atStation_self]
  rfl

/-! ### A delivery that finds an empty path (R13, R117) -/

theorem exec_delivery_of_empty {s : State} {i : StationId} (run : s.running = true)
    (level : (s.station i).lines.deliver.level = false) (timing : (s.station i).lines.deliver.timing = none)
    (path : (s.station i).path = []) :
    exec (.delivery i) s = .next (((s.atStation i
      ((s.station i).woken.asserted .deliver s.now (s.station i).profile.linkDeliver)
      ((s.station i).wakeNotices i s.notices)).strayDelivery i).endEvent i (s.station i).state) := by
  have same : ((s.station i).woken.asserted .deliver s.now (s.station i).profile.linkDeliver).path = [] := path
  rw [exec_delivery run level timing, State.activity_asserted_any, State.deliverSheet, State.station_atStation_self, same]

/-- Outside RECOVER it is an orphan. -/
theorem State.strayDelivery_orphan (s : State) (i : StationId) {st : Station} (ns : List Notice)
    (state : st.state ≠ .recover) :
    (s.atStation i st ns).strayDelivery i = s.atStation i
      { st with meters := { st.meters with orphan := (st.meters.orphan + 1) % 100000000 } } ns := by
  have outside : ¬ (st.state = .recover ∧ st.purgeComplete = false) := fun h => state h.1
  simp only [State.strayDelivery, State.station_atStation_self, if_neg outside, State.modStation_atStation]
  rfl

/-- In RECOVER with a purge outstanding it is one; the last of them ends RECOVER. -/
theorem State.strayDelivery_purge (s : State) (i : StationId) {st : Station} {r : JamRecord} (ns : List Notice)
    (state : st.state = .recover) (jam : st.jam = some r) (outstanding : r.purged < r.inDoubt) :
    (s.atStation i st ns).strayDelivery i =
      (if r.inDoubt ≤ r.purged + 1 then
        (s.atStation i { st with jam := some { r with purged := r.purged + 1 } } ns).endRecover i
      else s.atStation i { st with jam := some { r with purged := r.purged + 1 } } ns) := by
  have inside : st.state = .recover ∧ st.purgeComplete = false := by
    refine ⟨state, ?_⟩
    rw [Station.purgeComplete, jam]
    exact decide_eq_false (Nat.not_le.mpr outstanding)
  have counted : (s.atStation i st ns).modStation i (fun st => { st with
      jam := st.jam.map fun r => { r with purged := r.purged + 1 } }) =
      s.atStation i { st with jam := some { r with purged := r.purged + 1 } } ns := by
    rw [State.modStation_atStation, jam]
    rfl
  rw [State.strayDelivery, State.station_atStation_self, if_pos inside, counted]
  simp only [State.station_atStation_self, Station.purgeComplete, decide_eq_true_eq]

end Sys2Proof.Machine
end

section
/-! The deliveries that the statements speak of, and O37. -/

namespace Sys2Proof.Machine

theorem Station.state_delivered (st : Station) (now : Nat) (e : Sheet) (rest : List Sheet) (session : Option Session)
    (timer : Option Nat) (reader : ReaderPort) :
    (st.delivered now e rest session timer reader).state = st.woken.state := rfl

theorem Station.state_delivered_of_ne {st : Station} (save : st.state ≠ .save) (now : Nat) (e : Sheet)
    (rest : List Sheet) (session : Option Session) (timer : Option Nat) (reader : ReaderPort) :
    (st.delivered now e rest session timer reader).state = st.state := by
  rw [Station.state_delivered, Station.woken_of_ne save]

theorem Station.session_delivered (st : Station) (now : Nat) (e : Sheet) (rest : List Sheet) (session : Option Session)
    (timer : Option Nat) (reader : ReaderPort) :
    (st.delivered now e rest session timer reader).session = session := rfl

/-- The idle timers of the station after a delivery are those of its linked activity. -/
theorem Station.timers_delivered {st : Station} (save : st.state ≠ .save) (now : Nat) (e : Sheet) (rest : List Sheet)
    (session : Option Session) (timer : Option Nat) (reader : ReaderPort) :
    (st.delivered now e rest session timer reader).timerA = st.linkedTimer now st.profile.linkDeliver .a ∧
    (st.delivered now e rest session timer reader).timerB = st.linkedTimer now st.profile.linkDeliver .b := by
  rw [Station.delivered, Station.delivering, Station.woken_of_ne save]
  exact ⟨rfl, rfl⟩

theorem Session.afterDelivery_of_covered {e : Sheet} {p : Nat} (x : Session) (covered : e.coverage = .covered p) :
    x.afterDelivery e = { x with
      charged := x.charged + p
      pending := x.pending - p
      covered := x.covered.set e.kind.val (min 4294967295 (x.covered[e.kind.val] + 1)) } := by
  rw [Session.afterDelivery, covered]

/-- The delivered meter of each kind. -/
theorem Meters.delivered_afterDelivery (m : Meters) (e : Sheet) (k : Kind) :
    (m.afterDelivery e).delivered[k.val] =
      if k = e.kind then (m.delivered[k.val] + 1) % 100000000 else m.delivered[k.val] := by
  show (m.delivered.set e.kind.val ((m.delivered[e.kind.val] + 1) % 100000000))[k.val] = _
  by_cases same : k = e.kind
  · subst same
    simp
  · rw [if_neg same, Vector.getElem_set_ne]
    exact fun h => same (Fin.ext h.symm)

/-- The session that carries a delivered sheet's serial, whether it copies or not. -/
theorem Station.Reported.of_own {before : Station} {i : StationId} {now : Nat} {e : Sheet} {ns ns' : List Notice}
    {session : Option Session} {timer : Option Nat} {reader : ReaderPort} {x : Session}
    (h : before.Reported i now e ns session timer reader ns') (present : before.session = some x)
    (own : e.serial = some x.serial) :
    ∃ phase forced, session = some { x.afterDelivery e with phase := phase, forced := forced } := by
  obtain ⟨-, -, carried⟩ := h
  obtain ⟨idle, copies⟩ := carried x present own
  cases copying : x.copying with
  | false => exact ⟨_, _, (idle copying).1⟩
  | true =>
      obtain ⟨phase, forced, session, -⟩ := copies copying
      exact ⟨phase, forced, session⟩

/-- The report leaves a session where one was, so the durations of the idle timers stay. -/
theorem Station.Reported.duration {before : Station} {i : StationId} {now : Nat} {e : Sheet} {ns ns' : List Notice}
    {session : Option Session} {timer : Option Nat} {reader : ReaderPort}
    (h : before.Reported i now e ns session timer reader ns') (rest : List Sheet) (t : TimerId) :
    (before.delivered now e rest session timer reader).duration t = before.duration t := by
  cases present : before.session with
  | none =>
      obtain ⟨rfl, -⟩ := h.1 present
      simp only [Station.duration, present, Station.session_delivered]
      rfl
  | some x =>
      obtain ⟨y, rfl, -⟩ := h.kept present
      simp only [Station.duration, present, Station.session_delivered]
      cases t <;> rfl

/-- A delivery whose linked timer has no duration changes no idle timer. -/
theorem Station.delivered_of_unlinked {st : Station} {now : Nat} (save : st.state ≠ .save)
    (unlinked : st.duration st.profile.linkDeliver = none) (e : Sheet) (rest : List Sheet) (session : Option Session)
    (timer : Option Nat) (reader : ReaderPort) :
    st.delivered now e rest session timer reader = { st with
      lines := { st.lines with deliver := { raw := true, level := true, timing := none } }
      path := rest, meters := st.meters.afterDelivery e, session := session, pauseTimer := timer, reader := reader } := by
  rw [Station.delivered, Station.delivering, Station.woken_of_ne save, Station.asserted,
    Station.reloaded_of_idle (.inr (by exact unlinked))]
  rfl

theorem Station.Reported.quiet {before : Station} {i : StationId} {now : Nat} {e : Sheet} {ns ns' : List Notice}
    {session : Option Session} {timer : Option Nat} {reader : ReaderPort}
    (h : before.Reported i now e ns session timer reader ns') (save : before.state ≠ .save)
    (unlinked : before.duration before.profile.linkDeliver = none) (rest : List Sheet) :
    (before.delivered now e rest session timer reader).quiet = before.quiet := by
  rw [Station.quiet, Station.quiet, h.duration, h.duration, Station.delivered_of_unlinked save unlinked]

/-- The delivery of the last sheet in the path of a CLOSING session (R14, R68), up to its settlement. -/
theorem exec_delivery_of_closing {s : State} {i : StationId} {e : Sheet} {x : Session} {reason : CloseReason}
    (run : s.running = true) (save : (s.station i).state ≠ .save) (level : (s.station i).lines.deliver.level = false)
    (timing : (s.station i).lines.deliver.timing = none) (path : (s.station i).path = [e])
    (session : (s.station i).session = some x) (closing : x.phase = .closing reason) (here : x.suspended = false) :
    ∃ y timer, y.charged = (x.charged + if e.serial = some x.serial then e.coveredPrice else 0) ∧
      y.serial = x.serial ∧ y.payment = x.payment ∧ y.stopPending = x.stopPending ∧
      exec (.delivery i) s = .next (((s.atStation i
        ((s.station i).delivered s.now e [] (some y) timer (s.station i).reader) s.notices).settleInService i y
          reason).endEvent i (s.station i).state) := by
  have idle : x.copying = false := by simp [Session.copying, closing]
  obtain ⟨present, timer, reader, ns, reported, result⟩ := exec_delivery_of_last run save level timing path
  obtain ⟨y, rfl, copies, charged, serial, payment, stop, suspended, phase⟩ := reported.kept session
  obtain ⟨same, rfl, rfl⟩ := phase idle
  refine ⟨y, timer, charged, serial, payment, stop, ?_⟩
  rw [result, State.emptyPathReport_of_closing (x := y) (State.quietTest_of_not_copying (x := y) ?_ (copies.trans idle)) ?_
    (same.trans closing) (suspended.trans here)] <;> rw [State.station_atStation_self] <;> rfl

/-- The delivery of the last sheet where the quiet test finds nothing and no session is CLOSING. -/
theorem exec_delivery_of_open {s : State} {i : StationId} {e : Sheet} (run : s.running = true)
    (save : (s.station i).state ≠ .save) (level : (s.station i).lines.deliver.level = false)
    (timing : (s.station i).lines.deliver.timing = none) (path : (s.station i).path = [e])
    (stays : ∀ x, (s.station i).session = some x → x.phase.closeReason = none)
    (quiet : (s.station i).state ≠ .ready ∨ (s.station i).quiet = false ∨
      (∃ d, (s.station i).duration (s.station i).profile.linkDeliver = some d) ∨
      ∃ x, (s.station i).session = some x ∧ x.copying = false) :
    ∃ session timer reader ns, (s.station i).Reported i s.now e s.notices session timer reader ns ∧
      exec (.delivery i) s = .next (s.atStation i ((s.station i).delivered s.now e [] session timer reader) ns) := by
  obtain ⟨session, timer, reader, ns, reported, result⟩ := exec_delivery_of_last run save level timing path
  refine ⟨session, timer, reader, ns, reported, ?_⟩
  have state := (s.station i).state_delivered_of_ne save s.now e [] session timer reader
  have duration := reported.duration []
  have test : (s.atStation i ((s.station i).delivered s.now e [] session timer reader) ns).quietTest i =
      s.atStation i ((s.station i).delivered s.now e [] session timer reader) ns := by
    by_cases ready : (s.station i).state = .ready
    · obtain ⟨a, b⟩ := (s.station i).timers_delivered save s.now e [] session timer reader
      have off : (s.station i).state ≠ .offline := by rw [ready]; nofun
      rcases quiet with h | h | h | ⟨x, present, idle⟩
      · exact absurd ready h
      · exact State.quietTest_of_not_quiet (by
          rw [State.station_atStation_self]
          exact Station.not_quiet_of_linked off duration a b (.inl h))
      · exact State.quietTest_of_not_quiet (by
          rw [State.station_atStation_self]
          exact Station.not_quiet_of_linked off duration a b (.inr h))
      · obtain ⟨y, rfl, copies, -⟩ := reported.kept present
        exact State.quietTest_of_not_copying (x := y) (by
          rw [State.station_atStation_self]
          rfl) (copies.trans idle)
    · exact State.quietTest_of_not_ready (by
        rw [State.station_atStation_self, state]
        exact ready)
  have unclosed : ∀ y, session = some y → y.phase.closeReason = none := by
    rintro y rfl
    cases present : (s.station i).session with
    | none => exact nomatch (reported.1 present).1
    | some x =>
        obtain ⟨_, ⟨⟩, copies, -, -, -, -, -, phase⟩ := reported.kept present
        cases copying : x.copying with
        | false => rw [(phase copying).1, stays x present]
        | true => exact Session.closeReason_of_copying (copies.trans copying)
  rw [result, State.emptyPathReport_of_open test (by
    rw [State.station_atStation_self]
    exact unclosed), State.endEvent_of_same (by rw [State.station_atStation_self, state])]

/-- The delivery of the last sheet at a quiet READY station without a session, with no duration for its timer (R44). -/
theorem exec_delivery_of_quiet_none {s : State} {i : StationId} {e : Sheet} (run : s.running = true)
    (ready : (s.station i).state = .ready) (level : (s.station i).lines.deliver.level = false)
    (timing : (s.station i).lines.deliver.timing = none) (path : (s.station i).path = [e])
    (quiet : (s.station i).quiet = true)
    (unlinked : (s.station i).duration (s.station i).profile.linkDeliver = none)
    (session : (s.station i).session = none) :
    exec (.delivery i) s = .next
      { s.setStation i { s.station i with
          lines := { (s.station i).lines with deliver := { raw := true, level := true, timing := none } }
          state := .save
          path := []
          meters := (s.station i).meters.afterDelivery e } with
        notices := insertNotice ⟨.stationChange, i.val + 1⟩ s.notices } := by
  have save : (s.station i).state ≠ .save := by rw [ready]; nofun
  obtain ⟨present, timer, reader, ns, reported, result⟩ := exec_delivery_of_last run save level timing path
  have still := (reported.quiet save unlinked []).trans quiet
  obtain ⟨rfl, rfl, rfl, rfl⟩ := reported.1 session
  rw [Station.delivered_of_unlinked save unlinked] at result still
  rw [result, State.emptyPathReport_of_quiet_none s i s.notices still ready rfl rfl, State.endEvent_of_not_ready (by
    rw [State.station_atStation_self]
    nofun)]
  exact congrArg (fun x => Host.Outcome.next (s.atStation i { s.station i with
    lines := { (s.station i).lines with deliver := { raw := true, level := true, timing := none } }
    state := .save, session := x, path := [], meters := (s.station i).meters.afterDelivery e } _)) session.symm

/-- That delivery with a COUNTER session that copies (R43): reported, closed as abandoned and settled. -/
theorem exec_delivery_of_quiet_counter {s : State} {i : StationId} {e : Sheet} {x : Session} {ref : Nat}
    (run : s.running = true) (ready : (s.station i).state = .ready)
    (level : (s.station i).lines.deliver.level = false) (timing : (s.station i).lines.deliver.timing = none)
    (path : (s.station i).path = [e]) (quiet : (s.station i).quiet = true)
    (unlinked : (s.station i).duration (s.station i).profile.linkDeliver = none)
    (session : (s.station i).session = some x) (copying : x.copying = true) (stays : x.stopPending = false)
    (payment : x.payment = .counter ref) :
    ∃ y timer reader ns, (s.station i).Reported i s.now e s.notices (some y) timer reader ns ∧ y.serial = x.serial ∧
      exec (.delivery i) s = .next ((s.journaled (s.counterRecord i y .walkAway)).atStation i
        { s.station i with
          lines := { (s.station i).lines with deliver := { raw := true, level := true, timing := none } }
          path := [], meters := (s.station i).meters.afterDelivery e, session := none, pauseTimer := none
          reader := reader.produce (.closed ((y.charged + 5) / 10))
          timerA := loadedTimer s.now (codeSeconds (s.station i).profile.idleA)
          timerB := loadedTimer s.now (codeSeconds (s.station i).profile.idleB) }
        (insertNotice ⟨.sessionClosed, i.val + 1⟩ ns)) := by
  have save : (s.station i).state ≠ .save := by rw [ready]; nofun
  obtain ⟨present, timer, reader, ns, reported, result⟩ := exec_delivery_of_last run save level timing path
  have still := (reported.quiet save unlinked []).trans quiet
  obtain ⟨y, rfl, copies, -, serial, pays, stop, -, -⟩ := reported.kept session
  refine ⟨y, timer, reader, ns, reported, serial, ?_⟩
  rw [Station.delivered_of_unlinked save unlinked] at result still
  rw [result, State.emptyPathReport_of_quiet_counter s i ns still ready rfl rfl (copies.trans copying) (pays.trans payment)
    (stop.trans stays), State.endEvent, if_neg (fun h => h.1 ready)]

/-- A delivery that finds no sheet where no purge is outstanding (R13): the orphan meter, whatever the quiet test of a
woken station then makes of its state. -/
theorem exec_delivery_of_orphan {s : State} {i : StationId} (run : s.running = true)
    (level : (s.station i).lines.deliver.level = false) (timing : (s.station i).lines.deliver.timing = none)
    (path : (s.station i).path = []) (outside : (s.station i).state ≠ .recover)
    (asleep : (s.station i).state = .save → (s.station i).session = none) :
    ∃ state ns, exec (.delivery i) s = .next (s.atStation i
      { (s.station i).woken.asserted .deliver s.now (s.station i).profile.linkDeliver with
        meters := { (s.station i).meters with orphan := ((s.station i).meters.orphan + 1) % 100000000 }
        state := state } ns) := by
  have woken : (s.station i).woken.state ≠ .recover := by
    unfold Station.woken
    dsimp only
    split
    · nofun
    · exact outside
  rw [exec_delivery_of_empty run level timing path, s.strayDelivery_orphan i
    (st := (s.station i).woken.asserted .deliver s.now _) _ woken]
  by_cases save : (s.station i).state = .save
  · obtain ⟨state, ns, test⟩ := s.quietTest_of_none i
      (st := { (s.station i).woken.asserted .deliver s.now (s.station i).profile.linkDeliver with
        meters := { (s.station i).meters with orphan := ((s.station i).meters.orphan + 1) % 100000000 } })
      ((s.station i).wakeNotices i s.notices) (asleep save)
    rw [State.endEvent]
    split
    · exact ⟨state, ns, congrArg Host.Outcome.next test⟩
    · exact ⟨_, _, rfl⟩
  · refine ⟨_, _, congrArg Host.Outcome.next (State.endEvent_of_same ?_)⟩
    rw [State.station_atStation_self]
    show (s.station i).woken.state = _
    rw [Station.woken_of_ne save]

/-- A delivery that finds no sheet in RECOVER with a purge outstanding (R117). -/
theorem exec_delivery_of_purge {s : State} {i : StationId} {r : JamRecord} (run : s.running = true)
    (level : (s.station i).lines.deliver.level = false) (timing : (s.station i).lines.deliver.timing = none)
    (path : (s.station i).path = []) (state : (s.station i).state = .recover) (jam : (s.station i).jam = some r)
    (outstanding : r.purged < r.inDoubt) :
    ∀ st, st = { (s.station i).asserted .deliver s.now (s.station i).profile.linkDeliver with
        jam := some { r with purged := r.purged + 1 } } →
      exec (.delivery i) s = .next ((if r.inDoubt ≤ r.purged + 1 then (s.atStation i st s.notices).endRecover i
        else s.atStation i st s.notices).endEvent i (s.station i).state) := by
  rintro _ rfl
  have save : (s.station i).state ≠ .save := by rw [state]; nofun
  rw [exec_delivery_of_empty run level timing path, Station.woken_of_ne save, Station.wakeNotices_of_ne save,
    State.strayDelivery_purge s i (st := (s.station i).asserted .deliver s.now _) (r := r) _ state jam outstanding]

end Sys2Proof.Machine
end

section
namespace Sys2Proof.Machine

/-- A settlement at station `i` leaves every other station as it is. -/
theorem State.others_journaled (s : State) (q : SettleRecord) (i : StationId) (st : Station) (ns : List Notice) :
    ∀ j, j ≠ i → ((s.journaled q).atStation i st ns).station j = s.station j :=
  fun _ hj => State.station_atStation_of_ne _ i st ns hj

/-- Settles O37: a delivery pops the oldest sheet and reports it; the last sheet brings the quiet test or the settlement,
and a delivery that finds no sheet is an orphan or a purge. -/
theorem deliveryTakesOldest : Obligations.DeliveryTakesOldest := by
  refine ⟨?_, ?_, ?_, ?_, ?_, ?_, ?_, ?_⟩
  · intro s i e f rest run level timing path early
    obtain ⟨session, timer, reader, ns, reported, result⟩ := exec_delivery_of_more run level timing path early
    refine ⟨_, result, ?_⟩
    rw [State.station_atStation_self]
    refine ⟨rfl, Meters.delivered_afterDelivery _ e, rfl, rfl, fun x p present own covered => ?_,
      fun x present other => (reported.2.1 x present other).1, fun j hj => State.station_atStation_of_ne _ i _ _ hj, rfl, rfl⟩
    obtain ⟨phase, forced, rfl⟩ := reported.of_own present own
    rw [x.afterDelivery_of_covered covered]
    exact ⟨_, rfl, rfl, rfl, rfl, Vector.getElem_set_self _⟩
  · rintro s i e x p ref reason run save level timing path session closing here stays payment rfl
    obtain ⟨y, timer, charged, serial, pays, stop, result⟩ :=
      exec_delivery_of_closing run save level timing path session closing here
    rw [← charged, result, s.settleInService_atStation i _ _ (pays.trans payment) (stop.trans stays)]
    have state := Station.state_delivered_of_ne save s.now e [] (some y) timer (s.station i).reader
    rw [State.endEvent_of_same (by
      rw [State.station_atStation_self]
      exact state)]
    refine ⟨_, s.counterRecord i y reason, rfl, ?_⟩
    rw [State.station_atStation_self]
    exact ⟨rfl, rfl, state, rfl, rfl, rfl, rfl, rfl, rfl, rfl, serial, rfl, rfl, rfl, s.others_journaled _ i _ _⟩
  · rintro s i e x p ref reason run working level timing path session closing here stops payment rfl
    have save : (s.station i).state ≠ .save := by rcases working with h | h <;> rw [h] <;> nofun
    obtain ⟨y, timer, charged, serial, pays, stop, result⟩ :=
      exec_delivery_of_closing run save level timing path session closing here
    have state := Station.state_delivered_of_ne save s.now e [] (some y) timer (s.station i).reader
    have notice : changeNotice (s.station i).state .offline = .stationChange := by
      rcases working with h | h <;> rw [h] <;> rfl
    rw [← charged, result, s.settleInService_of_stopPending i _ _ (pays.trans payment) (stop.trans stops),
      Station.leaveService_of_working (by
        show ((s.station i).delivered s.now e [] (some y) timer (s.station i).reader).state = .ready ∨ _
        rw [state]
        exact working), state, notice, State.endEvent_of_not_ready (by
        rw [State.station_atStation_self]
        nofun)]
    refine ⟨_, s.counterRecord i y reason, rfl, ?_⟩
    rw [State.station_atStation_self]
    exact ⟨rfl, rfl, rfl, rfl, rfl, rfl, rfl, rfl, serial, rfl, rfl, rfl, rfl, rfl, s.others_journaled _ i _ _⟩
  · intro s i e run save level timing path stays quiet
    obtain ⟨session, timer, reader, ns, reported, result⟩ :=
      exec_delivery_of_open run save level timing path stays quiet
    obtain ⟨a, b⟩ := (s.station i).timers_delivered save s.now e [] session timer reader
    refine ⟨_, result, ?_⟩
    rw [State.station_atStation_self]
    refine ⟨rfl, Station.state_delivered_of_ne save _ _ _ _ _ _, Station.reloaded_of_timers a b, rfl, ?_, ?_, ?_, rfl, rfl, rfl,
      fun j hj => State.station_atStation_of_ne _ i _ _ hj⟩
    · intro none
      obtain ⟨session, -, reader, notices⟩ := reported.1 none
      exact ⟨session, reader, notices⟩
    · exact reported.2.1
    · intro x present own
      obtain ⟨idle, copies⟩ := reported.2.2 x present own
      refine ⟨idle, fun copying => ?_⟩
      obtain ⟨phase, forced, session, follows, notices⟩ := copies copying
      exact ⟨phase, forced, session, follows _ rfl rfl, notices⟩
  · intro s i e run ready level timing path quiet unlinked
    refine ⟨exec_delivery_of_quiet_none run ready level timing path quiet unlinked, ?_⟩
    intro x ref session copying stays payment
    obtain ⟨y, timer, reader, ns, reported, serial, result⟩ :=
      exec_delivery_of_quiet_counter run ready level timing path quiet unlinked session copying stays payment
    have notices : ns = if e.serial = some x.serial then pauseNotices (s.station i) i x y s.notices else s.notices := by
      by_cases own : e.serial = some x.serial
      · obtain ⟨phase, forced, same, -, notices⟩ := (reported.2.2 x session own).2 copying
        rw [if_pos own, notices, Option.some.inj same]
      · rw [if_neg own, (reported.2.1 x session own).2.2.2]
    refine ⟨_, y, { s.station i with pauseTimer := timer, reader := reader }, s.counterRecord i y .walkAway, result, rfl,
      ?_, ?_, ?_⟩
    · intro own
      obtain ⟨phase, forced, same, follows, -⟩ := (reported.2.2 x session own).2 copying
      exact ⟨phase, forced, Option.some.inj same, Option.some.inj same ▸ follows _ rfl rfl⟩
    · intro other
      obtain ⟨same, -, reader, -⟩ := reported.2.1 x session other
      exact ⟨Option.some.inj same, reader⟩
    · rw [State.station_atStation_self, ← notices]
      exact ⟨ready, rfl, rfl, rfl, rfl, rfl, rfl, rfl, serial, rfl, rfl, rfl, rfl, rfl, rfl, rfl, rfl, rfl,
        s.others_journaled _ i _ _⟩
  · intro s i e f rest run level timing path early
    obtain ⟨session, timer, reader, ns, reported, result⟩ := exec_delivery_of_more run level timing path early
    refine ⟨_, result, ?_⟩
    rw [State.station_atStation_self]
    refine ⟨rfl, rfl, fun x present own => ?_, fun x present other => (reported.2.1 x present other).1,
      fun j hj => State.station_atStation_of_ne _ i _ _ hj, rfl, rfl⟩
    obtain ⟨idle, copies⟩ := reported.2.2 x present own
    refine ⟨fun h => ⟨(idle h).1, (idle h).2.1⟩, fun copying => ?_⟩
    obtain ⟨phase, forced, session, follows, -⟩ := copies copying
    exact ⟨phase, forced, session, follows _ rfl rfl⟩
  · intro s i run level timing path
    refine ⟨fun outside asleep => ?_, fun r state jam outstanding => ?_⟩
    · obtain ⟨state, ns, result⟩ := exec_delivery_of_orphan run level timing path outside asleep
      refine ⟨_, result, ?_⟩
      rw [State.station_atStation_self]
      exact ⟨rfl, rfl, rfl, rfl, rfl, fun j hj => State.station_atStation_of_ne _ i _ _ hj⟩
    · have open' : ¬ r.inDoubt ≤ r.purged + 1 := by omega
      rw [exec_delivery_of_purge run level timing path state jam (by omega) _ rfl, if_neg open', State.endEvent_of_same (by
        rw [State.station_atStation_self]
        rfl)]
      refine ⟨_, rfl, ?_⟩
      rw [State.station_atStation_self]
      exact ⟨rfl, rfl, Eq.trans rfl state, rfl, fun j hj => State.station_atStation_of_ne _ i _ _ hj⟩
  · intro s i r run level timing path state jam lost complete
    have last : r.inDoubt ≤ r.purged + 1 := by omega
    rw [exec_delivery_of_purge run level timing path state jam (by omega) _ rfl, if_pos last,
      State.endRecover_atStation s i (st := { (s.station i).asserted .deliver s.now (s.station i).profile.linkDeliver with
        jam := some { r with purged := r.purged + 1 } }) (r := { r with purged := r.purged + 1 }) state rfl lost,
      State.endEvent_of_loaded rfl rfl]
    simp only [complete, Nat.sub_self]
    rfl

end Sys2Proof.Machine
end

section
/-! What an event at one station keeps of that station's lists and counts and of the notice set (R7, R48, R73, R110,
R172): the rules of the operations, in the order of `State.Local`. -/

namespace Sys2Proof.Machine

/-! ### What is kept -/

/-- Every count of the station's session is within its top. -/
def Station.CountsKept (st : Station) : Prop := ∀ x ∈ st.session, x.CountsKept

theorem Station.countsKept_of_none {st : Station} (h : st.session = none) : st.CountsKept := fun x hx =>
  (Option.not_mem_none x (h ▸ hx)).elim

/-- Every list of `b` is within its capacity if that of `a` is, and every count of its session within its top if those
of `a`'s session are. -/
structure Station.Keeps (a b : Station) : Prop where
  path : a.path.length ≤ Config.pathCapacity → b.path.length ≤ Config.pathCapacity
  waiting : a.reader.waiting.length ≤ Config.indicatorCapacity → b.reader.waiting.length ≤ Config.indicatorCapacity
  listed : (∀ r ∈ a.jam, r.listed.length ≤ Config.doubtCapacity) → ∀ r ∈ b.jam, r.listed.length ≤ Config.doubtCapacity
  counts : a.CountsKept → b.CountsKept

/-- The pending set `l` in its canonical form, as `State.NoticesKept` says of a state. -/
def NoticesCanonical (l : List Notice) : Prop := l.Pairwise (fun m n => m.rank < n.rank) ∧ ∀ n ∈ l, n.Scoped

namespace Station.Keeps

variable {a b c : Station}

theorem refl (a : Station) : a.Keeps a := ⟨id, id, id, id⟩

theorem trans (h : a.Keeps b) (k : b.Keeps c) : a.Keeps c :=
  ⟨k.path ∘ h.path, k.waiting ∘ h.waiting, k.listed ∘ h.listed, k.counts ∘ h.counts⟩

/-- A station whose lists and session are the same. -/
theorem ofEq (path : b.path = a.path) (waiting : b.reader.waiting = a.reader.waiting) (jam : b.jam = a.jam)
    (session : b.session = a.session) : a.Keeps b := by
  refine ⟨?_, ?_, ?_, ?_⟩
  · rw [path]
    exact id
  · rw [waiting]
    exact id
  · rw [jam]
    exact id
  · unfold Station.CountsKept
    rw [session]
    exact id

/-- A station whose session alone counts. -/
theorem ofSession (path : b.path = a.path) (waiting : b.reader.waiting = a.reader.waiting) (jam : b.jam = a.jam)
    (counts : a.CountsKept → b.CountsKept) : a.Keeps b := by
  refine ⟨?_, ?_, ?_, counts⟩
  · rw [path]
    exact id
  · rw [waiting]
    exact id
  · rw [jam]
    exact id

end Station.Keeps

/-- What an event at station `i` keeps of that station and of the notices. -/
structure State.KeepsAt (i : StationId) (s t : State) : Prop where
  station : (s.station i).Keeps (t.station i)
  notices : NoticesCanonical s.notices → NoticesCanonical t.notices

namespace State.KeepsAt

variable {i : StationId} {s t u : State}

theorem refl (i : StationId) (s : State) : State.KeepsAt i s s := ⟨.refl _, id⟩

theorem trans (h : State.KeepsAt i s t) (k : State.KeepsAt i t u) : State.KeepsAt i s u :=
  ⟨h.station.trans k.station, k.notices ∘ h.notices⟩

/-- An operation that changes neither the station nor the notices. -/
theorem ofEq (station : t.station i = s.station i) (notices : t.notices = s.notices) : State.KeepsAt i s t := by
  refine ⟨?_, ?_⟩
  · rw [station]
    exact .refl _
  · rw [notices]
    exact id

/-! ### The operations of one station -/

theorem modStation {f : Station → Station} (h : (s.station i).Keeps (f (s.station i))) :
    State.KeepsAt i s (s.modStation i f) :=
  ⟨by rwa [State.station_modStation_self], id⟩

/-- A change of the station that leaves its lists and its session as they are. -/
theorem modRest {f : Station → Station} (path : (f (s.station i)).path = (s.station i).path)
    (waiting : (f (s.station i)).reader.waiting = (s.station i).reader.waiting)
    (jam : (f (s.station i)).jam = (s.station i).jam) (session : (f (s.station i)).session = (s.station i).session) :
    State.KeepsAt i s (s.modStation i f) :=
  modStation (.ofEq path waiting jam session)

theorem setSession {x : Option Session} (h : (s.station i).CountsKept → ∀ y ∈ x, y.CountsKept) :
    State.KeepsAt i s (s.setSession i x) :=
  modStation (.ofSession rfl rfl rfl h)

theorem modSession {f : Session → Session} (h : ∀ x : Session, x.CountsKept → (f x).CountsKept) :
    State.KeepsAt i s (s.modSession i f) := by
  refine modStation (.ofSession rfl rfl rfl fun kept y hy => ?_)
  obtain ⟨x, session, rfl⟩ := Option.map_eq_some_iff.mp hy
  exact h x (kept x session)

theorem indicate (f : Indicator) : State.KeepsAt i s (s.indicate i f) :=
  modStation ⟨id, ReaderPort.waiting_produce_le f, id, id⟩

theorem setLine (n : Line) (v : LineState) : State.KeepsAt i s (s.setLine i n v) := modRest rfl rfl rfl rfl

theorem setReader (c : ReaderCondition) : State.KeepsAt i s (s.setReader i c) := modRest rfl rfl rfl rfl

theorem reloadBoth : State.KeepsAt i s (s.reloadBoth i) := modRest rfl rfl rfl rfl

end State.KeepsAt

/-- A posting within the scope of its kind keeps the set canonical (R172). -/
theorem NoticesCanonical.insertNotice {n : Notice} {l : List Notice} (h : NoticesCanonical l) (fits : n.Scoped) :
    NoticesCanonical (insertNotice n l) :=
  ⟨pairwise_insertNotice n h.1, fun _ hm => (mem_insertNotice hm).elim (· ▸ fits) (h.2 _)⟩

theorem Notice.scoped_device {k : NoticeKind} (h : k.forDevice = true) : Notice.Scoped ⟨k, 0⟩ :=
  ⟨Nat.zero_le _, iff_of_true rfl h⟩

theorem Notice.scoped_station {k : NoticeKind} (h : k.forDevice = false) (i : StationId) :
    Notice.Scoped ⟨k, stationNumber i⟩ :=
  ⟨i.isLt, iff_of_false (Nat.succ_ne_zero _) (by simp [h])⟩

theorem changeNotice_forDevice (old new : StationState) : (changeNotice old new).forDevice = false := by
  unfold changeNotice
  split
  · rfl
  · split <;> rfl

namespace State.KeepsAt

variable {i : StationId} {s t u : State}

theorem postDevice {k : NoticeKind} (h : k.forDevice = true) : State.KeepsAt i s (s.post k 0) :=
  ⟨.refl _, fun kept => kept.insertNotice (Notice.scoped_device h)⟩

theorem postAt {k : NoticeKind} (h : k.forDevice = false) (j : StationId) : State.KeepsAt i s (s.postAt k j) :=
  ⟨.refl _, fun kept => kept.insertNotice (Notice.scoped_station h j)⟩

theorem reach (n : Nat) : State.KeepsAt i s (s.reach n) := ofEq rfl rfl

theorem refuse (r : RefuseReason) (c : CardClass) : State.KeepsAt i s (s.refuse i r c) :=
  (modRest rfl rfl rfl rfl).trans ((indicate _).trans (postAt rfl _))

theorem enterState (n : StationState) : State.KeepsAt i s (s.enterState i n) :=
  (modRest rfl rfl rfl rfl).trans (postAt (changeNotice_forDevice _ _) _)

end State.KeepsAt

/-- A record that closes lists what it listed. -/
theorem Station.keeps_closeJam (st : Station) : st.Keeps st.closeJam := by
  unfold Station.closeJam
  cases jam : st.jam with
  | none => exact .ofEq rfl rfl jam.symm rfl
  | some r =>
      dsimp only
      split
      · exact .ofEq rfl rfl jam.symm rfl
      · exact ⟨id, id, fun kept q hq => by cases hq; exact kept r jam, id⟩

theorem Station.keeps_leaveService (st : Station) : st.Keeps st.leaveService := by
  unfold Station.leaveService
  split
  · exact st.keeps_closeJam.trans (.ofEq rfl rfl rfl rfl)
  · exact .ofEq rfl rfl rfl rfl

theorem JamRecord.listed_absorb_le (r : JamRecord) (e : Sheet) (h : r.listed.length ≤ Config.doubtCapacity) :
    (r.absorb e).listed.length ≤ Config.doubtCapacity := by
  unfold JamRecord.absorb
  dsimp only
  split
  · rename_i room
    rw [List.length_append, List.length_singleton]
    exact room.1
  · exact h

theorem JamRecord.listed_foldl_le : ∀ (path : List Sheet) (r : JamRecord), r.listed.length ≤ Config.doubtCapacity →
    (path.foldl JamRecord.absorb r).listed.length ≤ Config.doubtCapacity
  | [], _, h => h
  | e :: path, r, h => JamRecord.listed_foldl_le path _ (r.listed_absorb_le e h)

theorem Session.countsKept_retier {x : Session} (path : List Sheet) (h : x.CountsKept) :
    (x.retier path).CountsKept := by
  rw [Session.retier_eq]
  exact h

theorem satAdd_le (top n k : Nat) : satAdd top n k ≤ top := Nat.min_le_left _ _

theorem Session.countsKept_release {x : Session} (path : List Sheet) (h : x.CountsKept) :
    (x.release path).CountsKept := by
  obtain ⟨fed, covered, uncovered, value, unpermitted, -, extend⟩ := h
  exact ⟨fed, covered, uncovered, value, unpermitted, satAdd_le _ _ _, extend⟩

theorem Session.countsKept_deliver {x : Session} (e : Sheet) (h : x.CountsKept) : (x.deliver e).CountsKept := by
  obtain ⟨fed, covered, uncovered, value, unpermitted, jammed, extend⟩ := h
  unfold Session.deliver
  split
  · refine ⟨fed, fun k => ?_, uncovered, value, unpermitted, jammed, extend⟩
    show (x.covered.set e.kind.val (satAdd Config.top32 x.covered[e.kind.val] 1))[k.val] ≤ Config.top32
    rw [Vector.getElem_set]
    split
    · exact satAdd_le _ _ _
    · exact covered k
  · exact ⟨fed, covered, satAdd_le _ _ _, satAdd_le _ _ _, unpermitted, jammed, extend⟩
  · exact ⟨fed, covered, uncovered, value, satAdd_le _ _ _, jammed, extend⟩

theorem newSession_countsKept (serial : Nat) (payment : Payment) (hold : Nat) (plan : Plan) (rate : Nat) (phase : Phase)
    (opened : Nat) : (newSession serial payment hold plan rate phase opened).CountsKept := by
  refine ⟨Nat.zero_le _, fun k => ?_, Nat.zero_le _, Nat.zero_le _, Nat.zero_le _, Nat.zero_le _, Nat.zero_le _⟩
  show (#v[0, 0, 0, 0, 0, 0, 0, 0] : Vector Nat 8)[k.val] ≤ _
  fin_cases k <;> exact Nat.zero_le _

/-- A hand-over empties the path, lists what the record has room for, and saturates the jammed count (R18, R110, R112). -/
theorem Station.keeps_handOver (st : Station) : st.Keeps st.handOver := by
  refine ⟨fun _ => Nat.zero_le _, id, fun kept q hq => ?_, fun kept y hy => ?_⟩
  · obtain ⟨r, jam, rfl⟩ := Option.map_eq_some_iff.mp hq
    exact JamRecord.listed_foldl_le _ _ (kept r jam)
  · obtain ⟨x, session, rfl⟩ := Option.map_eq_some_iff.mp hy
    exact Session.countsKept_retier _ (Session.countsKept_release _ (kept x session))

end Sys2Proof.Machine
end

section
/-! What the event of a station keeps of its lists, counts and notices, operation by operation. -/

namespace Sys2Proof.Machine

namespace State.KeepsAt

variable {i : StationId} {s t u : State}

theorem enterOffline : State.KeepsAt i s (s.enterOffline i) :=
  (modStation (Station.keeps_leaveService _)).trans (enterState _)

theorem setTimer (k : TimerId) (v : IdleTimer) : State.KeepsAt i s (s.modStation i fun st => st.setTimer k v) := by
  refine modStation ?_
  cases k <;> exact .ofEq rfl rfl rfl rfl

theorem activity (k : TimerId) : State.KeepsAt i s (s.activity i k) := by
  unfold State.activity
  split
  · exact refl _ _
  · dsimp only
    have woken : State.KeepsAt i s (if (s.station i).state = .save then s.enterState i .ready else s) := by
      split
      · exact enterState _
      · exact refl _ _
    split
    · exact woken
    · exact woken.trans (setTimer _ _)

/-! ### Accounts and the journal -/

theorem testedRead (n : Nat) : State.KeepsAt i s (s.testedRead n).1 := by
  rcases s.testedRead_cases n with ⟨_, h⟩ | ⟨x, _, ⟨_, h⟩ | ⟨_, _, h⟩ | ⟨_, _, h⟩ | ⟨_, _, h⟩⟩ <;> rw [h]
  · exact refl _ _
  · exact refl _ _
  · exact refl _ _
  · exact ⟨.refl _, fun kept => kept.insertNotice (Notice.scoped_device rfl)⟩
  · exact ⟨.refl _, fun kept => kept.insertNotice (Notice.scoped_device rfl)⟩

theorem writeAccount (n : Nat) (a : Account) : State.KeepsAt i s (s.writeAccount n a) := by
  unfold State.writeAccount
  split
  · exact refl _ _
  · exact ofEq rfl rfl

theorem accountStep (x : Session) (c : Nat) : State.KeepsAt i s (s.accountStep x c).1 := by
  unfold State.accountStep
  split
  · rename_i n _
    have h := testedRead (i := i) (s := s) n
    split
    · rename_i heq
      rw [heq] at h
      exact h.trans (writeAccount _ _)
    · rename_i heq
      rw [heq] at h
      exact h
  · exact refl _ _

theorem journalLowFrom (b : State) : State.KeepsAt i s (s.journalLowFrom b) := by
  unfold State.journalLowFrom
  split
  · exact postDevice rfl
  · exact refl _ _

theorem reserve : State.KeepsAt i s s.reserve :=
  trans (t := { s with reservations := s.reservations + 1 }) (ofEq rfl rfl) (journalLowFrom s)

theorem writeSettle (r : Nat → SettleRecord) : State.KeepsAt i s (s.writeSettle r) := ofEq rfl rfl

/-! ### Sessions -/

/-- A session stays within its tops where its counts stay and the station's does. -/
theorem modOwn {f : Station → Station} {x : Session} (present : (s.station i).session = some x)
    (session : ∀ y ∈ (f (s.station i)).session, x.CountsKept → y.CountsKept)
    (path : (f (s.station i)).path = (s.station i).path)
    (waiting : (f (s.station i)).reader.waiting = (s.station i).reader.waiting)
    (jam : (f (s.station i)).jam = (s.station i).jam) : State.KeepsAt i s (s.modStation i f) :=
  modStation (.ofSession path waiting jam fun kept y hy => session y hy (kept x present))

theorem evaluatePause (b : Bool) : State.KeepsAt i s (s.evaluatePause i b) := by
  unfold State.evaluatePause
  cases present : (s.station i).session with
  | none => exact refl _ _
  | some x =>
      have holding : State.KeepsAt i s (s.enterHolding i x) :=
        (modOwn present (fun y hy kept => by cases hy; exact kept) rfl rfl rfl).trans ((postAt rfl _).trans (indicate _))
      have lifted : State.KeepsAt i s (s.modStation i fun st =>
          { st with session := some { x with phase := .active, forced := false }, pauseTimer := none }) :=
        modOwn present (fun y hy kept => by cases hy; exact kept) rfl rfl rfl
      have lift : State.KeepsAt i s (s.liftPause i x b) := by
        unfold State.liftPause
        dsimp only
        split
        · exact lifted
        · exact lifted.trans (indicate _)
      dsimp only
      split
      · split
        · split
          · exact holding
          · split
            · exact indicate _
            · exact refl _ _
        · split
          · exact refl _ _
          · exact lift
      · exact refl _ _

theorem createSession (p : Payment) (h r : Nat) (ph : Phase) : State.KeepsAt i s (s.createSession i p h r ph) := by
  unfold State.createSession
  exact trans (t := { s with sessionSerial := wrapInc Config.wrap32 s.sessionSerial }) (ofEq rfl rfl)
    (reserve.trans ((setSession fun _ y hy => by cases hy; exact newSession_countsKept _ _ _ _ _ _ _).trans reloadBoth))

theorem endWithoutRecord : State.KeepsAt i s (s.endWithoutRecord i) :=
  trans (t := s.unreserve) (ofEq rfl rfl) (modStation (.ofSession rfl rfl rfl fun _ => Station.countsKept_of_none rfl))

theorem settle (x : Session) (r : CloseReason) : State.KeepsAt i s (s.settle i x r) := by
  unfold State.settle
  exact (accountStep _ _).trans ((writeSettle _).trans ((indicate _).trans ((postAt rfl _).trans
    (setSession fun _ y hy => (Option.not_mem_none y hy).elim))))

theorem settleInService (x : Session) (r : CloseReason) : State.KeepsAt i s (s.settleInService i x r) := by
  unfold State.settleInService
  dsimp only
  split
  · exact (settle _ _).trans enterOffline
  · exact (settle _ _).trans reloadBoth

theorem closeRequest (r : CloseReason) : State.KeepsAt i s (s.closeRequest i r) := by
  unfold State.closeRequest
  cases present : (s.station i).session with
  | none => exact refl _ _
  | some x =>
      have closing : State.KeepsAt i s (s.modStation i fun st =>
          { st with session := some { x with phase := .closing r }, pauseTimer := none }) :=
        modOwn present (fun y hy kept => by cases hy; exact kept) rfl rfl rfl
      dsimp only
      split
      · split
        · exact closing.trans (settleInService _ _)
        · exact closing
      · exact refl _ _

theorem quietTest : State.KeepsAt i s (s.quietTest i) := by
  unfold State.quietTest
  dsimp only
  split
  · split
    · exact enterState _
    · split
      · exact closeRequest _
      · exact refl _ _
  · exact refl _ _

theorem endEvent (b : StationState) : State.KeepsAt i s (s.endEvent i b) := by
  unfold State.endEvent
  split
  · exact quietTest
  · exact refl _ _

theorem emptyPathReport : State.KeepsAt i s (s.emptyPathReport i) := by
  unfold State.emptyPathReport
  dsimp only
  split
  · exact quietTest
  · split
    · exact quietTest
    · split
      · exact quietTest.trans (settleInService _ _)
      · exact quietTest

/-! ### Jams -/

theorem openJam (c : JamCause) : State.KeepsAt i s (s.openJam i c) :=
  modStation ⟨id, id, fun _ r hr => by cases hr; exact Nat.zero_le _, id⟩

theorem modHandOver : State.KeepsAt i s (s.modStation i Station.handOver) := modStation (Station.keeps_handOver _)

theorem handOver : State.KeepsAt i s (s.handOver i) := by
  unfold State.handOver
  dsimp only
  split
  · exact modHandOver
  · exact modHandOver.trans (evaluatePause _)

theorem modCloseJam : State.KeepsAt i s (s.modStation i Station.closeJam) := modStation (Station.keeps_closeJam _)

theorem endRecover : State.KeepsAt i s (s.endRecover i) := modCloseJam.trans ((enterState _).trans reloadBoth)

theorem enterRecover : State.KeepsAt i s (s.enterRecover i) := by
  unfold State.enterRecover
  dsimp only
  split
  · exact (enterState _).trans ((modRest rfl rfl rfl rfl).trans endRecover)
  · exact (enterState _).trans (modRest rfl rfl rfl rfl)

theorem exitTest : State.KeepsAt i s (s.exitTest i) := by
  unfold State.exitTest
  dsimp only
  split
  · exact enterRecover
  · exact refl _ _

theorem reportIfEmptied (b : List Sheet) : State.KeepsAt i s (s.reportIfEmptied i b) := by
  unfold State.reportIfEmptied
  split
  · exact refl _ _
  · exact emptyPathReport

/-- The repeat count of a fold (R114). -/
theorem modRepeats : State.KeepsAt i s (s.modStation i fun st =>
    { st with jam := st.jam.map fun r => { r with repeats := satAdd 255 r.repeats 1 }, purgeTimer := none }) := by
  refine modStation ⟨id, id, fun kept q hq => ?_, id⟩
  obtain ⟨r, jam, rfl⟩ := Option.map_eq_some_iff.mp hq
  exact kept r jam

/-- What follows the hand-over of a declared jam. -/
theorem declareJam_afterHandOver (c : JamCause) :
    ∃ t, (t = s ∨ t = s.openJam i c) ∧ State.KeepsAt i (t.handOver i) (s.declareJam i c) := by
  have hnew : State.KeepsAt i ((s.openJam i c).handOver i) (s.declareNew i c) :=
    (enterState _).trans (exitTest.trans (reportIfEmptied _))
  have hfold : State.KeepsAt i (s.handOver i) (s.foldJam i) :=
    modRepeats.trans ((enterState _).trans (exitTest.trans (reportIfEmptied _)))
  have hoff : State.KeepsAt i ((s.openJam i c).handOver i) (s.offlineJam i c) :=
    modCloseJam.trans ((postAt rfl _).trans (reportIfEmptied _))
  unfold State.declareJam
  split
  · exact ⟨_, .inr rfl, hoff⟩
  · exact ⟨_, .inl rfl, hfold⟩
  · exact ⟨_, .inl rfl, hfold⟩
  · exact ⟨_, .inr rfl, hnew⟩
  · exact ⟨_, .inr rfl, hnew⟩
  · exact ⟨_, .inr rfl, hnew⟩

theorem declareJam (c : JamCause) : State.KeepsAt i s (s.declareJam i c) := by
  obtain ⟨t, rfl | rfl, h⟩ := declareJam_afterHandOver (i := i) (s := s) c
  · exact handOver.trans h
  · exact (openJam c).trans (handOver.trans h)

/-- A declared jam leaves no more sheets in the path than it has room for, whatever was there. -/
theorem path_declareJam (c : JamCause) : ((s.declareJam i c).station i).path.length ≤ Config.pathCapacity := by
  have emptied (t : State) : ((t.handOver i).station i).path.length ≤ Config.pathCapacity := by
    have empty : ((t.modStation i Station.handOver).station i).path.length ≤ Config.pathCapacity := by
      rw [State.station_modStation_self]
      exact Nat.zero_le _
    unfold State.handOver
    dsimp only
    split
    · exact empty
    · exact (evaluatePause (s := t.modStation i Station.handOver) false).station.path empty
  obtain ⟨t, -, h⟩ := declareJam_afterHandOver (i := i) (s := s) c
  exact h.station.path (emptied t)

theorem startStation : State.KeepsAt i s (s.startStation i) := by
  unfold State.startStation
  dsimp only
  split
  · exact (enterState _).trans (reloadBoth.trans ((declareJam _).trans (endEvent _)))
  · exact (enterState _).trans (reloadBoth.trans (endEvent _))

end State.KeepsAt

end Sys2Proof.Machine
end

section
/-! What sheets, lines, expiries and readers keep of a station's lists, counts and notices. -/

namespace Sys2Proof.Machine

/-- A feed counts one sheet more, saturating (R73). -/
theorem Session.countsKept_fed {x : Session} (clamped : Bool) (pending : Nat) (kind : Option Kind)
    (h : x.CountsKept) : Session.CountsKept { x with
      fed := satAdd Config.top32 x.fed 1, clamped := clamped, pending := pending, lastKind := kind } := by
  obtain ⟨-, rest⟩ := h
  exact ⟨satAdd_le _ _ _, rest⟩

namespace State.KeepsAt

variable {i : StationId} {s t u : State}

/-! ### Sheets -/

/-- A fed sheet joins the path; everything else that a feed does keeps what is kept. -/
theorem coverSheet (n : Nat) (k : Kind) :
    ∃ c x, State.KeepsAt i (s.joinPath i n k c x) (s.coverSheet i n k) := by
  unfold State.coverSheet
  cases present : (s.station i).session with
  | none => exact ⟨_, _, refl _ _⟩
  | some x =>
      have joined (c : Coverage) (z : Option Nat) : ((s.joinPath i n k c z).station i).session = some x := by
        rw [State.joinPath, State.station_modStation_self]
        exact present
      dsimp only
      split
      · split
        · refine ⟨_, _, (setSession fun kept y hy => ?_).trans (evaluatePause _)⟩
          cases hy
          exact Session.countsKept_retier _ (Session.countsKept_fed _ _ _ (kept x (joined _ _)))
        · refine ⟨_, _, setSession fun kept y hy => ?_⟩
          cases hy
          exact Session.countsKept_fed _ _ _ (kept x (joined _ _))
      · refine ⟨_, _, setSession fun kept y hy => ?_⟩
        cases hy
        exact Session.countsKept_fed _ _ _ (kept x (joined _ _))

/-- What keeps everything from a joined path on keeps everything, if the path comes out within its capacity. -/
theorem ofJoined {n : Nat} {k : Kind} {c : Coverage} {x : Option Nat} (h : State.KeepsAt i (s.joinPath i n k c x) t)
    (path : (s.station i).path.length ≤ Config.pathCapacity → (t.station i).path.length ≤ Config.pathCapacity) :
    State.KeepsAt i s t := by
  obtain ⟨⟨-, waiting, listed, counts⟩, notices⟩ := h
  rw [State.joinPath, State.station_modStation_self] at waiting listed counts
  exact ⟨⟨path, waiting, listed, counts⟩, notices⟩

theorem feedSheet : State.KeepsAt i s (s.feedSheet i) := by
  refine trans (t := s.modStation i fun st => { st with lastSheet := wrapInc Config.wrap16 (s.station i).lastSheet })
    (modRest rfl rfl rfl rfl) ?_
  obtain ⟨c, x, covered⟩ := coverSheet (i := i) (s := s.modStation i fun st =>
    { st with lastSheet := wrapInc Config.wrap16 (s.station i).lastSheet })
    (wrapInc Config.wrap16 (s.station i).lastSheet) (s.station i).lines.kind
  unfold State.feedSheet
  dsimp only
  split
  · rename_i room
    refine ofJoined covered fun _ => covered.station.path ?_
    rw [State.joinPath, State.station_modStation_self, State.station_modStation_self, List.length_append,
      List.length_singleton]
    exact room
  · exact ofJoined (covered.trans (declareJam _)) fun _ => path_declareJam _

theorem reportDelivery (e : Sheet) : State.KeepsAt i s (s.reportDelivery i e) := by
  unfold State.reportDelivery
  cases present : (s.station i).session with
  | none => exact refl _ _
  | some x =>
      dsimp only
      split
      · refine (setSession fun kept y hy => ?_).trans (evaluatePause _)
        cases hy
        exact Session.countsKept_deliver e (kept x present)
      · exact refl _ _

/-- A popped path is no longer than it was. -/
theorem popSheet {e : Sheet} {r : List Sheet} (path : (s.station i).path = e :: r) :
    State.KeepsAt i s (s.popSheet i e r) := by
  have popped : State.KeepsAt i s (s.modStation i fun st => { st with path := r, meters := st.meters.deliver e }) := by
    refine modStation ⟨fun fits => ?_, id, id, id⟩
    rw [path] at fits
    exact (Nat.le_succ _).trans fits
  unfold State.popSheet
  dsimp only
  split
  · exact popped.trans ((reportDelivery _).trans emptyPathReport)
  · split
    · exact popped.trans ((reportDelivery _).trans (declareJam _))
    · exact popped.trans (reportDelivery _)

theorem strayDelivery : State.KeepsAt i s (s.strayDelivery i) := by
  have purged : State.KeepsAt i s (s.modStation i fun st =>
      { st with jam := st.jam.map fun r => { r with purged := r.purged + 1 } }) := by
    refine modStation ⟨id, id, fun kept q hq => ?_, id⟩
    obtain ⟨r, jam, rfl⟩ := Option.map_eq_some_iff.mp hq
    exact kept r jam
  unfold State.strayDelivery
  dsimp only
  split
  · split
    · exact purged.trans endRecover
    · exact purged
  · exact modRest rfl rfl rfl rfl

theorem deliverSheet : State.KeepsAt i s (s.deliverSheet i) := by
  unfold State.deliverSheet
  split
  · rename_i path
    exact popSheet path
  · exact strayDelivery

/-! ### Line events and expiries -/

theorem readyFell : State.KeepsAt i s (s.readyFell i) := by
  unfold State.readyFell
  dsimp only
  split
  · exact refl _ _
  · exact refl _ _
  · exact refl _ _
  · exact enterState _
  · split
    · exact enterState _
    · exact declareJam _
  · split
    · exact (modRest rfl rfl rfl rfl).trans (enterState _)
    · exact declareJam _

theorem readyRose : State.KeepsAt i s (s.readyRose i) := by
  unfold State.readyRose
  dsimp only
  split
  · exact (activity _).trans (enterState _)
  · exact (activity _).trans exitTest

theorem jamRose : State.KeepsAt i s (s.jamRose i) := by
  unfold State.jamRose
  split
  · exact refl _ _
  · exact declareJam _

theorem stoppedRose : State.KeepsAt i s (s.stoppedRose i) := by
  unfold State.stoppedRose
  cases present : (s.station i).session with
  | none => exact refl _ _
  | some x =>
      dsimp only
      split
      · exact modOwn present (fun y hy kept => by cases hy; exact kept) rfl rfl rfl
      · exact refl _ _

theorem lineEvent (n : Line) (l : Bool) : State.KeepsAt i s (s.lineEvent i n l) := by
  unfold State.lineEvent
  split
  · exact (activity _).trans feedSheet
  · exact (activity _).trans deliverSheet
  · exact jamRose
  · exact exitTest
  · exact readyRose
  · exact readyFell
  · exact stoppedRose
  · exact refl _ _

theorem recognize (n : Line) (l : Bool) : State.KeepsAt i s (s.recognize i n l) := by
  have moved (k : Nat) (m : Line) (v : LineState) : State.KeepsAt i s ((s.reach k).setLine i m v) :=
    (reach _).trans (setLine _ _)
  unfold State.recognize
  dsimp only
  split
  · exact refl _ _
  · split
    · exact moved _ _ _
    · exact (moved _ _ _).trans ((lineEvent _ _).trans (endEvent _))

theorem rawChange (n : Line) (l : Bool) : State.KeepsAt i s (s.rawChange i n l) := setLine _ _

theorem transitExpires : State.KeepsAt i s (s.transitExpires i) := by
  unfold State.transitExpires
  split
  · exact refl _ _
  · split
    · exact (reach _).trans ((declareJam _).trans (endEvent _))
    · exact refl _ _

theorem idleExpires (k : TimerId) : State.KeepsAt i s (s.idleExpires i k) := by
  unfold State.idleExpires
  split
  · split
    · exact (reach _).trans ((setTimer _ _).trans quietTest)
    · exact refl _ _
  · exact refl _ _

theorem authExpires : State.KeepsAt i s (s.authExpires i) := by
  unfold State.authExpires
  split
  · split
    · exact (reach _).trans (endWithoutRecord.trans ((refuse _ _).trans reloadBoth))
    · exact refl _ _
  · exact refl _ _

theorem pauseAckExpires : State.KeepsAt i s (s.pauseAckExpires i) := by
  unfold State.pauseAckExpires
  split
  · rename_i present
    split
    · exact (reach _).trans (modOwn present (fun y hy kept => by cases hy; exact kept) rfl rfl rfl)
    · exact refl _ _
  · exact refl _ _

theorem purgeExpires : State.KeepsAt i s (s.purgeExpires i) := by
  unfold State.purgeExpires
  split
  · exact refl _ _
  · split
    · exact (reach _).trans (endRecover.trans (endEvent _))
    · exact refl _ _

/-! ### Readers -/

theorem admitCampus (n : Nat) : State.KeepsAt i s (s.admitCampus i n) := by
  unfold State.admitCampus
  split
  · exact refuse _ _
  · rename_i k _
    have h := testedRead (i := i) (s := s) k
    split
    · rename_i heq
      rw [heq] at h
      dsimp only
      split
      · exact h.trans (refuse _ _)
      · split
        · exact h.trans (refuse _ _)
        · exact h.trans ((writeAccount _ _).trans ((createSession _ _ _ _).trans ((indicate _).trans
            (evaluatePause _))))
    · rename_i heq
      rw [heq] at h
      exact h.trans (refuse _ _)

theorem admitBank (token : BitVec 128) : State.KeepsAt i s (s.admitBank i token) := by
  unfold State.admitBank
  exact trans (t := { s with authRef := nextAuthRef s.authRefs 8 s.authRef }) (ofEq rfl rfl)
    ((createSession _ _ _ _).trans ((modRest rfl rfl rfl rfl).trans ((postAt rfl _).trans (indicate _))))

theorem admitCard (c : Card) : State.KeepsAt i s (s.admitCard i c) := by
  unfold State.admitCard
  split
  · exact refuse _ _
  · split
    · exact refuse _ _
    · split
      · exact admitCampus _
      · exact admitBank _

/-- An extend counts once more, saturating (R65). -/
theorem modExtend (extension : Nat) : State.KeepsAt i s (s.modSession i fun x =>
    { x with hold := x.hold + extension, extendCount := satAdd 255 x.extendCount 1 }) := by
  refine modSession fun x kept => ?_
  obtain ⟨fed, covered, uncovered, value, unpermitted, jammed, -⟩ := kept
  exact ⟨fed, covered, uncovered, value, unpermitted, jammed, satAdd_le _ _ _⟩

theorem extendSession (n : Nat) : State.KeepsAt i s (s.extendSession i n) := by
  unfold State.extendSession
  have h := testedRead (i := i) (s := s) n
  split
  · rename_i heq
    rw [heq] at h
    dsimp only
    split
    · exact h.trans (refuse _ _)
    · split
      · exact h.trans (refuse _ _)
      · split
        · exact h.trans ((writeAccount _ _).trans ((modExtend _).trans ((indicate _).trans (evaluatePause _))))
        · exact h.trans ((writeAccount _ _).trans ((modExtend _).trans (evaluatePause _)))
  · rename_i heq
    rw [heq] at h
    exact h.trans (refuse _ _)

theorem takeCard (c : Card) : State.KeepsAt i s (s.takeCard i c) := by
  unfold State.takeCard
  split
  · exact admitCard _
  · split
    · split
      · exact extendSession _
      · exact refuse _ _
    · exact refuse _ _

theorem takeEnd : State.KeepsAt i s (s.takeEnd i) := by
  unfold State.takeEnd
  split
  · exact refuse _ _
  · split
    · exact closeRequest _
    · split
      · exact endWithoutRecord.trans ((indicate _).trans reloadBoth)
      · exact refuse _ _

theorem readerFrame (c : ReaderCondition) {f g : State → State} (hf : ∀ s, State.KeepsAt i s (f s))
    (hg : ∀ s, State.KeepsAt i s (g s)) : State.KeepsAt i s (s.readerFrame i c f g) := by
  unfold State.readerFrame
  dsimp only
  split
  · split
    · exact (setReader _).trans ((activity _).trans ((hf _).trans (endEvent _)))
    · exact (setReader _).trans (hg _)
  · exact refl _ _

theorem discardFrame (c : ReaderCondition) : State.KeepsAt i s (s.discardFrame i c) :=
  readerFrame c (fun _ => refuse _ _) fun _ => refuse _ _

theorem cardArrives (c : Card) : State.KeepsAt i s (s.cardArrives i c) := by
  unfold State.cardArrives
  split
  · split
    · exact readerFrame _ (fun _ => takeCard c) fun _ => refuse _ _
    · exact discardFrame _
  · exact refl _ _

theorem endArrives : State.KeepsAt i s (s.endArrives i) := by
  unfold State.endArrives
  split
  · exact readerFrame _ (fun _ => takeEnd) fun _ => refuse _ _
  · exact refl _ _

theorem malformedArrives : State.KeepsAt i s (s.malformedArrives i) := by
  unfold State.malformedArrives
  split
  · exact discardFrame _
  · exact refl _ _

theorem readerGap : State.KeepsAt i s (s.readerGap i) := by
  unfold State.readerGap
  split
  · exact discardFrame _
  · exact refl _ _

theorem readerStart : State.KeepsAt i s (s.readerStart i) := by
  unfold State.readerStart
  split
  · exact setReader _
  · exact refl _ _

theorem readerIdle : State.KeepsAt i s (s.readerIdle i) := by
  unfold State.readerIdle
  split
  · exact setReader _
  · exact refl _ _

end State.KeepsAt

theorem ReaderPort.waiting_sent_le (p : ReaderPort) : p.sent.waiting.length ≤ p.waiting.length := by
  unfold ReaderPort.sent
  split
  · exact Nat.le_refl _
  · rename_i waiting
    rw [waiting]
    exact Nat.le_succ _

theorem State.KeepsAt.indicatorSent {i : StationId} {s : State} : State.KeepsAt i s (s.indicatorSent i) := by
  unfold State.indicatorSent
  split
  · exact modStation ⟨id, (ReaderPort.waiting_sent_le _).trans, id, id⟩
  · exact refl _ _

end Sys2Proof.Machine
end

section
/-! What a request keeps of every station's lists and counts, of the receive queue and of the notice set. -/

namespace Sys2Proof.Machine

/-- `State.Bounded`, `State.CountsKept` and `State.NoticesKept` of `t`, each if `s` has it, station by station. -/
structure State.Keeps (s t : State) : Prop where
  stations : ∀ i, (s.station i).Keeps (t.station i)
  notices : NoticesCanonical s.notices → NoticesCanonical t.notices
  queue : s.receiveQueue.length ≤ Config.receiveQueueCapacity → t.receiveQueue.length ≤ Config.receiveQueueCapacity

namespace State.Keeps

variable {s t u : State}

theorem refl (s : State) : s.Keeps s := ⟨fun _ => .refl _, id, id⟩

theorem trans (h : s.Keeps t) (k : t.Keeps u) : s.Keeps u :=
  ⟨fun i => (h.stations i).trans (k.stations i), k.notices ∘ h.notices, k.queue ∘ h.queue⟩

/-- An operation that changes no station, no notice and no queued frame. -/
theorem ofEq (stations : t.stations = s.stations) (notices : t.notices = s.notices)
    (queue : t.receiveQueue = s.receiveQueue) : s.Keeps t := by
  have same (i : StationId) : t.station i = s.station i := by rw [State.station, stations, State.station]
  refine ⟨fun i => ?_, ?_, ?_⟩
  · rw [same]
    exact .refl _
  · rw [notices]
    exact id
  · rw [queue]
    exact id

/-- An event at one station. -/
theorem ofLocal {i : StationId} (h : State.Local i s t) (k : State.KeepsAt i s t) : s.Keeps t := by
  refine ⟨fun j => ?_, k.notices, ?_⟩
  · by_cases same : j = i
    · exact same ▸ k.station
    · rw [h.others j same]
      exact .refl _
  · rw [h.receiveQueue]
    exact id

theorem postDevice {k : NoticeKind} (h : k.forDevice = true) : s.Keeps (s.post k 0) :=
  ofLocal (i := 0) (.post _ _) (.postDevice h)

theorem foldl {α : Type} {f : State → α → State} (h : ∀ (s : State) (a : α), s.Keeps (f s a)) :
    ∀ (l : List α) (s : State), s.Keeps (l.foldl f s)
  | [], s => refl s
  | a :: l, s => (h s a).trans (foldl h l (f s a))

theorem modStations {f : Station → Station} (h : ∀ st : Station, st.Keeps (f st)) : s.Keeps (s.modStations f) := by
  refine ⟨fun i => ?_, ?_, ?_⟩
  · rw [State.station_modStations]
    exact h _
  · rw [State.modStations_eq]
    exact id
  · rw [State.modStations_eq]
    exact id

theorem turnPeriod : s.Keeps s.turnPeriod :=
  trans (t := { s with period := wrapInc Config.wrap16 s.period }) (ofEq rfl rfl rfl) (postDevice rfl)

theorem testAlarm : s.Keeps s.testAlarm := by
  unfold State.testAlarm
  split
  · exact trans (t := { s with alarm := none }) (ofEq rfl rfl rfl) turnPeriod
  · exact refl s

theorem testedRead (n : Nat) : s.Keeps (s.testedRead n).1 := ofLocal (i := 0) (.testedRead n) (.testedRead n)

theorem writeAccount (n : Nat) (a : Account) : s.Keeps (s.writeAccount n a) :=
  ofLocal (i := 0) (.writeAccount n a) (.writeAccount n a)

/-! ### Stations and sessions -/

theorem stopStation (i : StationId) : s.Keeps (s.stopStation i) := by
  have pending : State.KeepsAt i s (s.modSession i fun x => { x with stopPending := true }) :=
    .modSession fun _ kept => kept
  unfold State.stopStation
  split
  · exact ofLocal .enterOffline .enterOffline
  · split
    · exact (ofLocal .endWithoutRecord .endWithoutRecord).trans
        ((ofLocal (.indicate _) (.indicate _)).trans (ofLocal .enterOffline .enterOffline))
    · exact (ofLocal (.modSession _) pending).trans (ofLocal (.closeRequest _) (.closeRequest _))

theorem wakeStation (i : StationId) : s.Keeps (s.wakeStation i) :=
  (ofLocal (.activity _) (.activity _)).trans (ofLocal (.endEvent _) (.endEvent _))

theorem createdCounter (i : StationId) (hold hostRef rate : Nat) (before : StationState) :
    s.Keeps ((((s.createSession i (.counter hostRef) hold rate .active).indicate i (.accept hold)).evaluatePause i
      false).endEvent i before) :=
  ofLocal (.trans (.createSession _ _ _ _) (.trans (.indicate _) (.trans (.evaluatePause _) (.endEvent _))))
    (.trans (.createSession _ _ _ _) (.trans (.indicate _) (.trans (.evaluatePause _) (.endEvent _))))

theorem openCounter (i : StationId) (hold hostRef : Nat) : s.Keeps (s.openCounter i hold hostRef) := by
  unfold State.openCounter
  dsimp only
  split
  · exact (ofLocal (.enterState _) (.enterState _)).trans (createdCounter _ _ _ _ _)
  · exact createdCounter _ _ _ _ _

theorem acceptAuth (i : StationId) (hold : Nat) : s.Keeps (s.acceptAuth i hold) := by
  have accepted : State.KeepsAt i s (s.modStation i fun st => { st with
      session := st.session.map fun x => { x with hold := hold, phase := .active }, authTimer := none }) := by
    refine .modStation (.ofSession rfl rfl rfl fun kept y hy => ?_)
    obtain ⟨x, session, rfl⟩ := Option.map_eq_some_iff.mp hy
    exact kept x session
  exact ofLocal (.trans (.modStation _) (.trans .reloadBoth (.trans (.indicate _) (.evaluatePause _))))
    (accepted.trans (.trans .reloadBoth (.trans (.indicate _) (.evaluatePause _))))

theorem declineAuth (i : StationId) : s.Keeps (s.declineAuth i) :=
  ofLocal (.trans .endWithoutRecord (.trans (.refuse _ _) .reloadBoth))
    (.trans .endWithoutRecord (.trans (.refuse _ _) .reloadBoth))

/-! ### The requests that act -/

theorem ownSetTime (x : BitVec 32) : s.Keeps (s.ownSetTime x).1 :=
  trans (t := { s with stamp := x.toNat, timeUnset := false }) (ofEq rfl rfl rfl) testAlarm

theorem ownSetPeriodAlarm (p : Byte) (x : Option (BitVec 32)) : s.Keeps (s.ownSetPeriodAlarm p x).1 := by
  unfold State.ownSetPeriodAlarm
  split
  · exact refl s
  · exact trans (t := { s with alarm := if p = 0 then none else x.map BitVec.toNat }) (ofEq rfl rfl rfl) testAlarm

theorem ownSetDevice (mask : BitVec 16) : s.Keeps (s.ownSetDevice mask).1 := by
  unfold State.ownSetDevice
  split
  · exact refl s
  · exact ofEq rfl rfl rfl

theorem ownClearAll : s.Keeps (s.ownClearAll).1 := by
  unfold State.ownClearAll
  split
  · exact trans (t := { s with slots := [], lastCorrected := none, lastFault := none }) (ofEq rfl rfl rfl)
      (modStations fun _ => .ofEq rfl rfl rfl rfl)
  · exact refl s

/-- A taken notice leaves the set; the others keep their order (R173). -/
theorem ownTakeNotice : s.Keeps (s.ownTakeNotice).1 := by
  unfold State.ownTakeNotice
  split
  · exact refl s
  · exact ⟨fun _ => .refl _, fun ⟨order, fits⟩ =>
      ⟨order.sublist List.erase_sublist, fun n hn => fits n (List.mem_of_mem_erase hn)⟩, id⟩

theorem ownSetProfile (st : Byte) (p : ProfileFields) : s.Keeps (s.ownSetProfile st p).1 := by
  unfold State.ownSetProfile
  split
  · exact refl s
  · rename_i i _
    dsimp only
    split
    · exact refl s
    · split
      · exact refl s
      · split
        · exact (ofLocal (.modStation _) (.modRest rfl rfl rfl rfl)).trans (ofLocal (.declareJam _) (.declareJam _))
        · dsimp only
          exact ofLocal (.modStation _) (.modRest rfl rfl rfl rfl)

theorem ownStartStation (st : Byte) : s.Keeps (s.ownStartStation st).1 := by
  unfold State.ownStartStation
  split
  · exact refl s
  · split
    · exact refl s
    · exact ofLocal .startStation .startStation

theorem ownStopStation (st : Byte) : s.Keeps (s.ownStopStation st).1 := by
  unfold State.ownStopStation
  split
  · exact refl s
  · split
    · exact refl s
    · exact stopStation _

theorem ownWakeStation (st : Byte) : s.Keeps (s.ownWakeStation st).1 := by
  unfold State.ownWakeStation
  split
  · exact refl s
  · split
    · exact refl s
    · exact wakeStation _

theorem ownOpenSession (st : Byte) (a h : BitVec 32) : s.Keeps (s.ownOpenSession st a h).1 := by
  unfold State.ownOpenSession
  split
  · exact refl s
  · dsimp only
    split
    · exact refl s
    · split
      · exact refl s
      · split
        · exact refl s
        · exact openCounter _ _ _

theorem ownEndSession (st : Byte) : s.Keeps (s.ownEndSession st).1 := by
  unfold State.ownEndSession
  split
  · exact refl s
  · split
    · exact refl s
    · split
      · exact ofLocal (.closeRequest _) (.closeRequest _)
      · split <;> exact refl s

theorem ownAuthResult (st : Byte) (r : BitVec 16) (a : BitVec 32) : s.Keeps (s.ownAuthResult st r a).1 := by
  unfold State.ownAuthResult
  split
  · exact refl s
  · split
    · exact refl s
    · dsimp only
      split
      · exact refl s
      · split
        · split
          · exact declineAuth _
          · exact acceptAuth _ _
        · exact refl s

/-! ### The requests about plans, accounts and the journal -/

theorem ownLoadPlan (n : Byte) (f : List (BitVec 16)) : s.Keeps (s.ownLoadPlan n f).1 := by
  unfold State.ownLoadPlan
  dsimp only
  split
  · exact refl s
  · split
    · exact refl s
    · split
      · exact refl s
      · exact ofEq rfl rfl rfl

theorem ownAmendPlan (n : Byte) (m : BitVec 16) (v : List (BitVec 16)) : s.Keeps (s.ownAmendPlan n m v).1 := by
  unfold State.ownAmendPlan
  dsimp only
  split
  · exact refl s
  · split
    · exact refl s
    · split
      · exact refl s
      · split
        · exact refl s
        · exact ofEq rfl rfl rfl

theorem ownLoadAccount (sl : BitVec 16) (id : BitVec 40) (k st rt : Byte) (fg : List (BitVec 32)) :
    s.Keeps (s.ownLoadAccount sl id k st rt fg).1 := by
  unfold State.ownLoadAccount
  dsimp only
  split
  · exact refl s
  · split
    · exact refl s
    · split
      · exact refl s
      · split
        · exact refl s
        · split
          · exact refl s
          · exact ofEq rfl rfl rfl

theorem ownReadAccount (n : BitVec 16) : s.Keeps (s.ownReadAccount n).1 := by
  unfold State.ownReadAccount
  split
  · exact refl s
  · exact testedRead _

theorem ownFindAccount (n : BitVec 40) : s.Keeps (s.ownFindAccount n).1 := by
  unfold State.ownFindAccount
  split
  · exact refl s
  · split
    · exact refl s
    · exact testedRead _

theorem ownTopup (n : BitVec 16) (a : BitVec 32) : s.Keeps (s.ownTopup n a).1 := by
  unfold State.ownTopup
  split
  · exact refl s
  · have h := testedRead (s := s) n.toNat
    split <;> rename_i heq <;> rw [heq] at h
    · split
      · exact h
      · dsimp only
        split
        · exact h
        · exact h.trans (writeAccount _ _)
    · exact h

theorem ownSetLimit (n : BitVec 16) (a : BitVec 32) : s.Keeps (s.ownSetLimit n a).1 := by
  unfold State.ownSetLimit
  split
  · exact refl s
  · have h := testedRead (s := s) n.toNat
    split <;> rename_i heq <;> rw [heq] at h
    · split
      · exact h
      · split
        · exact h
        · exact h.trans (writeAccount _ _)
    · exact h

theorem ownSetAccountState (n : BitVec 16) (a : Byte) : s.Keeps (s.ownSetAccountState n a).1 := by
  unfold State.ownSetAccountState
  split
  · exact refl s
  · have h := testedRead (s := s) n.toNat
    split <;> rename_i heq <;> rw [heq] at h
    · exact h.trans (writeAccount _ _)
    · exact h

theorem ownDeleteAccount (n : BitVec 16) : s.Keeps (s.ownDeleteAccount n).1 := by
  unfold State.ownDeleteAccount
  split
  · exact refl s
  · split
    · exact refl s
    · split
      · exact refl s
      · exact ofEq rfl rfl rfl

theorem ownReleaseJournal (n : BitVec 32) : s.Keeps (s.ownReleaseJournal n).1 := by
  unfold State.ownReleaseJournal
  split
  · exact refl s
  · split
    · exact ofEq rfl rfl rfl
    · exact refl s

/-! ### The requests that only read -/

theorem ownReadProfile (n : Byte) : s.Keeps (s.ownReadProfile n).1 := by
  unfold State.ownReadProfile
  split <;> exact refl s

theorem ownReadStation (n : Byte) : s.Keeps (s.ownReadStation n).1 := by
  unfold State.ownReadStation
  split <;> exact refl s

theorem ownReadMeters (n : Byte) : s.Keeps (s.ownReadMeters n).1 := by
  unfold State.ownReadMeters
  split <;> exact refl s

theorem ownReadSession (n : Byte) : s.Keeps (s.ownReadSession n).1 := by
  unfold State.ownReadSession
  split <;> exact refl s

theorem ownReadJam (n : Byte) : s.Keeps (s.ownReadJam n).1 := by
  unfold State.ownReadJam
  split
  · exact refl s
  · split <;> exact refl s

theorem ownReadAuth (n : Byte) : s.Keeps (s.ownReadAuth n).1 := by
  unfold State.ownReadAuth
  split
  · exact refl s
  · split
    · exact refl s
    · split
      · split <;> exact refl s
      · exact refl s

theorem ownReadPlan (n : Byte) : s.Keeps (s.ownReadPlan n).1 := by
  unfold State.ownReadPlan
  split <;> exact refl s

theorem ownQuote (n r t k : Byte) : s.Keeps (s.ownQuote n r t k).1 := by
  unfold State.ownQuote
  dsimp only
  split
  · exact refl s
  · split <;> exact refl s

theorem ownReadJournal : s.Keeps (s.ownReadJournal).1 := by
  unfold State.ownReadJournal
  split <;> exact refl s

/-- What an owning block keeps while it answers a request (R164, step 5). -/
theorem serve (r : Instr) : s.Keeps (s.serve r).1 := by
  cases r with
  | getStatus => exact ofEq rfl rfl rfl
  | setTime x => exact ownSetTime x
  | setPeriodAlarm p x => exact ownSetPeriodAlarm p x
  | turnPeriod => exact turnPeriod
  | setDevice mask => exact ownSetDevice mask
  | clearAll => exact ownClearAll
  | takeNotice => exact ownTakeNotice
  | setProfile st p => exact ownSetProfile st p
  | readProfile n => exact ownReadProfile n
  | startStation st => exact ownStartStation st
  | stopStation st => exact ownStopStation st
  | wakeStation st => exact ownWakeStation st
  | readStation n => exact ownReadStation n
  | readJam n => exact ownReadJam n
  | readMeters n => exact ownReadMeters n
  | openSession st a h => exact ownOpenSession st a h
  | endSession st => exact ownEndSession st
  | readSession n => exact ownReadSession n
  | readAuth n => exact ownReadAuth n
  | authResult st r a => exact ownAuthResult st r a
  | loadPlan n f => exact ownLoadPlan n f
  | amendPlan n m v => exact ownAmendPlan n m v
  | readPlan n => exact ownReadPlan n
  | quote n r t k => exact ownQuote n r t k
  | loadAccount sl id k st rt fg => exact ownLoadAccount sl id k st rt fg
  | readAccount n => exact ownReadAccount n
  | findAccount n => exact ownFindAccount n
  | topup n a => exact ownTopup n a
  | setLimit n a => exact ownSetLimit n a
  | setAccountState n a => exact ownSetAccountState n a
  | deleteAccount n => exact ownDeleteAccount n
  | readJournal => exact ownReadJournal
  | releaseJournal n => exact ownReleaseJournal n
  | _ => exact refl s

end State.Keeps

end Sys2Proof.Machine
end

section
/-! What the host line, the restart, the supply and every step keep, and O55. -/

namespace Sys2Proof.Machine

/-! ### The restart's change of every station -/

theorem Station.keeps_loseVolatile (st : Station) : st.Keeps st.loseVolatile := ⟨id, fun _ => Nat.zero_le _, id, id⟩

theorem Station.keeps_beginRestart (st : Station) : st.Keeps st.beginRestart := ⟨id, fun _ => Nat.zero_le _, id, id⟩

/-- A station that loses the retained domain keeps its reader port; its path, record and session are gone (R181). -/
theorem Station.keeps_loseRetained (st : Station) : st.Keeps st.loseRetained :=
  ⟨fun _ => Nat.zero_le _, id, fun _ r hr => (Option.not_mem_none r hr).elim, fun _ => Station.countsKept_of_none rfl⟩

theorem Station.keeps_shutDown (st : Station) : st.Keeps st.shutDown := by
  refine .ofSession rfl rfl rfl fun kept y hy => ?_
  obtain ⟨x, session, rfl⟩ := Option.map_eq_some_iff.mp hy
  exact kept x session

theorem NoticesCanonical.nil : NoticesCanonical [] := ⟨.nil, nofun⟩

namespace State.Keeps

variable {s t u : State}

/-! ### The host line -/

theorem sendReply (kind : Byte) (a : Answer) (restarts : Bool) : s.Keeps (s.sendReply kind a restarts) :=
  ofEq rfl rfl rfl

theorem perform (r : Instr) : s.Keeps (s.perform r).1 := by
  unfold State.perform
  split
  · exact refl s
  · exact serve r

theorem answer (kind : Byte) (r : Instr) : s.Keeps (s.answer kind r) := (perform r).trans (sendReply _ _ _)

theorem takeFrame (f : HostFrame) : s.Keeps (s.takeFrame f) := by
  unfold State.takeFrame
  split
  · exact sendReply _ _ _
  · split
    · exact sendReply _ _ _
    · exact sendReply _ _ _
    · exact answer _ _

theorem takeRequest : s.Keeps (s.takeRequest) := by
  unfold State.takeRequest
  split
  · split
    · exact refl s
    · rename_i f rest queue
      refine trans (t := { s with receiveQueue := rest }) ⟨fun _ => .refl _, id, fun fits => ?_⟩ (takeFrame f)
      rw [queue] at fits
      exact (Nat.le_succ _).trans fits
  · exact refl s

theorem enqueue (f : HostFrame) : s.Keeps (s.enqueue f) := by
  unfold State.enqueue
  split
  · rename_i room
    refine ⟨fun _ => .refl _, id, fun _ => ?_⟩
    rw [List.length_append, List.length_singleton]
    exact room
  · exact ofEq rfl rfl rfl

theorem frameCompletes (kind : Byte) (body : List Byte) (check : BitVec 16) :
    s.Keeps (s.frameCompletes kind body check) := by
  have hunting : s.Keeps { s with hostCondition := .hunting } := ofEq rfl rfl rfl
  unfold State.frameCompletes
  split
  · dsimp only
    split
    · exact hunting.trans (enqueue _)
    · exact hunting
  · exact refl s

theorem hostRequest (kind : Byte) (r : Instr) : s.Keeps (s.hostRequest kind r) := by
  have hunting : s.Keeps { s with hostCondition := .hunting } := ofEq rfl rfl rfl
  unfold State.hostRequest
  split
  · dsimp only
    split
    · split
      · exact hunting.trans (answer _ _)
      · exact hunting.trans (sendReply _ _ _)
    · exact hunting.trans (enqueue _)
  · exact refl s

theorem gapPasses : s.Keeps s.gapPasses := by
  unfold State.gapPasses
  split
  · exact ofEq rfl rfl rfl
  · exact refl s

theorem startByte : s.Keeps s.startByte := by
  unfold State.startByte
  split
  · exact ofEq rfl rfl rfl
  · exact refl s

theorem badLength (length : Byte) : s.Keeps (s.badLength length) := by
  have hunting : s.Keeps { s with hostCondition := .hunting } := ofEq rfl rfl rfl
  unfold State.badLength
  split
  · dsimp only
    split
    · exact hunting.trans startByte
    · exact hunting
  · exact refl s

/-! ### The restart -/

theorem enterShutdown : s.Keeps s.enterShutdown :=
  trans (t := { s with device := .shutdown, scrubDue := none }) (ofEq rfl rfl rfl)
    ((modStations Station.keeps_shutDown).trans (postDevice rfl))

theorem loseVolatile : s.Keeps s.loseVolatile :=
  trans (t := { s with
    restart := none, scrubDue := none, notices := [], hostCondition := .hunting, receiveQueue := []
    linkOverrun := false, reply := none })
    ⟨fun _ => .refl _, fun _ => .nil, fun _ => Nat.zero_le _⟩ (modStations Station.keeps_loseVolatile)

theorem beginRestart (c : RestartCause) : s.Keeps (s.beginRestart c) := by
  unfold State.beginRestart
  refine trans ?_ (modStations Station.keeps_beginRestart)
  exact ⟨fun _ => .refl _, id, fun _ => Nat.zero_le _⟩

theorem loseRetained : s.Keeps s.loseRetained := by
  unfold State.loseRetained
  refine trans ?_ (modStations Station.keeps_loseRetained)
  exact ofEq rfl rfl rfl

theorem restartAuthorization (i : StationId) : s.Keeps (s.restartAuthorization i) := by
  unfold State.restartAuthorization
  split
  · split
    · exact ofLocal .endWithoutRecord .endWithoutRecord
    · exact refl s
  · exact refl s

theorem writeOff (i : StationId) : s.Keeps (s.writeOff i) := by
  have emptied (t : State) : t.Keeps (((t.openJam i .restart).modStation i Station.handOver).modStation i
      Station.closeJam) :=
    ofLocal (.trans (.openJam _) (.trans (.modStation _) (.modStation _)))
      (.trans (.openJam _) (.trans .modHandOver .modCloseJam))
  unfold State.writeOff
  dsimp only
  have left : s.Keeps (if (s.station i).state = .jammed ∨ (s.station i).state = .recover then s.enterOffline i else s) := by
    split
    · exact ofLocal .enterOffline .enterOffline
    · exact refl s
  generalize (if (s.station i).state = .jammed ∨ (s.station i).state = .recover then s.enterOffline i else s) = t
    at left ⊢
  split
  · exact left
  · exact left.trans (emptied _)

theorem restartSettle (r : Restart) (i : StationId) : s.Keeps (s.restartSettle r i).1 := by
  unfold State.restartSettle
  split
  · exact refl s
  · exact ofLocal (.settle _ _) (.settle _ _)

theorem writeRestart (c : RestartCause) (n : Nat) : s.Keeps (s.writeRestart c n) := by
  unfold State.writeRestart
  split
  · refine trans ?_ (ofLocal (i := 0) (.journalLowFrom _) (.journalLowFrom _))
    exact ofEq rfl rfl rfl
  · exact ofEq rfl rfl rfl

/-- The notice set is emptied and holds what the restart posts (R185). -/
theorem restartNotices (r : Restart) : s.Keeps (s.restartNotices r) := by
  have posted (b : Bool) (k : NoticeKind) (h : k.forDevice = true) (t : State) :
      t.Keeps (if b then t.post k 0 else t) := by
    split
    · exact postDevice h
    · exact refl t
  have settled : s.Keeps (r.settled.foldl (fun acc i => acc.postAt .sessionClosed i) { s with notices := [] }) :=
    trans (t := { s with notices := [] }) ⟨fun _ => .refl _, fun _ => .nil, id⟩
      (foldl (fun _ i => ofLocal (i := i) (.postAt _ _) (.postAt rfl _)) _ _)
  exact settled.trans ((posted _ _ rfl _).trans (posted _ _ rfl _))

theorem restartOffline (i : StationId) : s.Keeps (s.restartOffline i) := by
  have left : State.KeepsAt i s (s.modStation i fun st => { st.leaveService with state := .offline }) :=
    .modStation ((Station.keeps_leaveService _).trans (.ofEq rfl rfl rfl rfl))
  exact ofLocal (.trans (.modStation _) (.postAt _ _)) (left.trans (.postAt rfl _))

theorem restartStations : s.Keeps s.restartStations := by
  have started (t : State) (i : StationId) : t.Keeps (if (t.station i).profile.autoStart then t.startStation i else t) := by
    split
    · exact ofLocal .startStation .startStation
    · exact refl t
  have served (t : State) : t.Keeps { t with
      device := .running, restart := none, scrubDue := some (t.now + Config.scrubPeriod) } := ofEq rfl rfl rfl
  have watching (t : State) (now : Nat) : t.Keeps (t.modStations fun st =>
      { st with lines := st.lines.map (LineState.restart now) }) := modStations fun _ => .ofEq rfl rfl rfl rfl
  have low (t : State) : t.Keeps (if t.freeRecords ≤ Config.journalLow then t.post .journalLow 0 else t) := by
    split
    · exact postDevice rfl
    · exact refl t
  have shut (t : State) : t.Keeps (if t.pfail then t.enterShutdown else t) := by
    split
    · exact enterShutdown
    · exact refl t
  have stopped : s.Keeps (allStations.foldl State.restartOffline s) :=
    foldl (f := State.restartOffline) (fun _ i => restartOffline i) allStations s
  unfold State.restartStations
  extract_lets off begun running watched tested posted
  have ready : off.Keeps begun := foldl started allStations off
  exact stopped.trans (ready.trans ((served begun).trans ((watching running running.now).trans
    (testAlarm.trans ((low tested).trans (shut posted))))))

theorem makePiece (r : Restart) (p : Piece) : s.Keeps (s.makePiece r p) := by
  have noted (t : State) (q : Option Restart) : t.Keeps { t with restart := q } := ofEq rfl rfl rfl
  cases p with
  | validity =>
      show s.Keeps (if s.marker then _ else _)
      split
      · exact noted _ _
      · exact loseRetained.trans (noted _ _)
  | endAuthorization i => exact (restartAuthorization i).trans (noted _ _)
  | writeOff i => exact (writeOff i).trans (noted _ _)
  | settle i => exact (restartSettle r i).trans (noted _ _)
  | record => exact (writeRestart _ _).trans (noted _ _)
  | notices => exact (restartNotices r).trans (noted _ _)
  | stations => exact restartStations

theorem restartStep : s.Keeps s.restartStep := by
  unfold State.restartStep
  split
  · exact refl s
  · split
    · exact ofEq rfl rfl rfl
    · exact makePiece _ _

theorem restartSteps : ∀ (n : Nat) (s : State), s.Keeps (State.restartSteps n s)
  | 0, s => refl s
  | n + 1, s => restartStep.trans (restartSteps n s.restartStep)

theorem doRestart (c : RestartCause) (n : Option Nat) : s.Keeps (s.doRestart c n) :=
  (beginRestart c).trans (restartSteps _ _)

theorem replyEnds (n : Option Nat) : s.Keeps (s.replyEnds n) := by
  have ended : s.Keeps { s with reply := none } := ofEq rfl rfl rfl
  unfold State.replyEnds
  split
  · exact refl s
  · split
    · dsimp only
      split
      · exact ended.trans (doRestart _ _)
      · exact ended
    · exact refl s

/-! ### The supply and the time base -/

theorem pfailRises : s.Keeps s.pfailRises := by
  have recognized : s.Keeps { s with pfail := true } := ofEq rfl rfl rfl
  unfold State.pfailRises
  split
  · dsimp only
    split
    · exact recognized.trans enterShutdown
    · exact recognized
  · exact refl s

theorem supplyFails (v : Bool) : s.Keeps (s.supplyFails v) := by
  have absent (t : State) (marker : Bool) : t.Keeps { t with
      mainSupply := false, pfail := false, cameUp := false, marker := marker } := ofEq rfl rfl rfl
  exact loseVolatile.trans (absent _ _)

theorem supplyReturns (n : Option Nat) : s.Keeps (s.supplyReturns n) := by
  have supplied : s.Keeps { s with mainSupply := true, pfail := false, cameUp := s.cameUp || !s.mainSupply } :=
    ofEq rfl rfl rfl
  unfold State.supplyReturns
  dsimp only
  split
  · exact supplied
  · split
    · exact supplied
    · split
      · exact supplied.trans (doRestart _ _)
      · exact supplied

theorem resetAsserts : s.Keeps s.resetAsserts := by
  have asserted (t : State) : t.Keeps { t with resetPin := true } := ofEq rfl rfl rfl
  exact loseVolatile.trans (asserted _)

theorem resetDeasserts (n : Option Nat) : s.Keeps (s.resetDeasserts n) := by
  have released : s.Keeps { s with resetPin := false } := ofEq rfl rfl rfl
  unfold State.resetDeasserts
  dsimp only
  split
  · exact released
  · split
    · split
      · exact released
      · exact released.trans (doRestart _ _)
    · exact released.trans (doRestart _ _)

theorem secondPasses : s.Keeps s.secondPasses := by
  have passed : s.Keeps { s with stamp := wrapInc Config.wrap32 s.stamp, divider := 0 } := ofEq rfl rfl rfl
  unfold State.secondPasses
  split
  · dsimp only
    split
    · exact passed.trans testAlarm
    · exact passed
  · exact refl s

theorem alarmFalls : s.Keeps s.alarmFalls := by
  unfold State.alarmFalls
  split
  · exact testAlarm
  · exact refl s

theorem scrub : s.Keeps s.scrub := by
  unfold State.scrub
  split
  · exact trans (t := { s.reach (s.scrubDue.getD s.now) with
      scrubDue := some ((s.reach (s.scrubDue.getD s.now)).now + Config.scrubPeriod) }) (ofEq rfl rfl rfl)
      ((testedRead _).trans (ofEq rfl rfl rfl))
  · exact refl s

theorem recognize (i : StationId) (n : Line) (l : Bool) : s.Keeps (s.recognize i n l) :=
  ofLocal (.recognize n l) (.recognize n l)

end State.Keeps

end Sys2Proof.Machine
end

section
/-! Every command and every step keep the lists, counts and notices (O55). -/

namespace Sys2Proof.Machine

namespace State.Keeps

variable {s t u : State}

/-- A command whose meaning is the part `u`. -/
theorem ofNext (k : s.Keeps u) (h : (.next u : Host.Outcome State Fault Refusal) = .next t) : s.Keeps t := by
  cases h
  exact k

/-- A request reaches the host line; every other command is an event of the lines, timers, readers or supply. -/
theorem exec {c : Instr} (h : Sys2Proof.Machine.exec c s = .next t) : s.Keeps t := by
  cases code : requestCode c with
  | some kind =>
      rw [exec_request code] at h
      exact ofNext (hostRequest _ _) h
  | none =>
      cases c with
      | hostFrameComplete kind body check => exact ofNext (frameCompletes kind body check) h
      | hostFrameGapTimeout => exact ofNext gapPasses h
      | requestTaken => exact ofNext takeRequest h
      | replySent n => exact ofNext (replyEnds n) h
      | rawLevelChange i m v => exact ofNext (ofLocal (i := i) (.rawChange m v) (.rawChange m v)) h
      | lineLevelRecognized i m v => exact ofNext (recognize i m v) h
      | feed i => exact ofNext (recognize i .feed true) h
      | delivery i => exact ofNext (recognize i .deliver true) h
      | jamRise i => exact ofNext (recognize i .jam true) h
      | jamFall i => exact ofNext (recognize i .jam false) h
      | readyRise i => exact ofNext (recognize i .ready true) h
      | readyFall i => exact ofNext (recognize i .ready false) h
      | stoppedRise i => exact ofNext (recognize i .stopped true) h
      | transitExpiry i => exact ofNext (ofLocal (i := i) .transitExpires .transitExpires) h
      | idleTimerExpiry i k => exact ofNext (ofLocal (i := i) (.idleExpires k) (.idleExpires k)) h
      | authTimerExpiry i => exact ofNext (ofLocal (i := i) .authExpires .authExpires) h
      | pauseAckExpiry i => exact ofNext (ofLocal (i := i) .pauseAckExpires .pauseAckExpires) h
      | purgeWindowExpiry i => exact ofNext (ofLocal (i := i) .purgeExpires .purgeExpires) h
      | scrubVisit => exact ofNext scrub h
      | timeBaseTick => exact ofNext secondPasses h
      | periodAlarmDue => exact ofNext alarmFalls h
      | cardFrame i c => exact ofNext (ofLocal (i := i) (.cardArrives c) (.cardArrives c)) h
      | endFrame i => exact ofNext (ofLocal (i := i) .endArrives .endArrives) h
      | malformedFrame i => exact ofNext (ofLocal (i := i) .malformedArrives .malformedArrives) h
      | readerGapTimeout i => exact ofNext (ofLocal (i := i) .readerGap .readerGap) h
      | indicatorFrameSent i => exact ofNext (ofLocal (i := i) .indicatorSent .indicatorSent) h
      | pfailAsserted => exact ofNext pfailRises h
      | supplyFailure v => exact ofNext (supplyFails v) h
      | supplyReturn n => exact ofNext (supplyReturns n) h
      | resetPinAsserted => exact ofNext resetAsserts h
      | resetPinDeasserted n => exact ofNext (resetDeasserts n) h
      | hostStartByte => exact ofNext startByte h
      | hostBadLengthByte n => exact ofNext (badLength n) h
      | readerStartByte i => exact ofNext (ofLocal (i := i) .readerStart .readerStart) h
      | readerIdleResume i => exact ofNext (ofLocal (i := i) .readerIdle .readerIdle) h
      | _ => exact nomatch code

theorem tick : s.Keeps s.tick := ofEq rfl rfl rfl

/-- With no command waiting the part goes on with a restart, makes the event that is due, or lets time pass. -/
theorem idle (h : s.idle = .next t) : s.Keeps t := by
  unfold State.idle at h
  split at h
  · exact ofNext restartStep h
  · split at h
    · exact exec h
    · exact ofNext tick h

theorem step (h : Sys2Proof.Machine.step s = .next t) : s.Keeps t := by
  unfold Sys2Proof.Machine.step at h
  split at h
  · rename_i c rest _
    exact trans (t := { s with pending := rest }) (ofEq rfl rfl rfl) (exec h)
  · exact idle h

end State.Keeps

/-- Settles O55: every operation keeps each station's lists and counts, the receive queue and the notice set, and a step is
a composition of operations. -/
theorem stepKeepsListsAndNotices : Obligations.StepKeepsListsAndNotices := by
  refine ⟨?_, ?_, ?_⟩
  · rintro s t ⟨stations, queue⟩ h
    have kept := State.Keeps.step h
    refine ⟨fun i => ?_, kept.queue queue⟩
    obtain ⟨path, waiting, listed⟩ := stations i
    exact ⟨(kept.stations i).path path, (kept.stations i).waiting waiting, (kept.stations i).listed listed⟩
  · intro s t counts h i
    exact ((State.Keeps.step h).stations i).counts (counts i)
  · intro s t notices h
    exact (State.Keeps.step h).notices notices

end Sys2Proof.Machine
end

section
/-! Requests that name a station (R27, R28, R36, R37, R46): the part as the owner of the request finds it, and the profile
requests. -/

namespace Sys2Proof.Machine

/-- The part as the owner of a request finds it: the frame has been taken from the line (R164). -/
def State.taken (s : State) : State := { s with hostCondition := .hunting }

theorem State.taken_eq_atStation (s : State) (i : StationId) :
    s.taken = s.taken.atStation i (s.station i) s.notices :=
  (s.taken.atStation_station i).symm

/-- A change of station `i` and of the notices, answered, leaves every other station as it is. -/
theorem State.others_answered (s : State) (i : StationId) (st : Station) (ns : List Notice) (kind : Byte) (a : Answer) :
    ∀ j, j ≠ i → ((s.atStation i st ns).sendReply kind a false).station j = s.station j :=
  fun _ hj => s.station_atStation_of_ne i st ns hj

@[simp] theorem State.station_replied (s : State) (kind status : Byte) (fields : List Byte) (j : StationId) :
    (s.replied kind status fields).station j = s.station j := rfl

/-- The number a host sends for a station is the byte that the replies carry. -/
theorem ofNat_stationNumber {n : Byte} {i : StationId} (h : n.toNat = i.val + 1) :
    BitVec.ofNat 8 (stationNumber i) = n := by
  rw [stationNumber, ← h, BitVec.ofNat_toNat, BitVec.setWidth_eq]

theorem leBytes_stationNumber {n : Byte} {i : StationId} (h : n.toNat = i.val + 1) :
    leBytes 1 (stationNumber i) = [n] := by
  rw [stationNumber, ← h, leBytes_one_toNat]

/-! ### READ-PROFILE -/

/-- The fields of a profile with their codes written out (R35, R188). -/
theorem Profile.bytes_eq (p : Profile) : p.bytes =
    leBytes 1 p.plan ++ leBytes 4 p.presetHold ++ leBytes 4 p.minOpening ++ leBytes 1 p.allowance ++
      [match p.basis with | .worst => (0 : Byte) | .last => 1] ++ leBytes 1 p.walkInRate ++
      leBytes 1 p.transitLimit ++ leBytes 1 p.purgeWindow ++ leBytes 1 p.authTimeout ++
      leBytes 1 p.pauseAck ++ leBytes 1 p.pulseWindow ++ leBytes 1 p.levelWindow ++
      leBytes 1 p.sessionA ++ leBytes 1 p.sessionB ++ leBytes 1 p.idleA ++ leBytes 1 p.idleB ++
      [p.linkCard, p.linkFeed, p.linkDeliver, p.linkReadyRise, p.linkHost].map
        (fun l : TimerId => match l with | .a => (0 : Byte) | .b => 1) ++
      [if p.autoStart then 1 else 0] := by
  have basis : basisCode p.basis = match p.basis with | .worst => (0 : Byte) | .last => 1 := by
    cases p.basis <;> rfl
  have link : linkCode = fun l : TimerId => match l with | .a => (0 : Byte) | .b => 1 := by
    funext l
    cases l <;> rfl
  simp only [Profile.bytes, basis, link, flag, List.map_cons, List.map_nil, List.append_assoc, List.cons_append,
    List.nil_append]

/-- READ-PROFILE answers with the number sent and the profile (R37). -/
theorem exec_readProfile_of_station {s : State} {n : Byte} {i : StationId} (serving : s.Serving)
    (named : n.toNat = i.val + 1) :
    exec (.readProfile n) s = .next (s.replied 0x91 0 (n :: (s.station i).profile.bytes)) := by
  rw [exec_readProfile serving, State.ownReadProfile, stationOf_of_toNat named]
  dsimp only
  rw [leBytes_stationNumber named]
  rfl

/-- Settles O16: the reply is the number sent and the fields of the profile. -/
theorem readProfileFields : Obligations.ReadProfileFields := by
  intro s n serving
  refine ⟨fun out => ?_, ?_⟩
  · rw [exec_readProfile serving, State.ownReadProfile, stationOf_of_out out]
    rfl
  · rintro i named _ rfl
    rw [exec_readProfile_of_station serving named]
    exact congrArg (fun fields => Host.Outcome.next (s.replied 0x91 0 (n :: fields))) (Profile.bytes_eq _)

/-! ### SET-PROFILE -/

/-- A path with sheet `e` at its head, and few enough sheets for the in-doubt count of a record. -/
theorem path_of_cons {path : List Sheet} {e : Sheet} {rest : List Sheet} (h : path = e :: rest) (room : rest.length ≤ 8) :
    path ≠ [] ∧ path.length = rest.length + 1 ∧ path.length ≤ 4294967295 := by
  subst h
  exact ⟨nofun, rfl, by rw [List.length_cons]; omega⟩

@[simp] theorem Lines.get_map (l : Lines) (f : Line → LineState → LineState) (m : Line) :
    (l.map f).get m = f m (l.get m) := by
  cases m <;> rfl

/-- New windows keep the raw and the recognized level of every line, and start the candidate timings of a class afresh
where its window changes (R2, R36). -/
theorem Lines.get_newWindows (l : Lines) (now : Nat) (old new : Profile) (m : Line) :
    (l.newWindows now old new).get m =
      if old.window m = new.window m then l.get m else (l.get m).restartTiming now :=
  l.get_map _ m

theorem Lines.levels_newWindows (l : Lines) (now : Nat) (old new : Profile) (m : Line) :
    ((l.newWindows now old new).get m).raw = (l.get m).raw ∧
      ((l.newWindows now old new).get m).level = (l.get m).level := by
  rw [Lines.get_newWindows]
  split <;> exact ⟨rfl, rfl⟩

theorem Lines.since_newWindows (l : Lines) (now : Nat) (old new : Profile) (m : Line) :
    ((l.newWindows now old new).get m).timing.map Timing.since =
      if old.window m = new.window m then (l.get m).timing.map Timing.since
      else (l.get m).timing.map fun _ => now := by
  rw [Lines.get_newWindows]
  split
  · rfl
  · rw [LineState.restartTiming, Option.map_map]
    rfl

/-- The station with another profile, its windows acting at once (R36). -/
def Station.reprofiled (st : Station) (now : Nat) (new : Profile) : Station :=
  { st with profile := new, lines := st.lines.newWindows now st.profile new }

/-- SET-PROFILE at an OFFLINE station with every field in range (R36): the profile is replaced, and a changed transit
limit that the oldest sheet has reached is a jam (R17; log 25). -/
theorem exec_setProfile_of_valid {s : State} {n : Byte} {i : StationId} {p : ProfileFields} (serving : s.Serving)
    (named : n.toNat = i.val + 1) (off : (s.station i).state = .offline) (valid : profileValid p = true) :
    ∀ t, t = s.taken.atStation i ((s.station i).reprofiled s.now (profileOf p)) s.notices →
      exec (.setProfile n p) s = .next ((if p.transitLimit.toNat ≠ (s.station i).profile.transitLimit ∧ t.transitDue i
        then t.declareJam i .transit else t).sendReply 0x90 (.ok []) false) := by
  rintro _ rfl
  have replaced : s.taken.modStation i (fun st => { st with
      profile := profileOf p, lines := st.lines.newWindows s.now st.profile (profileOf p) }) =
      s.taken.atStation i ((s.station i).reprofiled s.now (profileOf p)) s.notices := rfl
  rw [exec_setProfile serving, ← State.taken, State.ownSetProfile, stationOf_of_toNat named]
  have off' : ¬ (s.taken.station i).state ≠ .offline := fun h => h off
  have valid' : ¬ (!profileValid p) = true := by simp [valid]
  simp only [if_neg off', if_neg valid']
  rw [show s.taken.now = s.now from rfl, replaced]
  exact (apply_ite (fun q : State × Answer => Host.Outcome.next (answered 0x90 false q)) _ _ _).trans
    (apply_ite (fun t : State => Host.Outcome.next (t.sendReply 0x90 (.ok []) false)) _ _ _).symm

/-- The transit timer of a station with sheet `e` at the head of its path. -/
theorem State.transitDue_atStation (s : State) (i : StationId) {st : Station} (ns : List Notice) {e : Sheet}
    {rest : List Sheet} (path : st.path = e :: rest) :
    (s.atStation i st ns).transitDue i = decide (e.fedAt + 1000 * st.profile.transitLimit ≤ s.now) := by
  rw [State.transitDue, State.station_atStation_self, Station.transitExpiry, path]
  rfl

theorem State.transitDue_of_empty (s : State) (i : StationId) {st : Station} (ns : List Notice) (path : st.path = []) :
    (s.atStation i st ns).transitDue i = false := by
  rw [State.transitDue, State.station_atStation_self, Station.transitExpiry, path]
  rfl

/-- SET-PROFILE that finds no sheet past the new limit leaves the path. -/
theorem exec_setProfile_of_early {s : State} {n : Byte} {i : StationId} {p : ProfileFields} (serving : s.Serving)
    (named : n.toNat = i.val + 1) (off : (s.station i).state = .offline) (valid : profileValid p = true)
    (early : (s.taken.atStation i ((s.station i).reprofiled s.now (profileOf p)) s.notices).transitDue i = false) :
    exec (.setProfile n p) s =
      .next ((s.setStation i ((s.station i).reprofiled s.now (profileOf p))).replied 0x90 0 []) := by
  rw [exec_setProfile_of_valid serving named off valid _ rfl, early, if_neg (fun h => Bool.false_ne_true h.2)]
  rfl

/-- Settles O15: an accepted SET-PROFILE replaces profile and windows; a sheet that the new limit has passed is written
off by the jam of an OFFLINE station. -/
theorem setProfileReplaces : Obligations.SetProfileReplaces := by
  refine ⟨?_, ?_, ?_⟩
  · intro s n i p serving named
    refine ⟨fun on => ?_, fun off invalid => ?_, fun off valid path => ?_⟩
    · rw [exec_setProfile serving, ← State.taken, State.ownSetProfile, stationOf_of_toNat named]
      dsimp only
      rw [if_pos (show (s.taken.station i).state ≠ .offline from on)]
      rfl
    · rw [exec_setProfile serving, ← State.taken, State.ownSetProfile, stationOf_of_toNat named]
      dsimp only
      rw [if_neg (fun h : (s.taken.station i).state ≠ .offline => h off), if_pos (by simp [invalid])]
      rfl
    · exact ⟨_, exec_setProfile_of_early serving named off valid (State.transitDue_of_empty _ _ _ path),
        Lines.levels_newWindows _ _ _ _⟩
  · intro s n i p m serving named off valid path
    refine ⟨_, exec_setProfile_of_early serving named off valid (State.transitDue_of_empty _ _ _ path), ?_⟩
    rw [State.station_replied, State.station_setStation_self]
    exact Lines.since_newWindows _ _ _ _ _
  · intro s n i p e rest serving named off session valid path room
    have aimed := s.taken.transitDue_atStation i (st := (s.station i).reprofiled s.now (profileOf p)) s.notices path
    refine ⟨fun early => ?_, fun changed late => ?_⟩
    · exact ⟨_, exec_setProfile_of_early serving named off valid
        (aimed.trans (decide_eq_false (Nat.not_le.mpr early)))⟩
    · have due := aimed.trans (decide_eq_true late)
      obtain ⟨full, count, fits⟩ := path_of_cons path room
      obtain ⟨listed, result⟩ := s.taken.offlineJam_of_none i (st := (s.station i).reprofiled s.now (profileOf p))
        s.notices .transit off full fits session
      rw [exec_setProfile_of_valid serving named off valid _ rfl, if_pos ⟨changed, due⟩, result, ← count]
      refine ⟨_, { (s.station i).newRecord .transit s.stamp (s.station i).path.length listed with
        lost := some (s.station i).path.length }, rfl, ?_⟩
      rw [State.station_sendReply, State.station_atStation_self]
      exact ⟨rfl, off, rfl, rfl, rfl, rfl, rfl, rfl, rfl, rfl, rfl, rfl, rfl, rfl, rfl, rfl,
        s.taken.others_answered i _ _ _ _⟩

end Sys2Proof.Machine
end

section
/-! Jams at a station whose levels do not allow the exit from JAMMED (R34), with an empty path too (R111, R112, R114); and
START-STATION (R27). -/

namespace Sys2Proof.Machine

/-- The exit test changes nothing while JAM is asserted or READY deasserted (R34). -/
theorem State.exitTest_of_closed (s : State) (i : StationId) {st : Station} (ns : List Notice)
    (closed : st.exitOpen = false) : (s.atStation i st ns).exitTest i = s.atStation i st ns := by
  have stays : ¬ (st.state = .jammed ∧ st.lines.jam.level = false ∧ st.lines.ready.level = true) := by
    rintro ⟨-, jam, ready⟩
    simp [Station.exitOpen, jam, ready] at closed
  rw [State.exitTest, State.station_atStation_self, if_neg stays]

/-- A jam that finds the exit closed leaves the station standing in JAMMED. -/
theorem Station.afterJam_of_closed {st : Station} (closed : st.exitOpen = false) (now : Nat) :
    st.afterJam now = { st with state := .jammed } := by
  simp [Station.afterJam, closed]

theorem Station.jamNotices_of_closed {st : Station} (closed : st.exitOpen = false) (i : StationId) (ns : List Notice) :
    st.jamNotices i ns = insertNotice ⟨.jam, i.val + 1⟩ ns := by
  simp [Station.jamNotices, closed]

/-- The station that a jam on its empty path leaves JAMMED (R111): a record with nothing in doubt, no sheet released. -/
def Station.jammedEmpty (st : Station) (cause : JamCause) (stamp : Nat) : Station :=
  { st.jamOpened cause stamp with
    state := .jammed
    session := st.session.map fun x => x.handedOver []
    meters := { st.meters with jammed := st.meters.jammed % 100000000 } }

/-- A hand-over of an empty path puts nothing in doubt. -/
theorem Station.handOver_jamOpened_of_empty {st : Station} (path : st.path = []) (cause : JamCause) (stamp : Nat) :
    (st.jamOpened cause stamp).handOver = { st.jammedEmpty cause stamp with state := st.state } := by
  cases st
  cases path
  rfl

/-- A jam with an empty path at a station in service that is not JAMMED: no pause is evaluated (R111, R112; log 24). -/
theorem State.declareJam_of_empty (s : State) (i : StationId) {st : Station} (ns : List Notice) (cause : JamCause)
    (state : st.state = .ready ∨ st.state = .notReady ∨ st.state = .save) (path : st.path = [])
    (closed : st.exitOpen = false) :
    (s.atStation i st ns).declareJam i cause =
      s.atStation i (st.jammedEmpty cause s.stamp) (insertNotice ⟨.jam, i.val + 1⟩ ns) := by
  have new : (s.atStation i st ns).declareJam i cause = (s.atStation i st ns).declareNew i cause := by
    rcases state with h | h | h <;> simp only [State.declareJam, State.station_atStation_self, h]
  have handed : (s.atStation i (st.jamOpened cause s.stamp) ns).handOver i =
      s.atStation i { st.jammedEmpty cause s.stamp with state := st.state } ns := by
    rw [State.handOver, State.station_atStation_self, Station.path_jamOpened, if_pos path, State.modStation_atStation,
      Station.handOver_jamOpened_of_empty path]
  have exit : (st.jammedEmpty cause s.stamp).exitOpen = false := closed
  rw [new, State.declareNew, State.station_atStation_self, State.openJam_atStation, handed, State.enterState_atStation,
    State.reportIfEmptied, if_pos path]
  exact s.exitTest_of_closed i _ exit

/-- A fold at a JAMMED or RECOVER station without a session, with the exit closed (R114). -/
theorem State.foldJam_of_closed (s : State) (i : StationId) {st : Station} (ns : List Notice) (cause : JamCause)
    {r : JamRecord} (state : st.state = .jammed ∨ st.state = .recover) (jam : st.jam = some r)
    (fits : r.inDoubt + st.path.length ≤ 4294967295) (closed : st.exitOpen = false) (session : st.session = none) :
    ∃ listed, (s.atStation i st ns).declareJam i cause =
      s.atStation i { st.folded r listed with state := .jammed } (insertNotice ⟨.jam, i.val + 1⟩ ns) := by
  obtain ⟨listed, absorbed⟩ := st.jam_handOver jam fits
  refine ⟨listed, ?_⟩
  have fold : (s.atStation i st ns).declareJam i cause = (s.atStation i st ns).foldJam i := by
    rcases state with h | h <;> simp only [State.declareJam, State.station_atStation_self, h]
  have handed := s.handOver_atStation i ns fun x h => (Station.idle_of_none session x h).1
  have counted : (s.atStation i st.handOver ns).modStation i (fun st => { st with
      jam := st.jam.map fun r => { r with repeats := satAdd 255 r.repeats 1 }
      purgeTimer := none }) = s.atStation i (st.folded r listed) ns := by
    rw [State.modStation_atStation, absorbed]
    rfl
  have exit : ({ st.folded r listed with state := .jammed } : Station).exitOpen = false := closed
  have report : (s.atStation i { st.folded r listed with state := .jammed }
      (insertNotice ⟨.jam, i.val + 1⟩ ns)).emptyPathReport i =
      s.atStation i { st.folded r listed with state := .jammed } (insertNotice ⟨.jam, i.val + 1⟩ ns) :=
    State.emptyPathReport_of_open (State.quietTest_of_not_ready (by rw [State.station_atStation_self]; nofun))
      (by rw [State.station_atStation_self]; simp [Station.session_handOver_none session])
  rw [fold, State.foldJam, handed, counted, State.enterState_atStation, changeNotice, if_pos rfl,
    s.exitTest_of_closed i _ exit, State.reportIfEmptied, report, ite_self]

/-! ### START-STATION -/

/-- The station as R27 starts it, before a jam. -/
def Station.started (st : Station) (now : Nat) : Station :=
  { st with
    state := if st.lines.ready.level then .ready else .notReady
    timerA := loadedTimer now (st.duration .a)
    timerB := loadedTimer now (st.duration .b) }

theorem State.startStation_atStation (s : State) (i : StationId) {st : Station} (ns : List Notice)
    (off : st.state = .offline) :
    (s.atStation i st ns).startStation i =
      (if st.lines.jam.level then
        (s.atStation i (st.started s.now) (insertNotice ⟨.stationChange, i.val + 1⟩ ns)).declareJam i .line
      else s.atStation i (st.started s.now) (insertNotice ⟨.stationChange, i.val + 1⟩ ns)).endEvent i .offline := by
  have notice : changeNotice st.state (if st.lines.ready.level then .ready else .notReady) = .stationChange := by
    rw [off]
    cases st.lines.ready.level <;> rfl
  simp only [State.startStation, State.station_atStation_self, State.enterState_atStation, State.reloadBoth_atStation,
    notice]
  rfl

/-- A station just started has reloaded both timers, so its event ends with no quiet test. -/
theorem State.endEvent_started (s : State) (i : StationId) (st : Station) (ns : List Notice) (before : StationState) :
    (s.atStation i (st.started s.now) ns).endEvent i before = s.atStation i (st.started s.now) ns :=
  State.endEvent_of_loaded rfl rfl before

/-- START-STATION at an OFFLINE station is answered with the state in which the start leaves it. -/
theorem exec_startStation_of_offline {s : State} {n : Byte} {i : StationId} (serving : s.Serving)
    (named : n.toNat = i.val + 1) (off : (s.station i).state = .offline) :
    ∀ t, t = (s.taken.atStation i (s.station i) s.notices).startStation i →
      exec (.startStation n) s = .next (t.sendReply 0x92 (.ok [stationCode (t.station i).state]) false) := by
  rintro _ rfl
  rw [exec_startStation serving, ← State.taken, State.ownStartStation, stationOf_of_toNat named,
    ← s.taken_eq_atStation i]
  dsimp only
  rw [if_neg (fun h : (s.taken.station i).state ≠ .offline => h off)]

/-- Settles O17: a start loads both timers and, with JAM asserted, declares a jam on the empty path. -/
theorem startStationStarts : Obligations.StartStationStarts := by
  refine ⟨?_, ?_⟩
  · intro s n i serving named
    refine ⟨fun on => ?_, fun off session jam => ?_⟩
    · rw [exec_startStation serving, ← State.taken, State.ownStartStation, stationOf_of_toNat named]
      dsimp only
      rw [if_pos (show (s.taken.station i).state ≠ .offline from on)]
      rfl
    · have started := s.taken.startStation_atStation i s.notices off
      rw [jam, if_neg Bool.false_ne_true, State.endEvent_started] at started
      have durations : (s.station i).duration .a = codeSeconds (s.station i).profile.idleA ∧
          (s.station i).duration .b = codeSeconds (s.station i).profile.idleB := by
        simp only [Station.duration, session, and_self]
      rw [exec_startStation_of_offline serving named off _ rfl, started, State.station_atStation_self]
      simp only [Station.started, durations]
      cases (s.station i).lines.ready.level <;> rfl
  · intro s n i serving named off session path jam
    have closed : ((s.station i).started s.now).exitOpen = false := by
      show (!(s.station i).lines.jam.level && _) = false
      rw [jam]
      rfl
    have working : ((s.station i).started s.now).state = .ready ∨ ((s.station i).started s.now).state = .notReady ∨
        ((s.station i).started s.now).state = .save := by
      unfold Station.started
      dsimp only
      split
      · exact .inl rfl
      · exact .inr (.inl rfl)
    have jammed := s.taken.declareJam_of_empty i (st := (s.station i).started s.now)
      (insertNotice ⟨.stationChange, i.val + 1⟩ s.notices) .line working path closed
    have started := s.taken.startStation_atStation i s.notices off
    rw [jam, if_pos rfl, show s.taken.now = s.now from rfl, jammed, State.endEvent_of_not_ready (by
      rw [State.station_atStation_self]
      nofun)] at started
    rw [exec_startStation_of_offline serving named off _ rfl, started]
    refine ⟨_, (s.station i).newRecord .line s.stamp 0 [], rfl, ?_⟩
    rw [State.station_sendReply, State.station_atStation_self]
    exact ⟨rfl, rfl, rfl, rfl, s.taken.others_answered i _ _ _ _, rfl, rfl⟩

end Sys2Proof.Machine
end

section
/-! STOP-STATION by the session at the station (R28, R29, R58) and WAKE-STATION (R46, R40, R45). -/

namespace Sys2Proof.Machine

/-- READY, NOT-READY and SAVE are none of the other station states. -/
theorem StationState.ne_of_working {state : StationState}
    (h : state = .ready ∨ state = .notReady ∨ state = .save) :
    state ≠ .offline ∧ state ≠ .jammed ∧ state ≠ .recover := by
  rcases h with rfl | rfl | rfl <;> decide

/-! ### Entering OFFLINE (R29) -/

/-- Leaving service closes an OPEN record and stops the idle timers; the rest of the station stays. -/
theorem Station.leaveService_kept (st : Station) : st.leaveService.state = st.state ∧
    st.leaveService.session = st.session ∧ st.leaveService.authTimer = st.authTimer ∧
    st.leaveService.reader = st.reader := by
  unfold Station.leaveService Station.stopIdle Station.closeJam
  split
  · split
    · exact ⟨rfl, rfl, rfl, rfl⟩
    · split <;> exact ⟨rfl, rfl, rfl, rfl⟩
  · exact ⟨rfl, rfl, rfl, rfl⟩

/-- A station that has no OPEN record to close stops its idle timers only. -/
theorem Station.leaveService_of_clear {st : Station}
    (state : st.state = .ready ∨ st.state = .notReady ∨ st.state = .save) :
    st.leaveService = { st with timerA := .stopped, timerB := .stopped } := by
  obtain ⟨-, jammed, recover⟩ := StationState.ne_of_working state
  rw [Station.leaveService, if_neg (not_or.mpr ⟨jammed, recover⟩)]
  rfl

theorem State.enterOffline_atStation (s : State) (i : StationId) (st : Station) (ns : List Notice) :
    (s.atStation i st ns).enterOffline i = s.atStation i { st.leaveService with state := .offline }
      (insertNotice ⟨changeNotice st.state .offline, i.val + 1⟩ ns) := by
  obtain ⟨state, -⟩ := st.leaveService_kept
  rw [State.enterOffline, State.modStation_atStation, State.enterState_atStation, state]

/-! ### Close requests (R67) -/

/-- A close request at a copying session makes it CLOSING, and settles it where the path is empty. -/
theorem State.closeRequest_of_copying (s : State) (i : StationId) {st : Station} (ns : List Notice) {x : Session}
    (session : st.session = some x) (copying : x.copying = true) (reason : CloseReason) :
    ∀ t, t = s.atStation i { st with session := some { x with phase := .closing reason }, pauseTimer := none } ns →
      (s.atStation i st ns).closeRequest i reason =
        if st.path = [] then t.settleInService i { x with phase := .closing reason } reason else t := by
  rintro _ rfl
  simp only [State.closeRequest, State.station_atStation_self, session, copying, if_true, State.modStation_atStation]

/-- A close request at a session that does not copy does nothing. -/
theorem State.closeRequest_of_not_copying (s : State) (i : StationId) {st : Station} (ns : List Notice) {x : Session}
    (session : st.session = some x) (idle : x.copying = false) (reason : CloseReason) :
    (s.atStation i st ns).closeRequest i reason = s.atStation i st ns := by
  simp only [State.closeRequest, State.station_atStation_self, session, idle, Bool.false_eq_true, if_false]

/-- The session states exclude each other. -/
theorem Session.authorizing_of_copying {x : Session} (copying : x.copying = true) : x.authorizing = false := by
  cases phase : x.phase <;> simp_all [Session.copying, Session.authorizing]

theorem Session.idle_of_closing {x : Session} (closing : x.closing = true) :
    x.authorizing = false ∧ x.copying = false := by
  cases phase : x.phase <;> simp_all [Session.closing, Session.authorizing, Session.copying, Phase.closeReason]

/-! ### STOP-STATION -/

/-- STOP-STATION at a station in service is answered with whether a session is still there (R28). -/
theorem exec_stopStation_of_service {s : State} {n : Byte} {i : StationId} (serving : s.Serving)
    (named : n.toNat = i.val + 1) (on : (s.station i).state ≠ .offline) :
    ∀ t, t = (s.taken.atStation i (s.station i) s.notices).stopStation i →
      exec (.stopStation n) s = .next (t.sendReply 0x93 (.ok [flag (t.station i).session.isSome]) false) := by
  rintro _ rfl
  rw [exec_stopStation serving, ← State.taken, State.ownStopStation, stationOf_of_toNat named,
    ← s.taken_eq_atStation i]
  dsimp only
  rw [if_neg (show ¬ (s.taken.station i).state = .offline from on)]

/-- A stop at a station without a session takes it OFFLINE. -/
theorem State.stopStation_of_none (s : State) (i : StationId) {st : Station} (ns : List Notice)
    (session : st.session = none) :
    (s.atStation i st ns).stopStation i = s.atStation i { st.leaveService with state := .offline }
      (insertNotice ⟨changeNotice st.state .offline, i.val + 1⟩ ns) := by
  rw [State.stopStation, State.station_atStation_self, session]
  exact s.enterOffline_atStation i st ns

/-- The station whose AUTHORIZING session a stop has ended without a record (R58). -/
def Station.unauthorized (st : Station) : Station :=
  { st with session := none, authTimer := none, reader := st.reader.produce (.closed 0) }

/-- The end of a session without a record gives its reservation up (R58). -/
theorem State.endWithoutRecord_atStation (s : State) (i : StationId) (st : Station) (ns : List Notice) :
    (s.atStation i st ns).endWithoutRecord i =
      s.unreserve.atStation i { st with session := none, authTimer := none } ns :=
  s.unreserve.modStation_atStation i st ns _

theorem State.stopStation_of_authorizing (s : State) (i : StationId) {st : Station} (ns : List Notice) {x : Session}
    (session : st.session = some x) (authorizing : x.authorizing = true) :
    (s.atStation i st ns).stopStation i = s.unreserve.atStation i { st.unauthorized.leaveService with state := .offline }
      (insertNotice ⟨changeNotice st.state .offline, i.val + 1⟩ ns) := by
  simp only [State.stopStation, State.station_atStation_self, session, authorizing, if_true,
    State.endWithoutRecord_atStation, State.indicate_atStation, State.enterOffline_atStation]
  rfl

@[simp] theorem State.journal_unreserve (s : State) : s.unreserve.journal = s.journal := rfl
@[simp] theorem State.slots_unreserve (s : State) : s.unreserve.slots = s.slots := rfl
@[simp] theorem State.journal_taken (s : State) : s.taken.journal = s.journal := rfl
@[simp] theorem State.slots_journaled (s : State) (q : SettleRecord) : (s.journaled q).slots = s.slots := rfl
@[simp] theorem State.slots_taken (s : State) : s.taken.slots = s.slots := rfl

/-- A stop at a session that is not AUTHORIZING marks it and requests its close. -/
theorem State.stopStation_of_session (s : State) (i : StationId) {st : Station} (ns : List Notice) {x : Session}
    (session : st.session = some x) (known : x.authorizing = false) :
    (s.atStation i st ns).stopStation i =
      (s.atStation i { st with session := some { x with stopPending := true } } ns).closeRequest i .host := by
  simp only [State.stopStation, State.station_atStation_self, session, known, Bool.false_eq_true, if_false,
    State.modSession, State.modStation_atStation, Option.map_some]

/-- The notice of a station that leaves service for OFFLINE (R26). -/
theorem changeNotice_offline {old : StationState} (known : old ≠ .recover) :
    changeNotice old .offline = .stationChange := by
  rw [changeNotice, if_neg nofun, if_neg (fun h => known h.1)]

/-! ### WAKE-STATION -/

theorem exec_wakeStation_of_service {s : State} {n : Byte} {i : StationId} (serving : s.Serving)
    (named : n.toNat = i.val + 1) (on : (s.station i).state ≠ .offline) :
    ∀ t, t = (s.taken.atStation i (s.station i) s.notices).wakeStation i →
      exec (.wakeStation n) s = .next (t.sendReply 0x94 (.ok [stationCode (t.station i).state]) false) := by
  rintro _ rfl
  rw [exec_wakeStation serving, ← State.taken, State.ownWakeStation, stationOf_of_toNat named,
    ← s.taken_eq_atStation i]
  dsimp only
  rw [if_neg (show ¬ (s.taken.station i).state = .offline from on)]

/-- A station whose linked timer an activity has just reloaded is not quiet (R40, R42). -/
theorem Station.not_quiet_reloaded {st : Station} {link : TimerId} {d : Nat} (off : st.state ≠ .offline)
    (duration : st.duration link = some d) (now : Nat) : (st.reloaded now link).quiet = false :=
  Station.not_quiet_of_linked off (fun _ => rfl) rfl rfl (.inr ⟨d, duration⟩)

/-- A wake that reloads a timer, of a station that is not in SAVE. -/
theorem State.wakeStation_of_awake (s : State) (i : StationId) {st : Station} (ns : List Notice) {d : Nat}
    (off : st.state ≠ .offline) (save : st.state ≠ .save) (duration : st.duration st.profile.linkHost = some d) :
    (s.atStation i st ns).wakeStation i =
      s.atStation i (st.setTimer st.profile.linkHost (.running (s.now + 1000 * d))) ns := by
  rw [State.wakeStation, State.station_atStation_self, s.activity_atStation i ns _ save,
    Station.reloaded_of_duration off duration, State.endEvent_of_same (by simp)]

/-- A wake that reloads a timer, of a station in SAVE. -/
theorem State.wakeStation_of_save (s : State) (i : StationId) {st : Station} (ns : List Notice) {d : Nat}
    (save : st.state = .save) (duration : st.duration st.profile.linkHost = some d) :
    (s.atStation i st ns).wakeStation i =
      s.atStation i (({ st with state := .ready } : Station).setTimer st.profile.linkHost (.running (s.now + 1000 * d)))
        (insertNotice ⟨.stationChange, i.val + 1⟩ ns) := by
  have duration' : ({ st with state := .ready } : Station).duration st.profile.linkHost = some d := duration
  have awake : ({ st with state := .ready } : Station).state ≠ .offline := nofun
  rw [State.wakeStation, State.station_atStation_self, s.activity_atStation_save i ns _ save,
    State.endEvent_of_not_quiet (by
      rw [State.station_atStation_self]
      exact Station.not_quiet_reloaded awake duration' s.now), Station.reloaded_of_duration awake duration']

/-! ### What each request leaves -/

section Requests

variable {s : State} {n : Byte} {i : StationId}

theorem exec_stopStation_of_offline (serving : s.Serving) (named : n.toNat = i.val + 1)
    (off : (s.station i).state = .offline) : exec (.stopStation n) s = .next (s.replied 0x93 6 []) := by
  rw [exec_stopStation serving, ← State.taken, State.ownStopStation, stationOf_of_toNat named]
  dsimp only
  rw [if_pos (show (s.taken.station i).state = .offline from off)]
  rfl

theorem exec_stopStation_of_none (serving : s.Serving) (named : n.toNat = i.val + 1)
    (on : (s.station i).state ≠ .offline) (session : (s.station i).session = none) :
    exec (.stopStation n) s = .next ((s.taken.atStation i { (s.station i).leaveService with state := .offline }
      (insertNotice ⟨changeNotice (s.station i).state .offline, i.val + 1⟩ s.notices)).sendReply 0x93 (.ok [0]) false) := by
  obtain ⟨-, none, -⟩ := (s.station i).leaveService_kept
  rw [exec_stopStation_of_service serving named on _ rfl, s.taken.stopStation_of_none i s.notices session,
    State.station_atStation_self]
  dsimp only
  rw [none, session]
  rfl

theorem exec_stopStation_of_authorizing {x : Session} (serving : s.Serving) (named : n.toNat = i.val + 1)
    (on : (s.station i).state ≠ .offline) (session : (s.station i).session = some x) (authorizing : x.authorizing = true) :
    exec (.stopStation n) s = .next ((s.taken.unreserve.atStation i
      { (s.station i).unauthorized.leaveService with state := .offline }
      (insertNotice ⟨changeNotice (s.station i).state .offline, i.val + 1⟩ s.notices)).sendReply 0x93 (.ok [0]) false) := by
  obtain ⟨-, none, -⟩ := (s.station i).unauthorized.leaveService_kept
  rw [exec_stopStation_of_service serving named on _ rfl,
    s.taken.stopStation_of_authorizing i s.notices session authorizing, State.station_atStation_self]
  dsimp only
  rw [none]
  rfl

theorem exec_stopStation_of_copying {x : Session} (serving : s.Serving) (named : n.toNat = i.val + 1)
    (on : (s.station i).state ≠ .offline) (session : (s.station i).session = some x) (copying : x.copying = true)
    (path : (s.station i).path ≠ []) :
    exec (.stopStation n) s = .next ((s.setStation i { s.station i with
      session := some { x with phase := .closing .host, stopPending := true }, pauseTimer := none }).replied
        0x93 0 [1]) := by
  have stopped := s.taken.stopStation_of_session i s.notices session (Session.authorizing_of_copying copying)
  rw [s.taken.closeRequest_of_copying i (st := { s.station i with session := some { x with stopPending := true } })
    s.notices (x := { x with stopPending := true }) rfl copying .host _ rfl, if_neg path] at stopped
  rw [exec_stopStation_of_service serving named on _ rfl, stopped, State.station_atStation_self]
  rfl

theorem exec_stopStation_of_closing {x : Session} (serving : s.Serving) (named : n.toNat = i.val + 1)
    (on : (s.station i).state ≠ .offline) (session : (s.station i).session = some x) (closing : x.closing = true) :
    exec (.stopStation n) s = .next ((s.setStation i { s.station i with
      session := some { x with stopPending := true } }).replied 0x93 0 [1]) := by
  obtain ⟨known, idle⟩ := Session.idle_of_closing closing
  have stopped := s.taken.stopStation_of_session i s.notices session known
  rw [s.taken.closeRequest_of_not_copying i (st := { s.station i with session := some { x with stopPending := true } })
    s.notices (x := { x with stopPending := true }) rfl idle .host] at stopped
  rw [exec_stopStation_of_service serving named on _ rfl, stopped, State.station_atStation_self]
  rfl

/-- A stop at a copying COUNTER session whose station's path is empty settles it at once (R67, R72). -/
theorem exec_stopStation_settled {x y : Session} {ref : Nat} (serving : s.Serving) (named : n.toNat = i.val + 1)
    (session : (s.station i).session = some x) (copying : x.copying = true) (path : (s.station i).path = [])
    (payment : x.payment = .counter ref) (state : (s.station i).state = .ready ∨ (s.station i).state = .notReady)
    (closed : y = { x with stopPending := true, phase := .closing .host }) :
    exec (.stopStation n) s = .next (((s.taken.journaled (s.counterRecord i y .host)).atStation i
      { s.station i with
        session := none, pauseTimer := none, state := .offline, timerA := .stopped, timerB := .stopped
        reader := (s.station i).reader.produce (.closed ((x.charged + 5) / 10)) }
      (insertNotice ⟨.stationChange, i.val + 1⟩ (insertNotice ⟨.sessionClosed, i.val + 1⟩ s.notices))).sendReply
        0x93 (.ok [0]) false) := by
  obtain ⟨on, -, known⟩ := StationState.ne_of_working (state.imp_right .inl)
  have stopped := s.taken.stopStation_of_session i s.notices session (Session.authorizing_of_copying copying)
  rw [s.taken.closeRequest_of_copying i (st := { s.station i with session := some { x with stopPending := true } })
    s.notices (x := { x with stopPending := true }) rfl copying .host _ rfl, if_pos path, ← closed,
    s.taken.settleInService_of_stopPending i _ _ (x := y) (ref := ref) (by rw [closed]; exact payment) (by rw [closed]),
    Station.leaveService_of_working (by exact state), changeNotice_offline (by exact known)] at stopped
  rw [exec_stopStation_of_service serving named on _ rfl, stopped, State.station_atStation_self]
  subst closed
  rfl

end Requests

/-- Settles O18: a stop by the session at the station, a wake by the linked timer and the station state. -/
theorem stopAndWakeStation : Obligations.StopAndWakeStation := by
  refine ⟨?_, ?_, ?_⟩
  · intro s n i serving named
    refine ⟨exec_stopStation_of_offline serving named, fun session state => ?_, fun x session on authorizing => ?_,
      fun x session on copying path => exec_stopStation_of_copying serving named on session copying path,
      fun x session on closing => exec_stopStation_of_closing serving named on session closing⟩
    · obtain ⟨on, -, known⟩ := StationState.ne_of_working state
      rw [exec_stopStation_of_none serving named on session, Station.leaveService_of_clear state,
        changeNotice_offline known]
      rfl
    · obtain ⟨-, none, timer, reader⟩ := (s.station i).unauthorized.leaveService_kept
      refine ⟨_, exec_stopStation_of_authorizing serving named on session authorizing, ?_⟩
      rw [State.station_sendReply, State.station_atStation_self]
      exact ⟨none, rfl, timer, rfl, by simp, by simp, reader, rfl⟩
  · intro s n i serving named
    refine ⟨fun r session jam lost state => ?_, fun x ref session copying path payment state => ?_⟩
    · have on : (s.station i).state ≠ .offline := by rcases state with h | h <;> rw [h] <;> nofun
      have notice : changeNotice (s.station i).state .offline =
          if (s.station i).state = .recover then .recovered else .stationChange := by
        rcases state with h | h <;> rw [h] <;> rfl
      rw [exec_stopStation_of_none serving named on session, Station.leaveService_of_jam state jam lost, notice]
      rfl
    · refine ⟨_, s.counterRecord i { x with stopPending := true, phase := .closing .host } .host,
        exec_stopStation_settled serving named session copying path payment state rfl, ?_⟩
      rw [State.station_sendReply, State.station_atStation_self]
      exact ⟨rfl, rfl, rfl, rfl, rfl, rfl, rfl, rfl, rfl, rfl, rfl, rfl, by simp,
        (s.taken.journaled _).others_answered i _ _ _ _⟩
  · intro s n i serving named
    refine ⟨fun off => ?_, fun d on save duration => ?_, fun d save duration => ?_⟩
    · rw [exec_wakeStation serving, ← State.taken, State.ownWakeStation, stationOf_of_toNat named]
      dsimp only
      rw [if_pos (show (s.taken.station i).state = .offline from off)]
      rfl
    · rw [exec_wakeStation_of_service serving named on _ rfl,
        s.taken.wakeStation_of_awake i s.notices on save duration, State.station_atStation_self,
        Station.state_setTimer]
      rfl
    · have on : (s.station i).state ≠ .offline := by rw [save]; nofun
      rw [exec_wakeStation_of_service serving named on _ rfl,
        s.taken.wakeStation_of_save i s.notices save duration, State.station_atStation_self,
        Station.state_setTimer]
      rfl

end Sys2Proof.Machine
end

section
/-! The reports of a station (R38, R123, R74): READ-STATION, READ-JAM and READ-SESSION, field by field. -/

namespace Sys2Proof.Machine

/-! ### The requests -/

section Requests

variable {s : State} {n : Byte} {i : StationId}

theorem exec_readStation_of_station (serving : s.Serving) (named : n.toNat = i.val + 1) :
    exec (.readStation n) s = .next (s.replied 0x95 0 (s.stationBytes i)) := by
  have same : s.taken.stationBytes i = s.stationBytes i := rfl
  rw [exec_readStation serving, ← State.taken, State.ownReadStation, stationOf_of_toNat named]
  dsimp only
  rw [same]
  rfl

theorem exec_readJam_of_record {r : JamRecord} (serving : s.Serving) (named : n.toNat = i.val + 1)
    (jam : (s.station i).jam = some r) :
    exec (.readJam n) s = .next (s.replied 0x96 0 (s.jamBytes i r)) := by
  have same : s.taken.jamBytes i r = s.jamBytes i r := rfl
  have found : (s.taken.station i).jam = some r := jam
  rw [exec_readJam serving, ← State.taken, State.ownReadJam, stationOf_of_toNat named]
  dsimp only
  rw [found]
  dsimp only
  rw [same]
  rfl

theorem exec_readJam_of_none (serving : s.Serving) (named : n.toNat = i.val + 1) (jam : (s.station i).jam = none) :
    exec (.readJam n) s = .next (s.replied 0x96 7 []) := by
  have missing : (s.taken.station i).jam = none := jam
  rw [exec_readJam serving, ← State.taken, State.ownReadJam, stationOf_of_toNat named]
  dsimp only
  rw [missing]
  rfl

theorem exec_readSession_of_station (serving : s.Serving) (named : n.toNat = i.val + 1) :
    exec (.readSession n) s = .next (s.replied 0xA2 0 (summaryBytes i (s.station i).session)) := by
  rw [exec_readSession serving, ← State.taken, State.ownReadSession, stationOf_of_toNat named]
  rfl

end Requests

/-! ### READ-STATION -/

/-- A part that serves a request drives the copier outputs (R25). -/
theorem State.driven_of_serving {s : State} (serving : s.Serving) : s.driven = true := by
  obtain ⟨⟨alive, -⟩, running⟩ := serving
  simp only [State.alive, Bool.and_eq_true] at alive
  obtain ⟨⟨⟨supply, pin⟩, -⟩, -⟩ := alive
  simp only [State.driven, supply, pin, running, decide_true, Bool.and_self]

/-- The copier outputs of a station whose session is not suspended (R25). -/
theorem State.outputs_of_session {s : State} {i : StationId} {x : Session} (driven : s.driven = true)
    (session : (s.station i).session = some x) (here : x.suspended = false) :
    s.permit i = decide ((s.station i).state = .ready ∧
        (x.phase = .active ∨ x.phase = .holding ∨ (x.phase = .held ∧ x.forced = false))) ∧
      s.pause i = decide (x.phase = .holding ∨ x.phase = .held) := by
  simp only [State.permit, State.pause, driven, session, here, Bool.not_false, Bool.true_and, Bool.decide_and,
    Bool.decide_or, Bool.or_assoc, and_true]
  cases x.forced <;> rfl

theorem State.outputs_of_none {s : State} {i : StationId} (session : (s.station i).session = none) :
    s.permit i = false ∧ s.pause i = false := by
  simp [State.permit, State.pause, session]

theorem State.save_of_driven {s : State} (driven : s.driven = true) (i : StationId) :
    s.save i = decide ((s.station i).state = .save) := by
  rw [State.save, driven, Bool.true_and]

/-- The session's part of the report, behind one presence byte (log 22). -/
theorem sessionState_append (session : Option Session) (rest : List Byte) :
    sessionState session ++ (optional session (fun x => leBytes 4 x.serial ++ [flag x.stopPending]) ++ rest) =
      (match session with
        | none => [(0 : Byte), 0]
        | some x => (if x.suspended then [6, phaseCode x.phase] else [phaseCode x.phase]) ++
            1 :: (leBytes 4 x.serial ++ [if x.stopPending then (1 : Byte) else 0])) ++ rest := by
  rw [← List.append_assoc]
  cases session <;> rfl

/-- A timer's status with its seconds (R38, R188). -/
theorem timerBytes_eq (now : Nat) (t : IdleTimer) : timerBytes now t =
    match t with
    | .stopped => [(0 : Byte), 0]
    | .running expiry => (1 : Byte) :: 1 :: leBytes 2 ((expiry - now + 999) / 1000)
    | .expired => [(2 : Byte), 0] := by
  cases t <;> rfl

/-- The durations of the idle timers by whether a session is there (R39). -/
theorem Station.durations_eq (st : Station) :
    st.duration .a = codeSeconds (if st.session = none then st.profile.idleA else st.profile.sessionA) ∧
      st.duration .b = codeSeconds (if st.session = none then st.profile.idleB else st.profile.sessionB) := by
  cases session : st.session <;> simp [Station.duration, session]

/-- Quiet in the words of R42: some duration is there, and each timer that has one is EXPIRED. -/
theorem Station.flag_quiet (st : Station) : flag st.quiet =
    if (st.duration .a ≠ none ∨ st.duration .b ≠ none) ∧ (st.duration .a ≠ none → st.timerA = .expired) ∧
      (st.duration .b ≠ none → st.timerB = .expired) then (1 : Byte) else 0 := by
  unfold flag Station.quiet
  cases st.duration .a <;> cases st.duration .b <;> simp

/-- A listed sheet, each optional field behind its presence byte (R23, R123). -/
theorem sheetBytes_eq (number : Nat) (kind : Kind) (coverage : Coverage) (serial : Option Nat) :
    sheetBytes number kind coverage serial = leBytes 2 number ++ [BitVec.ofNat 8 kind.val] ++
      (match coverage with
        | .covered p => (1 : Byte) :: 1 :: leBytes 2 p
        | .uncovered p => (2 : Byte) :: 1 :: leBytes 2 p
        | .unpermitted => [(3 : Byte), 0]) ++
      (match serial with | none => [(0 : Byte)] | some k => (1 : Byte) :: leBytes 4 k) := by
  cases coverage <;> cases serial <;> simp [sheetBytes, coverageCode, coveragePrice, optional]

/-- The state of a jam record (R188). -/
theorem jamStateCode_eq (r : JamRecord) : jamStateCode r = if r.lost = none then 1 else 2 := by
  cases lost : r.lost <;> simp [jamStateCode, lost]

theorem optional_lastRefusal (refusal : Option LastRefusal) :
    optional refusal (fun r => [refuseCode r.reason, classCode r.card] ++ leBytes 4 r.stamp) =
      match refusal with
      | none => [(0 : Byte)]
      | some r => (1 : Byte) :: refuseCode r.reason :: classCode r.card :: leBytes 4 r.stamp := by
  cases refusal <;> rfl

theorem optional_jam (jam : Option JamRecord) :
    optional jam (fun r => leBytes 2 r.serial ++ [jamStateCode r]) =
      match jam with
      | none => [(0 : Byte)]
      | some r => (1 : Byte) :: (leBytes 2 r.serial ++ [if r.lost = none then (1 : Byte) else 2]) := by
  cases jam with
  | none => rfl
  | some r => rw [optional, jamStateCode_eq]

/-- The oldest sheet's age (R38). -/
theorem optional_head? (path : List Sheet) (now : Nat) : optional path.head? (fun e => leBytes 4 (now - e.fedAt)) =
    match path with
    | [] => [(0 : Byte)]
    | e :: _ => (1 : Byte) :: leBytes 4 (now - e.fedAt) := by
  cases path <;> rfl

/-! ### READ-JAM -/

/-- The lost count of a CLOSED record, and the purge window of an OPEN one (R123; log 22). -/
theorem jamEnd_append (r : JamRecord) (st : Station) (now : Nat) (rest : List Byte) :
    optional r.lost (leBytes 4) ++
      (optional (if r.lost.isNone then some st.purgeStatus else none) (timerBytes now) ++ rest) =
      (match r.lost, st.purgeTimer with
        | some lost, _ => (1 : Byte) :: (leBytes 4 lost ++ [0])
        | none, none => [(0 : Byte), 1, 0, 0]
        | none, some t => [(0 : Byte), 1, 1, 1] ++ leBytes 2 ((t - now + 999) / 1000)) ++ rest := by
  rw [← List.append_assoc]
  cases r.lost with
  | some lost => rfl
  | none => cases timer : st.purgeTimer <;> simp [Station.purgeStatus, timer, optional, timerBytes, timerCode,
      IdleTimer.expiry, secondsLeft]

/-! ### READ-SESSION -/

/-- The fields of a summary after the rate (R74). -/
def Session.summaryEnd (x : Session) : List Byte :=
  optional x.lastKind (fun k => leBytes 1 k.val) ++ x.countBytes ++ [flagsByte x.clamped x.forced x.parked] ++
    leBytes 4 x.opened ++ optional x.phase.closeReason (fun r => [reasonCode r]) ++ [flag x.stopPending]

theorem Session.length_summaryEnd (x : Session) : x.summaryEnd.length =
    61 + (if x.lastKind = none then 0 else 1) + (if x.phase.closeReason = none then 0 else 1) := by
  cases kind : x.lastKind <;> cases reason : x.phase.closeReason <;>
    simp [Session.summaryEnd, Session.countBytes, optional, kind, reason, toList_of_eight]

/-- The summary of a session that is not suspended, up to the rate. -/
theorem Session.summary_eq {x : Session} {n : Byte} {i : StationId} (named : n.toNat = i.val + 1)
    (here : x.suspended = false) : x.summary i =
      n :: phaseCode x.phase :: (leBytes 4 x.serial ++
        (match x.payment with
          | .campus slot => (1 : Byte) :: leBytes 2 slot
          | .bank ref _ => (2 : Byte) :: leBytes 2 ref
          | .counter ref => (3 : Byte) :: leBytes 4 ref) ++
        leBytes 4 x.hold ++ leBytes 4 x.charged ++ leBytes 4 x.pending ++
        leBytes 4 (10 * x.hold - x.charged - x.pending) ++
        leBytes 1 x.tier.val ++ leBytes 2 x.ceiling ++ leBytes 1 x.rate ++ x.summaryEnd) := by
  have payment : paymentBytes x.payment = match x.payment with
      | .campus slot => (1 : Byte) :: leBytes 2 slot
      | .bank ref _ => (2 : Byte) :: leBytes 2 ref
      | .counter ref => (3 : Byte) :: leBytes 4 ref := by cases x.payment <;> rfl
  simp only [Session.summary, Session.summaryEnd, Session.moneyBytes, Session.available, sessionState, here,
    Bool.false_eq_true, if_false, payment, ofNat_stationNumber named, List.append_assoc, List.cons_append,
    List.nil_append]

/-- The close reason, present from CLOSING on (R50). -/
theorem optional_closeReason (phase : Phase) : optional phase.closeReason (fun r => [reasonCode r]) =
    match phase with
    | .closing r => [(1 : Byte), reasonCode r]
    | _ => [(0 : Byte)] := by
  cases phase <;> rfl

theorem Session.summaryEnd_eq (x : Session) : x.summaryEnd =
    (match x.lastKind with | none => [(0 : Byte)] | some k => [1, BitVec.ofNat 8 k.val]) ++
      leBytes 4 x.fed ++
      leBytes 4 x.covered[0] ++ leBytes 4 x.covered[1] ++ leBytes 4 x.covered[2] ++ leBytes 4 x.covered[3] ++
      leBytes 4 x.covered[4] ++ leBytes 4 x.covered[5] ++ leBytes 4 x.covered[6] ++ leBytes 4 x.covered[7] ++
      leBytes 4 x.uncovered ++ leBytes 4 x.uncoveredValue ++ leBytes 4 x.unpermitted ++ leBytes 4 x.jammed ++
      leBytes 1 x.extendCount ++ [flagsByte x.clamped x.forced x.parked] ++ leBytes 4 x.opened ++
      (match x.phase with | .closing r => [(1 : Byte), reasonCode r] | _ => [(0 : Byte)]) ++ [flag x.stopPending] := by
  have kind : optional x.lastKind (fun k => leBytes 1 k.val) =
      match x.lastKind with | none => [(0 : Byte)] | some k => [1, BitVec.ofNat 8 k.val] := by
    cases x.lastKind <;> rfl
  simp only [Session.summaryEnd, Session.countBytes, kind, optional_closeReason, toList_of_eight, List.flatMap_cons,
    List.flatMap_nil, List.append_assoc, List.nil_append]

/-- Settles O19: each reply is its owning block's report, whose chunks are those of the statement. -/
theorem stationReports : Obligations.StationReports := by
  refine ⟨?_, ?_, ?_, ?_, ?_, ?_⟩
  · intro s n i serving named
    have driven := State.driven_of_serving serving
    refine ⟨fun session => ?_, fun x session here => ?_⟩
    · obtain ⟨permit, pause⟩ := State.outputs_of_none session
      rw [exec_readStation_of_station serving named]
      simp only [State.stationBytes, session, permit, pause, State.save_of_driven driven, List.append_assoc]
      exact ⟨_, rfl⟩
    · obtain ⟨permit, pause⟩ := State.outputs_of_session driven session here
      rw [exec_readStation_of_station serving named]
      simp only [State.stationBytes, session, permit, pause, State.save_of_driven driven, sessionState, here,
        List.append_assoc]
      exact ⟨_, rfl⟩
  · rintro s n i _ serving named rfl _ _ rfl rfl
    obtain ⟨a, b⟩ := (s.station i).durations_eq
    rw [exec_readStation_of_station serving named, ← a, ← b]
    refine congrArg (fun fields => Host.Outcome.next (s.replied 0x95 0 fields)) ?_
    simp only [State.stationBytes, idleBytes, List.append_assoc, sessionState_append, timerBytes_eq, sheetBytes_eq,
      optional_lastRefusal, optional_jam, optional_head?, Station.flag_quiet] <;> rfl
  · intro s n i serving named
    refine ⟨exec_readJam_of_none serving named, fun r jam => ?_⟩
    rw [exec_readJam_of_record serving named jam]
    simp only [State.jamBytes, ofNat_stationNumber named, jamStateCode_eq, List.append_assoc]
    exact ⟨_, rfl⟩
  · intro s n i r serving named jam
    rw [exec_readJam_of_record serving named jam]
    refine congrArg (fun fields => Host.Outcome.next (s.replied 0x96 0 fields)) ?_
    simp only [State.jamBytes, ofNat_stationNumber named, jamStateCode_eq, sheetBytes_eq, List.append_assoc,
      jamEnd_append] <;> rfl
  · intro s n i serving named
    refine ⟨fun session => ?_, fun x session here => ⟨x.summaryEnd, x.length_summaryEnd, ?_⟩⟩
    · rw [exec_readSession_of_station serving named, session, summaryBytes, ofNat_stationNumber named]
    · rw [exec_readSession_of_station serving named, session]
      exact congrArg (fun fields => Host.Outcome.next (s.replied 0xA2 0 fields)) (Session.summary_eq named here)
  · intro s n i x serving named session here
    rw [exec_readSession_of_station serving named, session, summaryBytes, Session.summary_eq named here,
      Session.summaryEnd_eq]
    refine congrArg (fun fields => Host.Outcome.next (s.replied 0xA2 0 fields)) ?_
    simp only [List.append_assoc] <;> rfl

end Sys2Proof.Machine
end

section
/-! The idle expiries (R39, R42 to R44) and the authorization expiry (R59). -/

namespace Sys2Proof.Machine

/-- Both idle timers once one of them and the other are named. -/
theorem Station.quiet_iff {st : Station} {timer other : TimerId} (two : timer ≠ other) : st.quiet = true ↔
    (st.duration timer ≠ none ∨ st.duration other ≠ none) ∧
      (st.duration timer ≠ none → st.timer timer = .expired) ∧ (st.duration other ≠ none → st.timer other = .expired) := by
  have quiet : st.quiet = true ↔ (st.duration .a ≠ none ∨ st.duration .b ≠ none) ∧
      (st.duration .a ≠ none → st.timer .a = .expired) ∧ (st.duration .b ≠ none → st.timer .b = .expired) := by
    unfold Station.quiet Station.timer
    cases st.duration .a <;> cases st.duration .b <;> simp
  cases timer <;> cases other
  · exact absurd rfl two
  · exact quiet
  · rw [quiet, or_comm, and_comm (b := st.duration .b ≠ none → _)]
  · exact absurd rfl two

/-- The quiet test takes a quiet READY station with an empty path and no session to SAVE (R44). -/
theorem State.quietTest_of_quiet_none (s : State) (i : StationId) {st : Station} (ns : List Notice)
    (quiet : st.quiet = true) (ready : st.state = .ready) (path : st.path = []) (session : st.session = none) :
    (s.atStation i st ns).quietTest i =
      s.atStation i { st with state := .save } (insertNotice ⟨.stationChange, i.val + 1⟩ ns) := by
  simp only [State.quietTest, State.station_atStation_self, quiet, ready, path, and_self, if_true, session,
    State.enterState_atStation]
  rfl

/-- The quiet test closes a copying session there as abandoned (R43). -/
theorem State.quietTest_of_quiet_copying (s : State) (i : StationId) {st : Station} (ns : List Notice) {x : Session}
    (quiet : st.quiet = true) (ready : st.state = .ready) (path : st.path = []) (session : st.session = some x)
    (copying : x.copying = true) :
    (s.atStation i st ns).quietTest i =
      (s.atStation i { st with session := some { x with phase := .closing .walkAway }, pauseTimer := none }
        ns).settleInService i { x with phase := .closing .walkAway } .walkAway := by
  have closed := s.closeRequest_of_copying i ns session copying .walkAway _ rfl
  rw [if_pos path] at closed
  rw [← closed]
  simp only [State.quietTest, State.station_atStation_self, quiet, ready, path, and_self, if_true, session, copying]

section Expiries

variable {s : State} {i : StationId}

theorem State.reach_of_le {t : Nat} (later : s.now ≤ t) : s.reach t = { s with now := t } := by
  rw [State.reach, Nat.max_eq_right later]

/-- An idle expiry (R39): the interval count reaches the timer's instant, the timer is EXPIRED, the quiet test follows. -/
theorem exec_idleTimerExpiry {timer : TimerId} {expiry : Nat} (run : s.running = true)
    (timed : (s.station i).timer timer = .running expiry) (later : s.now ≤ expiry) :
    exec (.idleTimerExpiry i timer) s = .next ((({ s with now := expiry } : State).atStation i
      ((s.station i).setTimer timer .expired) s.notices).quietTest i) := by
  show Host.Outcome.next (s.idleExpires i timer) = _
  simp only [State.idleExpires, timed, run, if_true, State.reach_of_le later]
  rfl

/-- An authorization expiry (R59). -/
theorem exec_authTimerExpiry {x : Session} {expiry : Nat} (run : s.running = true)
    (session : (s.station i).session = some x) (authorizing : x.authorizing = true)
    (timed : (s.station i).authTimer = some expiry) (later : s.now ≤ expiry) :
    exec (.authTimerExpiry i) s = .next ((((({ s with now := expiry } : State).atStation i (s.station i)
      s.notices).endWithoutRecord i).refuse i .timeout .bank).reloadBoth i) := by
  have same : ({ s with now := expiry } : State).atStation i (s.station i) s.notices = { s with now := expiry } :=
    State.atStation_station { s with now := expiry } i
  show Host.Outcome.next (s.authExpires i) = _
  simp only [State.authExpires, timed, session, run, authorizing, and_self, if_true, State.reach_of_le later, same]

end Expiries

/-- A refusal at station `i` (R49). -/
theorem State.refuse_atStation (s : State) (i : StationId) (st : Station) (ns : List Notice) (reason : RefuseReason)
    (card : CardClass) :
    (s.atStation i st ns).refuse i reason card = s.atStation i
      { st with lastRefusal := some ⟨reason, card, s.stamp⟩, reader := st.reader.produce (.refuse reason) }
      (insertNotice ⟨.cardRefused, i.val + 1⟩ ns) := by
  simp only [State.refuse, State.modStation_atStation, State.indicate_atStation, State.postAt_atStation,
    State.stamp_atStation]

/-- Settles O42: an idle expiry is the quiet test of the station with its timer EXPIRED, an authorization expiry ends the
session without a record. -/
theorem sessionTimersExpire : Obligations.SessionTimersExpire := by
  refine ⟨?_, ?_, ?_⟩
  · intro s i timer other expiry d run two timed later duration rest
    have quiet : ((s.station i).setTimer timer .expired).quiet = true := by
      rw [Station.quiet_iff two, Station.duration_setTimer, Station.duration_setTimer, Station.timer_setTimer_self,
        Station.timer_setTimer_of_ne _ two.symm, duration]
      exact ⟨.inl nofun, fun _ => rfl, fun h => rest.resolve_left h⟩
    rw [exec_idleTimerExpiry run timed later]
    refine ⟨fun session ready path => ?_, fun x ref session ready path copying stays payment => ?_⟩
    · rw [State.quietTest_of_quiet_none _ i _ quiet (by simpa using ready) (by simpa using path) (by simpa using session)]
      cases timer <;> rfl
    · rw [State.quietTest_of_quiet_copying _ i _ quiet (by simpa using ready) (by simpa using path)
        (by simpa using session) copying, State.settleInService_atStation _ i _ _
        (x := { x with phase := .closing .walkAway }) payment stays]
      refine ⟨_, s.counterRecord i { x with phase := .closing .walkAway } .walkAway, rfl, ?_⟩
      rw [State.station_atStation_self]
      dsimp only
      rw [Station.profile_setTimer, Station.state_setTimer]
      exact ⟨rfl, ready, rfl, rfl, rfl, rfl, rfl, rfl, rfl, rfl, rfl⟩
  · intro s i timer other expiry run two timed later stays
    rw [exec_idleTimerExpiry run timed later]
    suffices still : (({ s with now := expiry } : State).atStation i ((s.station i).setTimer timer .expired)
        s.notices).quietTest i = ({ s with now := expiry } : State).atStation i
          ((s.station i).setTimer timer .expired) s.notices from congrArg Host.Outcome.next still
    rcases stays with busy | full | ⟨has, waits⟩ | ⟨no, nor⟩ | ⟨x, session, idle⟩
    · exact State.quietTest_of_not_ready (by simpa using busy)
    · exact State.quietTest_of_path (by simpa using full)
    · refine State.quietTest_of_not_quiet (Bool.eq_false_iff.mpr fun quiet => ?_)
      rw [State.station_atStation_self, Station.quiet_iff two] at quiet
      obtain ⟨-, -, expired⟩ := quiet
      exact waits (by simpa [two.symm, has] using expired)
    · refine State.quietTest_of_not_quiet (Bool.eq_false_iff.mpr fun quiet => ?_)
      rw [State.station_atStation_self, Station.quiet_iff two] at quiet
      simp [no, nor] at quiet
    · exact State.quietTest_of_not_copying (x := x) (by simpa using session) idle
  · intro s i x expiry run session authorizing timed later
    rw [exec_authTimerExpiry run session authorizing timed later, State.endWithoutRecord_atStation,
      State.refuse_atStation, State.reloadBoth_atStation]
    rfl

end Sys2Proof.Machine
end

section
/-! JAM rises (R33, R111 to R114, R30). A JAM that is recognized asserted keeps the exit from JAMMED closed. -/

namespace Sys2Proof.Machine

/-- A change of station `i` and of the notices leaves every other station as it is. -/
theorem State.others_atStation (s : State) (i : StationId) (st : Station) (ns : List Notice) :
    ∀ j, j ≠ i → (s.atStation i st ns).station j = s.station j :=
  fun _ hj => s.station_atStation_of_ne i st ns hj

/-- The station once a new level has been recognized on one of its lines. -/
def Station.levelled (st : Station) (m : Line) (v : Bool) : Station := { st with lines := st.lines.set m (.recognize v) }

theorem State.setLine_eq_levelled (s : State) (i : StationId) (m : Line) (v : Bool) :
    s.setLine i m (.recognize v) = s.atStation i ((s.station i).levelled m v) s.notices := rfl

/-- A JAM rise whose line carries no candidate timing (R3, R33). -/
theorem exec_jamRise {s : State} {i : StationId} (run : s.running = true)
    (level : (s.station i).lines.jam.level = false) (timing : (s.station i).lines.jam.timing = none) :
    exec (.jamRise i) s = .next (((s.atStation i ((s.station i).levelled .jam true) s.notices).jamRose i).endEvent i
      (s.station i).state) := by
  have unlike : ((s.station i).lines.get .jam).level ≠ true := fun h => nomatch level.symm.trans h
  show Host.Outcome.next (s.recognize i .jam true) = _
  rw [State.recognize_of_untimed run unlike timing, State.setLine_eq_levelled, State.lineEvent]

/-- A JAM rise that is a jam: not at an OFFLINE station with an empty path (R30, R33). -/
theorem exec_jamRise_declared {s : State} {i : StationId} (run : s.running = true)
    (level : (s.station i).lines.jam.level = false) (timing : (s.station i).lines.jam.timing = none)
    (declared : (s.station i).state ≠ .offline ∨ (s.station i).path ≠ []) :
    exec (.jamRise i) s = .next (((s.atStation i ((s.station i).levelled .jam true) s.notices).declareJam i
      .line).endEvent i (s.station i).state) := by
  have acts : ¬ (((s.station i).levelled .jam true).state = .offline ∧ ((s.station i).levelled .jam true).path = []) :=
    fun ⟨off, path⟩ => declared.elim (· off) (· path)
  rw [exec_jamRise run level timing, State.jamRose, State.station_atStation_self, if_neg acts]

/-- A hand-over of no sheets changes no session whose tier is in date. -/
theorem Session.handedOver_nil {x : Session} (counted : x.jammed ≤ 4294967295)
    (tier : x.tier = x.plan.tierFor (min 65535 x.covered.toList.sum)) : x.handedOver [] = x := by
  have released : x.release [] = x := by
    have jammed : satAdd Config.top32 x.jammed 0 = x.jammed := Nat.min_eq_right counted
    simp only [Session.release, List.filter_nil, List.length_nil, jammed, List.map_nil, List.sum_nil, Nat.sub_zero]
  have same : x.plan.tierFor (x.coveredCount []) = x.tier := by
    rw [tier, Session.coveredCount, List.countP_nil, Nat.add_zero]
  rw [Session.handedOver, released, Session.retier, if_pos same]

/-! ### With an empty path -/

/-- A JAM rise with an empty path at a station in service that is not JAMMED. -/
theorem exec_jamRise_of_empty {s : State} {i : StationId} (run : s.running = true)
    (level : (s.station i).lines.jam.level = false) (timing : (s.station i).lines.jam.timing = none)
    (path : (s.station i).path = [])
    (state : (s.station i).state = .ready ∨ (s.station i).state = .notReady ∨ (s.station i).state = .save) :
    exec (.jamRise i) s = .next (s.atStation i (((s.station i).levelled .jam true).jammedEmpty .line s.stamp)
      (insertNotice ⟨.jam, i.val + 1⟩ s.notices)) := by
  obtain ⟨on, -⟩ := StationState.ne_of_working state
  rw [exec_jamRise_declared run level timing (.inl on),
    s.declareJam_of_empty i (st := (s.station i).levelled .jam true) s.notices .line state path rfl,
    State.endEvent_of_not_ready (by rw [State.station_atStation_self]; nofun)]

/-! ### With sheets in the path -/

/-- The station that a jam has made JAMMED, its path handed over (R111). -/
def Station.jammedWith (st : Station) (cause : JamCause) (stamp : Nat) : Station :=
  { (st.jamOpened cause stamp).handOver with state := .jammed }

/-- A jam of a copying session's sheets with the exit closed (R111, R112). -/
theorem State.declareJam_of_copying_closed (s : State) (i : StationId) {st : Station} (ns : List Notice)
    (cause : JamCause) {x : Session} (state : st.state = .ready ∨ st.state = .notReady) (path : st.path ≠ [])
    (fits : st.path.length ≤ 4294967295) (session : st.session = some x) (copying : x.copying = true)
    (closed : st.exitOpen = false) :
    ∃ y timer reader,
      (s.atStation i st ns).declareJam i cause = s.atStation i
        { st.jammedWith cause s.stamp with session := some y, pauseTimer := timer, reader := reader }
        (insertNotice ⟨.jam, i.val + 1⟩ (pauseNotices st i x y ns)) ∧
      x.Released y st.path ∧
      ∀ after : Station, after.pauseTimer = timer → after.reader = reader → st.PauseFollows after s.now x y := by
  obtain ⟨y, timer, reader, result, released, follows⟩ :=
    s.declareJam_of_copying i ns cause state path fits session copying
  refine ⟨y, timer, reader, ?_, released, follows⟩
  rw [result, Station.afterJam_of_closed (by exact closed), Station.jamNotices_of_closed closed]
  rfl

/-- The settlement of a CLOSING COUNTER session at the jam of its sheets with the exit closed (R113, R72). -/
theorem State.declareJam_of_closing_closed (s : State) (i : StationId) {st : Station} (ns : List Notice)
    (cause : JamCause) {x : Session} {reason : CloseReason} {ref : Nat}
    (state : st.state = .ready ∨ st.state = .notReady) (path : st.path ≠ []) (fits : st.path.length ≤ 4294967295)
    (session : st.session = some x) (closing : x.phase = .closing reason) (here : x.suspended = false)
    (payment : x.payment = .counter ref) (stays : x.stopPending = false) (closed : st.exitOpen = false) :
    (s.atStation i st ns).declareJam i cause =
      (s.journaled (s.counterRecord i (x.handedOver st.path) reason)).atStation i
        { st.jammedWith cause s.stamp with
          reader := st.reader.produce (.closed ((x.charged + 5) / 10))
          session := none
          timerA := loadedTimer s.now (codeSeconds st.profile.idleA)
          timerB := loadedTimer s.now (codeSeconds st.profile.idleB) }
        (insertNotice ⟨.sessionClosed, i.val + 1⟩ (insertNotice ⟨.jam, i.val + 1⟩ ns)) := by
  rw [s.declareJam_of_closing i ns cause state path fits session closing here,
    Station.afterJam_of_closed (by exact closed), Station.jamNotices_of_closed closed,
    s.settleInService_atStation i _ _ (x := x.handedOver st.path) ((x.payment_handedOver _).trans payment)
      ((x.stopPending_handedOver _).trans stays), Session.charged_handedOver]
  rfl

/-- That settlement where a stop is pending (R72, R29): the station is OFFLINE and its record CLOSED, all sheets lost. -/
theorem State.declareJam_of_stopping_closed (s : State) (i : StationId) {st : Station} (ns : List Notice)
    (cause : JamCause) {x : Session} {reason : CloseReason} {ref : Nat} {listed : List DoubtSheet}
    (state : st.state = .ready ∨ st.state = .notReady) (path : st.path ≠ []) (fits : st.path.length ≤ 4294967295)
    (session : st.session = some x) (closing : x.phase = .closing reason) (here : x.suspended = false)
    (payment : x.payment = .counter ref) (stops : x.stopPending = true) (closed : st.exitOpen = false)
    (jam : (st.jammedWith cause s.stamp).jam = some (st.newRecord cause s.stamp st.path.length listed)) :
    (s.atStation i st ns).declareJam i cause =
      (s.journaled (s.counterRecord i (x.handedOver st.path) reason)).atStation i
        { st.jammedWith cause s.stamp with
          state := .offline
          reader := st.reader.produce (.closed ((x.charged + 5) / 10))
          session := none
          purgeTimer := none
          jam := some { st.newRecord cause s.stamp st.path.length listed with lost := some st.path.length }
          meters := { (st.jammedWith cause s.stamp).meters with
            lost := (st.meters.lost + st.path.length) % 100000000
            purged := st.meters.purged % 100000000 }
          timerA := .stopped
          timerB := .stopped }
        (insertNotice ⟨.stationChange, i.val + 1⟩
          (insertNotice ⟨.sessionClosed, i.val + 1⟩ (insertNotice ⟨.jam, i.val + 1⟩ ns))) := by
  rw [s.declareJam_of_closing i ns cause state path fits session closing here,
    Station.afterJam_of_closed (by exact closed), Station.jamNotices_of_closed closed,
    s.settleInService_of_stopPending i _ _ (x := x.handedOver st.path) ((x.payment_handedOver _).trans payment)
      ((x.stopPending_handedOver _).trans stops), Session.charged_handedOver,
    Station.leaveService_of_jam (.inl rfl) (by exact jam) rfl]
  rfl

/-- A JAM rise at a JAMMED or RECOVER station without a session (R114). -/
theorem exec_jamRise_folded {s : State} {i : StationId} {r : JamRecord} (run : s.running = true)
    (level : (s.station i).lines.jam.level = false) (timing : (s.station i).lines.jam.timing = none)
    (state : (s.station i).state = .jammed ∨ (s.station i).state = .recover) (session : (s.station i).session = none)
    (jam : (s.station i).jam = some r) (fits : r.inDoubt + (s.station i).path.length ≤ 4294967295) :
    ∃ listed, exec (.jamRise i) s = .next (s.atStation i
      { ((s.station i).levelled .jam true).folded r listed with state := .jammed }
      (insertNotice ⟨.jam, i.val + 1⟩ s.notices)) := by
  have on : (s.station i).state ≠ .offline := by rcases state with h | h <;> rw [h] <;> nofun
  obtain ⟨listed, result⟩ := s.foldJam_of_closed i (st := (s.station i).levelled .jam true) s.notices .line state jam fits
    rfl session
  refine ⟨listed, ?_⟩
  rw [exec_jamRise_declared run level timing (.inl on), result, State.endEvent_of_not_ready (by
    rw [State.station_atStation_self]
    nofun)]

/-- Settles O38: a JAM rise is the jam that the station's state, path and session call for, with the exit closed. -/
theorem jamRises : Obligations.JamRises := by
  refine ⟨?_, ?_, ?_, ?_, ?_, ?_, ?_⟩
  · intro s i run level timing path
    refine ⟨fun off => ?_, fun state session => ⟨_, exec_jamRise_of_empty run level timing path state, ?_⟩⟩
    · have quiet : ((s.station i).levelled .jam true).state = .offline ∧ ((s.station i).levelled .jam true).path = [] :=
        ⟨off, path⟩
      rw [exec_jamRise run level timing, State.jamRose, State.station_atStation_self, if_pos quiet,
        State.endEvent_of_same (State.station_atStation_self .. ▸ rfl)]
      rfl
    · rw [State.station_atStation_self]
      exact ⟨rfl, rfl, rfl, rfl, rfl, s.others_atStation i _ _⟩
  · intro s i x run level timing path session state
    have working : (s.station i).state = .ready ∨ (s.station i).state = .notReady ∨ (s.station i).state = .save :=
      state.imp_right .inl
    refine ⟨_, x.handedOver [], exec_jamRise_of_empty run level timing path working, ?_⟩
    rw [State.station_atStation_self]
    exact ⟨rfl, path, congrArg (Option.map fun w : Session => w.handedOver []) session, x.released_handedOver [],
      x.phase_handedOver [], x.forced_handedOver [], Session.handedOver_nil, rfl, rfl, rfl, rfl, rfl, rfl, rfl, rfl, rfl, rfl,
      rfl, rfl, s.others_atStation i _ _⟩
  · intro s i x e rest run level timing state path room session copying
    obtain ⟨full, count, fits⟩ := path_of_cons path (room.trans (by decide))
    obtain ⟨listed, jam⟩ := ((s.station i).levelled .jam true).jam_handOver_opened .line s.stamp rfl fits
    obtain ⟨y, timer, reader, result, released, follows⟩ := s.declareJam_of_copying_closed i
      (st := (s.station i).levelled .jam true) s.notices .line state full fits session copying rfl
    rw [exec_jamRise_declared run level timing (.inr full), result, State.endEvent_of_not_ready (by
      rw [State.station_atStation_self]
      nofun), ← count, ← path]
    refine ⟨_, y, (s.station i).newRecord .line s.stamp (s.station i).path.length listed, rfl, ?_⟩
    rw [State.station_atStation_self]
    exact ⟨rfl, rfl, rfl, released, follows _ rfl rfl, jam, rfl, rfl, rfl, rfl, rfl, rfl, rfl, rfl, rfl, rfl, rfl, rfl,
      s.others_atStation i _ _⟩
  · intro s i x e rest ref reason run level timing state path room session closing here payment
    obtain ⟨full, count, fits⟩ := path_of_cons path (room.trans (by decide))
    obtain ⟨listed, jam⟩ := ((s.station i).levelled .jam true).jam_handOver_opened .line s.stamp rfl fits
    rw [exec_jamRise_declared run level timing (.inr full), ← count, ← path]
    cases stop : x.stopPending with
    | false =>
        rw [s.declareJam_of_closing_closed i (st := (s.station i).levelled .jam true) s.notices .line state full fits
          session closing here payment stop rfl, State.endEvent_of_not_ready (by
            rw [State.station_atStation_self]
            nofun)]
        refine ⟨_, s.counterRecord i (x.handedOver (s.station i).path) reason,
          (s.station i).newRecord .line s.stamp (s.station i).path.length listed, rfl, ?_⟩
        rw [State.station_atStation_self]
        exact ⟨rfl, rfl, rfl, rfl, congrArg (fun c => (c + 5) / 10) (x.charged_handedOver _), x.serial_handedOver _,
          x.jammed_handedOver _, rfl, rfl, jam, rfl, rfl, rfl, fun _ => ⟨rfl, rfl, rfl, rfl⟩, nofun, rfl, rfl, rfl,
          s.others_journaled _ i _ _⟩
    | true =>
        rw [s.declareJam_of_stopping_closed i (st := (s.station i).levelled .jam true) s.notices .line state full fits
          session closing here payment stop rfl jam, State.endEvent_of_not_ready (by
            rw [State.station_atStation_self]
            nofun)]
        refine ⟨_, s.counterRecord i (x.handedOver (s.station i).path) reason,
          { (s.station i).newRecord .line s.stamp (s.station i).path.length listed with
            lost := some (s.station i).path.length }, rfl, ?_⟩
        rw [State.station_atStation_self]
        exact ⟨rfl, rfl, rfl, rfl, congrArg (fun c => (c + 5) / 10) (x.charged_handedOver _), x.serial_handedOver _,
          x.jammed_handedOver _, rfl, rfl, rfl, rfl, rfl, rfl, nofun, fun _ => ⟨rfl, rfl, rfl, rfl, rfl⟩, rfl, rfl, rfl,
          s.others_journaled _ i _ _⟩
  · intro s i e rest run level timing off path room session
    obtain ⟨full, count, fits⟩ := path_of_cons path (room.trans (by decide))
    obtain ⟨listed, result⟩ := s.offlineJam_of_none i (st := (s.station i).levelled .jam true) s.notices .line off full
      fits session
    rw [exec_jamRise_declared run level timing (.inr full), result,
      State.endEvent_of_same (State.station_atStation_self .. ▸ rfl), ← count]
    refine ⟨_, { (s.station i).newRecord .line s.stamp (s.station i).path.length listed with
      lost := some (s.station i).path.length }, rfl, ?_⟩
    rw [State.station_atStation_self]
    exact ⟨off, rfl, Station.session_writtenOff (st := (s.station i).levelled .jam true) session _ _ _, rfl, rfl, rfl, rfl,
      rfl, rfl, rfl, rfl, rfl, rfl, rfl, rfl, rfl, rfl, s.others_atStation i _ _⟩
  · intro s i r run level timing state session jam lost fits
    obtain ⟨listed, result⟩ := exec_jamRise_folded run level timing (.inl state) session jam fits
    refine ⟨_, { r with
      inDoubt := r.inDoubt + (s.station i).path.length, repeats := min 255 (r.repeats + 1), listed := listed }, result, ?_⟩
    rw [State.station_atStation_self]
    exact ⟨rfl, rfl, rfl, rfl, rfl, rfl, rfl, lost, rfl, rfl, rfl,
      s.others_atStation i _ _⟩
  · intro s i r run level timing state session jam fits
    obtain ⟨listed, result⟩ := exec_jamRise_folded run level timing (.inr state) session jam fits
    refine ⟨_, listed, result, ?_⟩
    rw [State.station_atStation_self]
    exact ⟨rfl, rfl, Station.session_handOver_none (st := (s.station i).levelled .jam true) session, rfl, rfl, rfl, rfl, rfl,
      rfl, s.others_atStation i _ _⟩

end Sys2Proof.Machine
end

section
/-! JAM falls, READY rises and READY falls (R31, R32, R34, R116, R117). -/

namespace Sys2Proof.Machine

/-! ### The line events -/

section LineEvents

variable {s : State} {i : StationId}

/-- A JAM fall is the exit test (R34). -/
theorem exec_jamFall (run : s.running = true) (level : (s.station i).lines.jam.level = true)
    (timing : (s.station i).lines.jam.timing = none) :
    exec (.jamFall i) s = .next (((s.atStation i ((s.station i).levelled .jam false) s.notices).exitTest i).endEvent i
      (s.station i).state) := by
  have unlike : ((s.station i).lines.get .jam).level ≠ false := fun h => nomatch level.symm.trans h
  show Host.Outcome.next (s.recognize i .jam false) = _
  rw [State.recognize_of_untimed run unlike timing, State.setLine_eq_levelled, State.lineEvent]

/-- The station whose READY has risen, with the activity linked to it (R32, R40). -/
def Station.readyRisen (st : Station) (now : Nat) : Station :=
  (st.levelled .ready true).reloaded now st.profile.linkReadyRise

/-- A READY rise at a station that is not in SAVE (R32). -/
theorem exec_readyRise (run : s.running = true) (level : (s.station i).lines.ready.level = false)
    (timing : (s.station i).lines.ready.timing = none) (save : (s.station i).state ≠ .save) :
    exec (.readyRise i) s = .next ((if (s.station i).state = .notReady
      then (s.atStation i ((s.station i).readyRisen s.now) s.notices).enterState i .ready
      else (s.atStation i ((s.station i).readyRisen s.now) s.notices).exitTest i).endEvent i (s.station i).state) := by
  have unlike : ((s.station i).lines.get .ready).level ≠ true := fun h => nomatch level.symm.trans h
  have active : (s.atStation i ((s.station i).levelled .ready true) s.notices).activity i
      (s.station i).profile.linkReadyRise = s.atStation i ((s.station i).readyRisen s.now) s.notices :=
    s.activity_atStation i (st := (s.station i).levelled .ready true) s.notices _ save
  have profile : ((s.station i).levelled .ready true).profile = (s.station i).profile := rfl
  have risen : ((s.station i).readyRisen s.now).state = (s.station i).state := rfl
  show Host.Outcome.next (s.recognize i .ready true) = _
  rw [State.recognize_of_untimed run unlike timing, State.setLine_eq_levelled, State.lineEvent, State.readyRose,
    State.station_atStation_self, profile, active, State.station_atStation_self, risen]
  cases state : (s.station i).state <;> simp only [reduceCtorEq, if_true, if_false]

/-- A READY fall (R31). -/
theorem exec_readyFall (run : s.running = true) (level : (s.station i).lines.ready.level = true)
    (timing : (s.station i).lines.ready.timing = none) :
    exec (.readyFall i) s = .next (((s.atStation i ((s.station i).levelled .ready false) s.notices).readyFell i).endEvent
      i (s.station i).state) := by
  have unlike : ((s.station i).lines.get .ready).level ≠ false := fun h => nomatch level.symm.trans h
  show Host.Outcome.next (s.recognize i .ready false) = _
  rw [State.recognize_of_untimed run unlike timing, State.setLine_eq_levelled, State.lineEvent]

end LineEvents

/-- A READY that is recognized deasserted keeps the exit closed. -/
theorem Station.exitOpen_levelled_ready (st : Station) : (st.levelled .ready false).exitOpen = false :=
  Bool.and_false _

/-! ### The exit test (R34) -/

theorem State.exitTest_of_not_jammed {s : State} {i : StationId} (h : (s.station i).state ≠ .jammed) :
    s.exitTest i = s := by
  rw [State.exitTest, if_neg (fun k => h k.1)]

/-- An open exit takes a JAMMED station into RECOVER (R34, R116). -/
theorem State.exitTest_of_open (s : State) (i : StationId) {st : Station} (ns : List Notice) (state : st.state = .jammed)
    (opens : st.lines.jam.level = false ∧ st.lines.ready.level = true) :
    (s.atStation i st ns).exitTest i = (s.atStation i st ns).enterRecover i := by
  rw [State.exitTest, State.station_atStation_self, if_pos ⟨state, opens⟩]

/-- The station in RECOVER with its purge window running (R116). -/
def Station.recovering (st : Station) (now : Nat) : Station :=
  { st with state := .recover, purgeTimer := some (now + 1000 * st.profile.purgeWindow) }

theorem State.enterRecover_atStation (s : State) (i : StationId) {st : Station} {r : JamRecord} (ns : List Notice)
    (state : st.state = .jammed) (jam : st.jam = some r) :
    ∀ t, t = s.atStation i (st.recovering s.now) (insertNotice ⟨.stationChange, i.val + 1⟩ ns) →
      (s.atStation i st ns).enterRecover i = if r.inDoubt ≤ r.purged then t.endRecover i else t := by
  rintro _ rfl
  have purge : (st.recovering s.now).purgeComplete = decide (r.inDoubt ≤ r.purged) := by
    rw [Station.purgeComplete, show (st.recovering s.now).jam = some r from jam]
  have entered : ((s.atStation i st ns).enterState i .recover).modStation i (fun a => { a with
      purgeTimer := some (s.now + 1000 * a.profile.purgeWindow) }) =
      s.atStation i (st.recovering s.now) (insertNotice ⟨.stationChange, i.val + 1⟩ ns) := by
    rw [State.enterState_atStation, State.modStation_atStation, state]
    rfl
  simp only [State.enterRecover, State.enterState_now, State.now_atStation, entered, State.station_atStation_self, purge,
    decide_eq_true_eq]

/-- With purges outstanding it stays there. -/
theorem State.exitTest_of_outstanding (s : State) (i : StationId) {st : Station} {r : JamRecord} (ns : List Notice)
    (state : st.state = .jammed) (opens : st.lines.jam.level = false ∧ st.lines.ready.level = true)
    (jam : st.jam = some r) (outstanding : r.purged < r.inDoubt) :
    (s.atStation i st ns).exitTest i =
      s.atStation i (st.recovering s.now) (insertNotice ⟨.stationChange, i.val + 1⟩ ns) := by
  rw [s.exitTest_of_open i ns state opens, s.enterRecover_atStation i ns state jam _ rfl,
    if_neg (Nat.not_le.mpr outstanding)]

/-- The station that the exit test has taken through RECOVER into READY (R117, R118). -/
def Station.recovered (st : Station) (now : Nat) (r : JamRecord) : Station :=
  { st with
    state := .ready
    purgeTimer := none
    jam := some { r with lost := some 0 }
    meters := { st.meters with
      lost := st.meters.lost % 100000000
      purged := (st.meters.purged + r.purged) % 100000000 }
    timerA := loadedTimer now (st.duration .a)
    timerB := loadedTimer now (st.duration .b) }

/-- With its purge complete the station passes through RECOVER in the same event (R117). -/
theorem State.exitTest_of_complete (s : State) (i : StationId) {st : Station} {r : JamRecord} (ns : List Notice)
    (state : st.state = .jammed) (opens : st.lines.jam.level = false ∧ st.lines.ready.level = true)
    (jam : st.jam = some r) (lost : r.lost = none) (complete : r.inDoubt ≤ r.purged) :
    (s.atStation i st ns).exitTest i = s.atStation i (st.recovered s.now r)
      (insertNotice ⟨.recovered, i.val + 1⟩ (insertNotice ⟨.stationChange, i.val + 1⟩ ns)) := by
  rw [s.exitTest_of_open i ns state opens, s.enterRecover_atStation i ns state jam _ rfl, if_pos complete,
    s.endRecover_atStation i rfl (by exact jam) lost, Nat.sub_eq_zero_of_le complete]
  rfl

/-! ### Rises and falls by station state -/

section Levels

variable {s : State} {i : StationId}

theorem exec_jamFall_outstanding {r : JamRecord} (run : s.running = true) (state : (s.station i).state = .jammed)
    (jam : (s.station i).jam = some r) (outstanding : r.purged < r.inDoubt)
    (level : (s.station i).lines.jam.level = true) (timing : (s.station i).lines.jam.timing = none)
    (ready : (s.station i).lines.ready.level = true) :
    exec (.jamFall i) s = .next (s.atStation i (((s.station i).levelled .jam false).recovering s.now)
      (insertNotice ⟨.stationChange, i.val + 1⟩ s.notices)) := by
  rw [exec_jamFall run level timing, s.exitTest_of_outstanding i (st := (s.station i).levelled .jam false) s.notices state
    ⟨rfl, ready⟩ jam outstanding, State.endEvent_of_not_ready (by rw [State.station_atStation_self]; nofun)]

/-- A READY rise at a JAMMED station is its activity and the exit test. -/
theorem exec_readyRise_of_jammed (run : s.running = true) (level : (s.station i).lines.ready.level = false)
    (timing : (s.station i).lines.ready.timing = none) (state : (s.station i).state = .jammed) :
    exec (.readyRise i) s = .next (((s.atStation i ((s.station i).readyRisen s.now) s.notices).exitTest i).endEvent i
      .jammed) := by
  rw [exec_readyRise run level timing (by rw [state]; nofun), if_neg (by rw [state]; nofun), state]

theorem exec_readyRise_outstanding {r : JamRecord} (run : s.running = true) (state : (s.station i).state = .jammed)
    (jam : (s.station i).jam = some r) (outstanding : r.purged < r.inDoubt)
    (clear : (s.station i).lines.jam.level = false) (level : (s.station i).lines.ready.level = false)
    (timing : (s.station i).lines.ready.timing = none) :
    exec (.readyRise i) s = .next (s.atStation i (((s.station i).readyRisen s.now).recovering s.now)
      (insertNotice ⟨.stationChange, i.val + 1⟩ s.notices)) := by
  rw [exec_readyRise_of_jammed run level timing state, s.exitTest_of_outstanding i (st := (s.station i).readyRisen s.now)
    s.notices state ⟨clear, rfl⟩ jam outstanding, State.endEvent_of_not_ready (by
      rw [State.station_atStation_self]
      nofun)]

/-- A station just recovered has reloaded both timers, so its event ends with no quiet test. -/
theorem State.endEvent_recovered (s : State) (i : StationId) (st : Station) (r : JamRecord) (ns : List Notice)
    (before : StationState) :
    (s.atStation i (st.recovered s.now r) ns).endEvent i before = s.atStation i (st.recovered s.now r) ns :=
  State.endEvent_of_loaded rfl rfl before

theorem exec_readyRise_of_offline (run : s.running = true) (level : (s.station i).lines.ready.level = false)
    (timing : (s.station i).lines.ready.timing = none) (off : (s.station i).state = .offline) :
    exec (.readyRise i) s = .next (s.atStation i ((s.station i).levelled .ready true) s.notices) := by
  have idle : (s.station i).readyRisen s.now = (s.station i).levelled .ready true :=
    Station.reloaded_of_idle (.inl (by exact off))
  have same : (s.atStation i ((s.station i).levelled .ready true) s.notices).exitTest i =
      s.atStation i ((s.station i).levelled .ready true) s.notices :=
    State.exitTest_of_not_jammed (by
      rw [State.station_atStation_self]
      show (s.station i).state ≠ _
      rw [off]
      nofun)
  rw [exec_readyRise run level timing (by rw [off]; nofun), if_neg (by rw [off]; nofun), idle, same, State.endEvent_of_not_ready (by
    rw [State.station_atStation_self]
    show (s.station i).state ≠ _
    rw [off]
    nofun)]

/-- The state of a station and one of its timers are set independently. -/
theorem Station.setTimer_with_state (st : Station) (t : TimerId) (v : IdleTimer) (state : StationState) :
    ({ st.setTimer t v with state := state } : Station) = ({ st with state := state } : Station).setTimer t v := by
  cases t <;> rfl

/-- A READY rise at a NOT-READY station whose linked timer has a duration (R32, R40): it cannot be quiet. -/
theorem exec_readyRise_of_notReady {d : Nat} (run : s.running = true) (level : (s.station i).lines.ready.level = false)
    (timing : (s.station i).lines.ready.timing = none) (state : (s.station i).state = .notReady)
    (duration : (s.station i).duration (s.station i).profile.linkReadyRise = some d) :
    exec (.readyRise i) s = .next (s.atStation i
      (({ (s.station i).levelled .ready true with state := .ready } : Station).setTimer
        (s.station i).profile.linkReadyRise (.running (s.now + 1000 * d)))
      (insertNotice ⟨.stationChange, i.val + 1⟩ s.notices)) := by
  have off : ((s.station i).levelled .ready true).state ≠ .offline := by
    show (s.station i).state ≠ _
    rw [state]
    nofun
  have duration' : ((s.station i).levelled .ready true).duration (s.station i).profile.linkReadyRise = some d := duration
  have busy : ((s.station i).readyRisen s.now).quiet = false := Station.not_quiet_reloaded off duration' s.now
  have notice : changeNotice ((s.station i).readyRisen s.now).state .ready = .stationChange := by
    show changeNotice (s.station i).state _ = _
    rw [state]
    rfl
  rw [exec_readyRise run level timing (by rw [state]; nofun), if_pos state, State.enterState_atStation, notice, State.endEvent_of_not_quiet (by
    rw [State.station_atStation_self]
    exact busy), Station.readyRisen, Station.reloaded_of_duration off duration', Station.setTimer_with_state]

/-- A READY fall at a READY or SAVE station with an empty path (R31). -/
theorem exec_readyFall_of_empty (run : s.running = true) (level : (s.station i).lines.ready.level = true)
    (timing : (s.station i).lines.ready.timing = none) (path : (s.station i).path = [])
    (state : (s.station i).state = .ready ∨ (s.station i).state = .save) :
    exec (.readyFall i) s = .next (s.atStation i { (s.station i).levelled .ready false with state := .notReady }
      (insertNotice ⟨.stationChange, i.val + 1⟩ s.notices)) := by
  have state' : ((s.station i).levelled .ready false).state = (s.station i).state := rfl
  have path' : ((s.station i).levelled .ready false).path = [] := path
  have fell : (s.atStation i ((s.station i).levelled .ready false) s.notices).readyFell i =
      s.atStation i { (s.station i).levelled .ready false with state := .notReady }
        (insertNotice ⟨.stationChange, i.val + 1⟩ s.notices) := by
    rcases state with h | h <;>
      simp only [State.readyFell, State.station_atStation_self, state', h, path', if_true, State.enterState_atStation] <;>
      rfl
  rw [exec_readyFall run level timing, fell, State.endEvent_of_not_ready (by rw [State.station_atStation_self]; nofun)]

/-- A READY fall at a RECOVER station with an empty path (R31): the purge window stops, JAMMED again. -/
theorem exec_readyFall_of_recover (run : s.running = true) (level : (s.station i).lines.ready.level = true)
    (timing : (s.station i).lines.ready.timing = none) (path : (s.station i).path = [])
    (state : (s.station i).state = .recover) :
    exec (.readyFall i) s = .next (s.atStation i
      { (s.station i).levelled .ready false with state := .jammed, purgeTimer := none }
      (insertNotice ⟨.jam, i.val + 1⟩ s.notices)) := by
  have state' : ((s.station i).levelled .ready false).state = .recover := state
  have path' : ((s.station i).levelled .ready false).path = [] := path
  have fell : (s.atStation i ((s.station i).levelled .ready false) s.notices).readyFell i =
      s.atStation i { (s.station i).levelled .ready false with state := .jammed, purgeTimer := none }
        (insertNotice ⟨.jam, i.val + 1⟩ s.notices) := by
    simp only [State.readyFell, State.station_atStation_self, state', path', if_true, State.modStation_atStation,
      State.enterState_atStation]
    rfl
  rw [exec_readyFall run level timing, fell, State.endEvent_of_not_ready (by rw [State.station_atStation_self]; nofun)]

/-- A READY fall with sheets in the path of a READY or RECOVER station is a jam of cause DROPOUT (R31, R33). -/
theorem exec_readyFall_of_sheets (run : s.running = true) (level : (s.station i).lines.ready.level = true)
    (timing : (s.station i).lines.ready.timing = none) (path : (s.station i).path ≠ [])
    (state : (s.station i).state = .ready ∨ (s.station i).state = .recover) :
    exec (.readyFall i) s = .next (((s.atStation i ((s.station i).levelled .ready false) s.notices).declareJam i
      .dropout).endEvent i (s.station i).state) := by
  have state' : ((s.station i).levelled .ready false).state = (s.station i).state := rfl
  have path' : ¬ ((s.station i).levelled .ready false).path = [] := path
  have fell : (s.atStation i ((s.station i).levelled .ready false) s.notices).readyFell i =
      (s.atStation i ((s.station i).levelled .ready false) s.notices).declareJam i .dropout := by
    rcases state with h | h <;> simp only [State.readyFell, State.station_atStation_self, state', h, path', if_false]
  rw [exec_readyFall run level timing, fell]

end Levels

/-- Settles O39: the exit test by what the purge has left, and a READY change by station state and path. -/
theorem stationLevelsAct : Obligations.StationLevelsAct := by
  refine ⟨?_, ?_, ?_, ?_⟩
  · intro s i r run state jam outstanding
    refine ⟨fun level timing ready => ?_, fun clear level timing => ?_⟩
    · refine ⟨_, exec_jamFall_outstanding run state jam outstanding level timing ready, ?_⟩
      rw [State.station_atStation_self]
      exact ⟨rfl, jam, rfl, rfl, rfl, rfl, s.others_atStation i _ _⟩
    · refine ⟨_, exec_readyRise_outstanding run state jam outstanding clear level timing, ?_⟩
      rw [State.station_atStation_self]
      exact ⟨rfl, jam, rfl, s.others_atStation i _ _⟩
  · intro s i r lines c run state jam lost complete command
    rcases command with ⟨rfl, level, timing, ready, rfl⟩ | ⟨rfl, level, timing, clear, rfl⟩
    · rw [exec_jamFall run level timing, s.exitTest_of_complete i (st := (s.station i).levelled .jam false) s.notices state
        ⟨rfl, ready⟩ jam lost complete, State.endEvent_recovered]
      rfl
    · rw [exec_readyRise_of_jammed run level timing state, s.exitTest_of_complete i
        (st := (s.station i).readyRisen s.now) s.notices state ⟨clear, rfl⟩ jam lost complete, State.endEvent_recovered]
      rfl
  · intro s i run timing
    exact ⟨fun level off => exec_readyRise_of_offline run level timing off,
      fun d level state duration => exec_readyRise_of_notReady run level timing state duration,
      fun level path state => exec_readyFall_of_empty run level timing path state,
      fun level path state => exec_readyFall_of_recover run level timing path state⟩
  · intro s i e rest run level timing path room
    obtain ⟨full, count, fits⟩ := path_of_cons path (room.trans (by decide))
    have closed := (s.station i).exitOpen_levelled_ready
    obtain ⟨listed, opened⟩ := ((s.station i).levelled .ready false).jam_handOver_opened .dropout s.stamp rfl fits
    rw [← count, ← path]
    refine ⟨fun ready session => ?_, fun x ready session copying => ?_, fun r state session jam doubt => ?_⟩
    · rw [exec_readyFall_of_sheets run level timing full (.inl ready), s.declareJam_of_idle i
        (st := (s.station i).levelled .ready false) s.notices .dropout (.inl ready) full fits
        (Station.idle_of_none session), Station.afterJam_of_closed (by exact closed), Station.jamNotices_of_closed closed,
        State.endEvent_of_not_ready (by rw [State.station_atStation_self]; nofun)]
      refine ⟨_, (s.station i).newRecord .dropout s.stamp (s.station i).path.length listed, rfl, ?_⟩
      rw [State.station_atStation_self]
      exact ⟨rfl, rfl, Station.session_handOver_none (st := (s.station i).levelled .ready false) session, opened, rfl, rfl,
        rfl, rfl, rfl, rfl, rfl, rfl, rfl, rfl, rfl, rfl, s.others_atStation i _ _⟩
    · obtain ⟨y, timer, reader, result, released, follows⟩ := s.declareJam_of_copying_closed i
        (st := (s.station i).levelled .ready false) s.notices .dropout (.inl ready) full fits session copying closed
      rw [exec_readyFall_of_sheets run level timing full (.inl ready), result,
        State.endEvent_of_not_ready (by rw [State.station_atStation_self]; nofun)]
      refine ⟨_, y, (s.station i).newRecord .dropout s.stamp (s.station i).path.length listed, rfl, ?_⟩
      rw [State.station_atStation_self]
      exact ⟨rfl, rfl, rfl, released, follows _ rfl rfl, opened, rfl, rfl, rfl, rfl, rfl, rfl, rfl, rfl,
        s.others_atStation i _ _⟩
    · obtain ⟨listed, result⟩ := s.foldJam_of_closed i (st := (s.station i).levelled .ready false) s.notices .dropout
        (.inr state) jam doubt closed session
      rw [exec_readyFall_of_sheets run level timing full (.inr state), result,
        State.endEvent_of_not_ready (by rw [State.station_atStation_self]; nofun)]
      refine ⟨_, listed, rfl, ?_⟩
      rw [State.station_atStation_self]
      exact ⟨rfl, rfl, rfl, rfl, rfl, rfl, rfl, rfl, s.others_atStation i _ _⟩

end Sys2Proof.Machine
end

section
/-! Frames at a reader port (R40, R45, R47, R49, R178): what a frame leaves for the session engine, its refusal in
either device state, and the port's own conditions. -/

namespace Sys2Proof.Machine

/-- A part that has the stations of `s` but for station `i` has every other station as `s` has it. -/
theorem State.others_of_stations {b s : State} (same : b.stations = s.stations) (i : StationId) (st : Station)
    (ns : List Notice) : ∀ j, j ≠ i → (b.atStation i st ns).station j = s.station j := by
  intro j ne
  rw [b.station_atStation_of_ne i st ns ne, State.station, same]
  rfl

@[simp] theorem State.slot_atStation (s : State) (i : StationId) (st : Station) (ns : List Notice) (n : Nat) :
    (s.atStation i st ns).slot n = s.slot n := rfl

/-! ### The activity of a frame -/

/-- An activity, at a station in SAVE or not. -/
theorem State.activity_atStation_any (s : State) (i : StationId) (st : Station) (ns : List Notice) (link : TimerId) :
    (s.atStation i st ns).activity i link = s.atStation i (st.woken.reloaded s.now link) (st.wakeNotices i ns) := by
  by_cases save : st.state = .save
  · rw [s.activity_atStation_save i ns link save, Station.wakeNotices, if_pos save, Station.woken, if_pos save]
  · rw [s.activity_atStation i ns link save, Station.wakeNotices_of_ne save, Station.woken_of_ne save]

/-- The station as a frame leaves it for the session engine: its port in condition `after` (R47), and the CARD activity
made (R40, R45). -/
def Station.framed (st : Station) (now : Nat) (after : ReaderCondition) : Station :=
  ({ st.woken with reader := { st.reader with condition := after } } : Station).reloaded now st.profile.linkCard

@[simp] theorem Station.profile_framed (st : Station) (now : Nat) (after : ReaderCondition) :
    (st.framed now after).profile = st.profile := rfl

/-- A frame at a station that is not in SAVE leaves its state, and reloads the linked timer. -/
theorem Station.framed_of_awake {st : Station} (save : st.state ≠ .save) (now : Nat) (after : ReaderCondition) :
    (st.framed now after).state = st.state ∧
      (st.framed now after).timerA = st.linkedTimer now st.profile.linkCard .a ∧
      (st.framed now after).timerB = st.linkedTimer now st.profile.linkCard .b := by
  rw [Station.framed, Station.woken_of_ne save]
  exact ⟨rfl, rfl, rfl⟩

/-- The part as a frame leaves it for the session engine. -/
def State.framed (s : State) (i : StationId) (after : ReaderCondition) : State :=
  s.atStation i ((s.station i).framed s.now after) ((s.station i).wakeNotices i s.notices)

/-- In RUNNING a frame is taken after its activity, and the quiet test ends its event (R42, R53). -/
theorem State.readerFrame_of_running {s : State} (i : StationId) (run : s.running = true) (after : ReaderCondition)
    (take shut : State → State) :
    s.readerFrame i after take shut = (take (s.framed i after)).endEvent i (s.station i).state := by
  obtain ⟨alive, device⟩ : s.alive = true ∧ s.device = .running := by simpa [State.running] using run
  have active : (s.setReader i after).activity i (s.station i).profile.linkCard = s.framed i after :=
    s.activity_atStation_any i { s.station i with reader := { (s.station i).reader with condition := after } }
      s.notices _
  rw [State.readerFrame, if_pos alive]
  dsimp only
  rw [if_pos device, active]

/-- In SHUTDOWN a frame is answered by its refusal alone (R178). -/
theorem State.readerFrame_of_shutdown {s : State} (i : StationId) (alive : s.alive = true) (down : s.device = .shutdown)
    (after : ReaderCondition) (take shut : State → State) :
    s.readerFrame i after take shut = shut (s.atStation i
      { s.station i with reader := { (s.station i).reader with condition := after } } s.notices) := by
  rw [State.readerFrame, if_pos alive]
  dsimp only
  rw [if_neg (by rw [down]; nofun)]
  rfl

/-! ### The frames -/

/-- A CAMPUS card in range (R47), and a BANK card, as the CARD frame of either asks it. -/
theorem Card.campus_fits {id : BitVec 40} (fits : id.toNat ≤ 9999999999) :
    ∀ other, Card.campus id = .campus other → other.toNat ≤ 9999999999 := by
  rintro _ ⟨⟩
  exact fits

theorem Card.bank_fits (token : BitVec 128) :
    ∀ other, Card.bank token = .campus other → other.toNat ≤ 9999999999 := by
  rintro _ ⟨⟩

section Frames

variable {s : State} {i : StationId}

theorem State.portOpen_of_ne (takes : (s.station i).reader.condition ≠ .waitingIdle) : s.portOpen i = true :=
  decide_eq_true takes

/-- A CARD frame with an identity in range (R47). -/
theorem exec_cardFrame {card : Card} (takes : (s.station i).reader.condition ≠ .waitingIdle)
    (fits : ∀ id, card = .campus id → id.toNat ≤ 9999999999) :
    exec (.cardFrame i card) s = .next (s.readerFrame i .looking (fun t => t.takeCard i card)
      (fun t => t.refuse i .outOfService (cardClass card))) := by
  have known : cardInRange card = true := by
    cases card with
    | campus id => exact decide_eq_true (fits id rfl)
    | bank token => rfl
  show Host.Outcome.next (s.cardArrives i card) = _
  rw [State.cardArrives, if_pos (State.portOpen_of_ne takes), if_pos known]

theorem exec_endFrame (takes : (s.station i).reader.condition ≠ .waitingIdle) :
    exec (.endFrame i) s = .next (s.readerFrame i .looking (fun t => t.takeEnd i)
      (fun t => t.refuse i .outOfService .none)) := by
  show Host.Outcome.next (s.endArrives i) = _
  rw [State.endArrives, if_pos (State.portOpen_of_ne takes)]

theorem exec_malformedFrame (takes : (s.station i).reader.condition ≠ .waitingIdle) :
    exec (.malformedFrame i) s = .next (s.discardFrame i .waitingIdle) := by
  show Host.Outcome.next (s.malformedArrives i) = _
  rw [State.malformedArrives, if_pos (State.portOpen_of_ne takes)]

theorem exec_readerGapTimeout (started : (s.station i).reader.condition = .assembling) :
    exec (.readerGapTimeout i) s = .next (s.discardFrame i .looking) := by
  show Host.Outcome.next (s.readerGap i) = _
  rw [State.readerGap, if_pos started]

theorem exec_cardFrame_of_running {card : Card} (run : s.running = true)
    (takes : (s.station i).reader.condition ≠ .waitingIdle) (fits : ∀ id, card = .campus id → id.toNat ≤ 9999999999) :
    exec (.cardFrame i card) s = .next (((s.framed i .looking).takeCard i card).endEvent i (s.station i).state) := by
  rw [exec_cardFrame takes fits, State.readerFrame_of_running i run]

theorem exec_endFrame_of_running (run : s.running = true) (takes : (s.station i).reader.condition ≠ .waitingIdle) :
    exec (.endFrame i) s = .next (((s.framed i .looking).takeEnd i).endEvent i (s.station i).state) := by
  rw [exec_endFrame takes, State.readerFrame_of_running i run]

theorem State.discardFrame_of_running (run : s.running = true) (after : ReaderCondition) :
    s.discardFrame i after = ((s.framed i after).refuse i .readError .none).endEvent i (s.station i).state := by
  rw [State.discardFrame, State.readerFrame_of_running i run]

/-! ### Refusals of frames (R49) -/

/-- The refusal of a frame, once its activity is made. -/
theorem State.refuse_framed (s : State) (i : StationId) (after : ReaderCondition) (reason : RefuseReason)
    (card : CardClass) :
    (s.framed i after).refuse i reason card = s.atStation i
      (((s.station i).woken.refused ⟨reason, card, s.stamp⟩ after).reloaded s.now (s.station i).profile.linkCard)
      (insertNotice ⟨.cardRefused, i.val + 1⟩ ((s.station i).wakeNotices i s.notices)) :=
  s.refuse_atStation i ((s.station i).framed s.now after) _ reason card

/-- At a station that is not in SAVE a refused frame leaves the refusal, the reloaded timer and CARD-REFUSED. -/
theorem State.refuse_framed_of_awake (after : ReaderCondition) (reason : RefuseReason) (card : CardClass)
    (save : (s.station i).state ≠ .save) :
    ((s.framed i after).refuse i reason card).endEvent i (s.station i).state = s.atStation i
      (((s.station i).refused ⟨reason, card, s.stamp⟩ after).reloaded s.now (s.station i).profile.linkCard)
      (insertNotice ⟨.cardRefused, i.val + 1⟩ s.notices) := by
  rw [s.refuse_framed, Station.woken_of_ne save, Station.wakeNotices_of_ne save,
    State.endEvent_of_same (by rw [State.station_atStation_self]; rfl)]

/-- A frame refused at a SAVE station without a session wakes it; back in SAVE where it is quiet at the end (R45). -/
theorem State.refuse_framed_in_save (after : ReaderCondition) (reason : RefuseReason) (card : CardClass)
    (save : (s.station i).state = .save) (session : (s.station i).session = none) :
    s.RefusedInSave i ⟨reason, card, s.stamp⟩ after
      (((s.framed i after).refuse i reason card).endEvent i (s.station i).state) := by
  have woken : (s.station i).woken = { s.station i with state := .ready } := by rw [Station.woken, if_pos save]
  rw [s.refuse_framed, woken, Station.wakeNotices, if_pos save]
  refine ⟨fun d duration => ?_, fun none quiet path => ?_⟩
  · have on : (({ s.station i with state := .ready } : Station).refused ⟨reason, card, s.stamp⟩ after).state ≠
      .offline := nofun
    rw [State.endEvent_of_not_quiet (by
      rw [State.station_atStation_self]
      exact Station.not_quiet_reloaded on duration s.now), Station.reloaded_of_duration on duration]
    rfl
  · have asleep := s.quietTest_of_quiet_none i
      (st := ({ s.station i with state := .ready } : Station).refused ⟨reason, card, s.stamp⟩ after)
      (insertNotice ⟨.cardRefused, i.val + 1⟩ (insertNotice ⟨.stationChange, i.val + 1⟩ s.notices)) quiet rfl path
      session
    have idle := Station.reloaded_of_idle (now := s.now) (link := (s.station i).profile.linkCard)
      (st := ({ s.station i with state := .ready } : Station).refused ⟨reason, card, s.stamp⟩ after) (.inr none)
    rw [idle, State.endEvent, if_pos ⟨by rw [save]; nofun, by
      rw [State.station_atStation_self]
      rfl⟩, asleep]
    rfl

/-- In SHUTDOWN the refusal is all that a frame leaves (R178). -/
theorem State.refuse_shut (s : State) (i : StationId) (after : ReaderCondition) (reason : RefuseReason)
    (card : CardClass) :
    (s.atStation i { s.station i with reader := { (s.station i).reader with condition := after } } s.notices).refuse i
      reason card = s.atStation i ((s.station i).refused ⟨reason, card, s.stamp⟩ after)
        (insertNotice ⟨.cardRefused, i.val + 1⟩ s.notices) :=
  s.refuse_atStation i { s.station i with reader := { (s.station i).reader with condition := after } } _ reason card

theorem State.discardFrame_of_shutdown (alive : s.alive = true) (down : s.device = .shutdown)
    (after : ReaderCondition) :
    s.discardFrame i after = s.atStation i ((s.station i).refused ⟨.readError, .none, s.stamp⟩ after)
        (insertNotice ⟨.cardRefused, i.val + 1⟩ s.notices) := by
  rw [State.discardFrame, State.readerFrame_of_shutdown i alive down, s.refuse_shut]

/-- A frame that fails its tests at a station that is not in SAVE, in either device state (R47). -/
theorem State.discardFrame_leaves (alive : s.alive = true) (save : (s.station i).state ≠ .save)
    (after : ReaderCondition) :
    ∃ st, s.discardFrame i after = s.atStation i st (insertNotice ⟨.cardRefused, i.val + 1⟩ s.notices) ∧
      st.reader.condition = after ∧ st.lastRefusal = some ⟨.readError, .none, s.stamp⟩ ∧
      st.session = (s.station i).session ∧ st.state = (s.station i).state := by
  cases device : s.device with
  | running =>
      have run : s.running = true := by simp [State.running, alive, device]
      rw [State.discardFrame_of_running run, State.refuse_framed_of_awake after _ _ save]
      exact ⟨_, rfl, ReaderPort.condition_produce _ _, rfl, rfl, rfl⟩
  | shutdown =>
      rw [State.discardFrame_of_shutdown alive device]
      exact ⟨_, rfl, ReaderPort.condition_produce _ _, rfl, rfl, rfl⟩

end Frames

/-! ### The port -/

/-- A frame produced while one is being sent and four wait takes the place of the oldest waiting (R48). -/
theorem ReaderPort.produce_of_full {p : ReaderPort} {g : Indicator} (f : Indicator) (sending : p.sending = some g)
    (full : p.waiting.length = 4) : p.produce f = { p with waiting := p.waiting.tail ++ [f] } := by
  rcases p.produce_cases f with ⟨free, -⟩ | ⟨-, room, -⟩ | ⟨-, -, made⟩
  · exact nomatch sending.symm.trans free
  · rw [full] at room
    exact absurd room (by decide)
  · exact made

/-- Settles O48: a frame that fails its tests is a refusal in either device state; the rest are changes of one port. -/
theorem readerPorts : Obligations.ReaderPorts := by
  refine ⟨fun s i alive => ⟨fun takes save => ?_, fun assembling save => ?_, fun looking => ?_, fun waiting => ?_⟩,
    fun s i f rest supply pin waiting => ?_, fun s i supply pin waiting => ?_, fun p f a b c d g sending waiting => ?_⟩
  · obtain ⟨st, result, port, refusal, session, state⟩ := State.discardFrame_leaves alive save .waitingIdle
    rw [exec_malformedFrame takes, result]
    refine ⟨_, rfl, ?_⟩
    rw [State.station_atStation_self]
    exact ⟨port, refusal, session, state, rfl, rfl, rfl, s.others_atStation i _ _⟩
  · obtain ⟨st, result, port, refusal, session, -⟩ := State.discardFrame_leaves alive save .looking
    rw [exec_readerGapTimeout assembling, result]
    refine ⟨_, rfl, ?_⟩
    rw [State.station_atStation_self]
    exact ⟨port, refusal, session, rfl, s.others_atStation i _ _⟩
  · show Host.Outcome.next (s.readerStart i) = _
    rw [State.readerStart, if_pos ⟨alive, looking⟩]
    rfl
  · show Host.Outcome.next (s.readerIdle i) = _
    rw [State.readerIdle, if_pos ⟨alive, waiting⟩]
    rfl
  · have next : (s.station i).reader.sent = { (s.station i).reader with sending := some f, waiting := rest } := by
      rw [ReaderPort.sent, waiting]
    show Host.Outcome.next (s.indicatorSent i) = _
    rw [State.indicatorSent, if_pos ⟨supply, pin⟩, State.modStation, next]
  · have next : (s.station i).reader.sent = { (s.station i).reader with sending := none } := by
      simp only [ReaderPort.sent, waiting]
    show Host.Outcome.next (s.indicatorSent i) = _
    rw [State.indicatorSent, if_pos ⟨supply, pin⟩, State.modStation, next]
  · rw [ReaderPort.produce_of_full f sending (by rw [waiting]; rfl), waiting]
    exact ⟨sending, rfl⟩

end Sys2Proof.Machine
end

section
/-! Cards that are refused (R53 to R55, R65): by the session, the station and the journal guard, and by the account as
its tested read finds it (R129, R130). -/

namespace Sys2Proof.Machine

/-! ### Tested reads at a part given by one station -/

/-- A slot after a tested read (R129, R130): correctable damage is mended, uncorrectable damage makes it SUSPECT. -/
def Slot.tested (a : Slot) : Slot :=
  { a with
    suspect := a.suspect || decide (a.damage = .uncorrectable)
    damage := if a.suspect = false ∧ a.damage = .correctable then .sound else a.damage }

/-- The part after a tested read of slot `n`, which holds `a`, but for the notice of it. -/
def State.tested (s : State) (n : Nat) (a : Slot) : State :=
  { s with
    slots := if a.suspect = true ∨ a.damage = .sound then s.slots else putSlot n a.tested s.slots
    lastCorrected := if a.suspect = false ∧ a.damage = .correctable then some n else s.lastCorrected
    lastFault := if a.suspect = false ∧ a.damage = .uncorrectable then some n else s.lastFault }

@[simp] theorem State.journal_tested (s : State) (n : Nat) (a : Slot) : (s.tested n a).journal = s.journal := rfl
@[simp] theorem State.reservations_tested (s : State) (n : Nat) (a : Slot) :
    (s.tested n a).reservations = s.reservations := rfl
@[simp] theorem State.sessionSerial_tested (s : State) (n : Nat) (a : Slot) :
    (s.tested n a).sessionSerial = s.sessionSerial := rfl

/-- The notices after a tested read of a slot that holds `a`. -/
def Slot.testedNotices (a : Slot) (ns : List Notice) : List Notice :=
  if a.suspect = false ∧ a.damage = .uncorrectable then insertNotice ⟨.memoryFault, 0⟩ ns
  else if a.suspect = false ∧ a.damage = .correctable then insertNotice ⟨.memoryCorrected, 0⟩ ns
  else ns

/-- A tested read finds the slot as the read has left it: SUSPECT, or content to use. -/
theorem State.testedRead_atStation (s : State) (i : StationId) (st : Station) (ns : List Notice) {n : Nat} {a : Slot}
    (slot : s.slot n = some a) :
    (s.atStation i st ns).testedRead n = ((s.tested n a).atStation i st (a.testedNotices ns),
      if a.tested.suspect then .suspect a.tested else .content a.tested) := by
  have held : (s.atStation i st ns).slot n = some a := slot
  unfold State.testedRead State.tested Slot.tested Slot.testedNotices
  rw [held]
  rcases a with ⟨identity, suspect, account, damage⟩
  cases suspect <;> cases damage <;> rfl

/-- Sound content is read with no change of the part. -/
theorem State.tested_of_sound (s : State) (n : Nat) {a : Slot} (known : a.suspect = false) (sound : a.damage = .sound) :
    s.tested n a = s ∧ a.tested = a := by
  rcases a with ⟨identity, suspect, account, damage⟩
  cases known
  cases sound
  exact ⟨rfl, rfl⟩

/-- The slot read is left as tested, every other slot as it was. -/
theorem State.slot_tested {s : State} {n : Nat} {a : Slot} (slot : s.slot n = some a) :
    (s.tested n a).slot n = some a.tested ∧ ∀ m, m ≠ n → (s.tested n a).slot m = s.slot m := by
  by_cases kept : a.suspect = true ∨ a.damage = .sound
  · have same : s.tested n a = { s with
        lastCorrected := (s.tested n a).lastCorrected, lastFault := (s.tested n a).lastFault } := by
      simp only [State.tested, if_pos kept]
    have unread : a.tested = a := by
      rcases a with ⟨identity, suspect, account, damage⟩
      cases suspect <;> cases damage <;> simp_all [Slot.tested]
    rw [same, unread]
    exact ⟨slot, fun _ _ => rfl⟩
  · simp only [State.slot, State.tested, if_neg kept]
    exact ⟨getSlot_putSlot_self _ _ _, fun m ne => getSlot_putSlot_of_ne ne _ _⟩

/-! ### The account's own refusals (R55, R65) -/

/-- What an account in the condition `a` refuses a card, at an admission (`opening`) at minimum opening amount `least`,
or at an extend. -/
def Slot.Refuses (a : Slot) (period least : Nat) (opening : Bool) (reason : RefuseReason) : Prop :=
  (a.tested.suspect = true ∧ reason = .unavailable) ∨
    (a.tested.suspect = false ∧ a.account.blocked = true ∧ reason = .blocked) ∨
    (a.tested.suspect = false ∧ a.account.blocked = false ∧ reason = .lowCredit ∧
      (a.account.credit period = 0 ∨ (opening = true ∧ a.account.credit period < least)))

section AtStation

variable (s : State) (i : StationId) {st : Station} (ns : List Notice)

/-- An admission that the account refuses. -/
theorem State.admitCampus_of_refuses {identity n : Nat} {a : Slot} {reason : RefuseReason}
    (found : s.lookup identity = some n) (slot : s.slot n = some a)
    (refuses : a.Refuses s.period st.profile.minOpening true reason) :
    (s.atStation i st ns).admitCampus i identity =
      ((s.tested n a).atStation i st (a.testedNotices ns)).refuse i reason .campus := by
  have found' : (s.atStation i st ns).lookup identity = some n := found
  have account : a.tested.account = a.account := rfl
  have period : ((s.tested n a).atStation i st (a.testedNotices ns)).period = s.period := rfl
  simp only [State.admitCampus, found', s.testedRead_atStation i st ns slot]
  rcases refuses with ⟨lost, rfl⟩ | ⟨known, blocked, rfl⟩ | ⟨known, usable, rfl, low⟩
  · simp only [lost, if_true]
  · simp only [known, account, blocked, Bool.false_eq_true, if_false, if_true]
  · simp only [known, account, usable, period, State.station_atStation_self, Bool.false_eq_true, if_false]
    rw [if_pos (low.imp_right And.right)]

/-- An extend that the account refuses. -/
theorem State.extendSession_of_refuses {n : Nat} {a : Slot} {least : Nat} {reason : RefuseReason}
    (slot : s.slot n = some a) (refuses : a.Refuses s.period least false reason) :
    (s.atStation i st ns).extendSession i n =
      ((s.tested n a).atStation i st (a.testedNotices ns)).refuse i reason .campus := by
  have account : a.tested.account = a.account := rfl
  have period : ((s.tested n a).atStation i st (a.testedNotices ns)).period = s.period := rfl
  simp only [State.extendSession, s.testedRead_atStation i st ns slot]
  rcases refuses with ⟨lost, rfl⟩ | ⟨known, blocked, rfl⟩ | ⟨known, usable, rfl, low⟩
  · simp only [lost, if_true]
  · simp only [known, account, blocked, Bool.false_eq_true, if_false, if_true]
  · have empty : a.account.credit s.period = 0 := low.resolve_right fun h => nomatch h.1
    simp only [known, account, usable, period, empty, Bool.false_eq_true, if_false, if_true]

/-! ### The table of R53 and the checks of R54 -/

/-- The journal guard of R154. -/
theorem State.guardPasses_eq : s.guardPasses = decide (s.journal.length + s.reservations ≤ 510) := rfl

/-- A CAMPUS card passes to the account at a READY station without a session whose guard passes (R54). -/
theorem State.takeCard_admits {id : BitVec 40} (session : st.session = none) (ready : st.state = .ready)
    (guard : s.journal.length + s.reservations ≤ 510) :
    (s.atStation i st ns).takeCard i (.campus id) = (s.atStation i st ns).admitCampus i id.toNat := by
  have passes : (s.atStation i st ns).guardPasses = true := decide_eq_true guard
  simp only [State.takeCard, State.admitCard, State.station_atStation_self, session, ready, passes, ne_eq,
    not_true_eq_false, if_false, Bool.not_true, Bool.false_eq_true]

/-- The session's own card extends it (R53). -/
theorem State.takeCard_extends {id : BitVec 40} {x : Session} {n : Nat} {a : Slot} (session : st.session = some x)
    (copying : x.copying = true) (payment : x.payment = .campus n) (slot : s.slot n = some a)
    (own : a.identity = id.toNat) :
    (s.atStation i st ns).takeCard i (.campus id) = (s.atStation i st ns).extendSession i n := by
  have held : (s.atStation i st ns).slot n = some a := slot
  simp only [State.takeCard, State.station_atStation_self, session, copying, if_true, State.ownCard, payment, held, own]

/-- Why a card is refused before any account is read: by the station, the guard or the directory at a station without a
session (R54, R55), or BUSY by the session there (R53). -/
def State.RefusesCard (s : State) (st : Station) (card : Card) (reason : RefuseReason) : Prop :=
  (st.session = none ∧
      ((st.state ≠ .ready ∧ reason = .outOfService) ∨
       (st.state = .ready ∧ 510 < s.journal.length + s.reservations ∧ reason = .journalFull) ∨
       (∃ id, card = .campus id ∧ st.state = .ready ∧ s.journal.length + s.reservations ≤ 510 ∧
         s.lookup id.toNat = none ∧ reason = .unknownCard))) ∨
    (∃ x, st.session = some x ∧ reason = .busy ∧
      (x.copying = false ∨ (∃ token, card = .bank token) ∨ (∀ k, x.payment ≠ .campus k) ∨
        (∃ id k a, card = .campus id ∧ x.payment = .campus k ∧ s.slot k = some a ∧ a.identity ≠ id.toNat)))

/-- A card that is not the session's own extends nothing (R53). -/
theorem State.ownCard_of_other {x : Session} {card : Card}
    (other : (∃ token, card = .bank token) ∨ (∀ k, x.payment ≠ .campus k) ∨
      (∃ id k a, card = .campus id ∧ x.payment = .campus k ∧ s.slot k = some a ∧ a.identity ≠ id.toNat)) :
    s.ownCard x card = none := by
  rcases other with ⟨token, rfl⟩ | unbound | ⟨id, k, a, rfl, payment, slot, ne⟩
  · simp [State.ownCard]
  · cases payment : x.payment with
    | campus k => exact absurd payment (unbound k)
    | bank ref token => simp [State.ownCard, payment]
    | counter ref => simp [State.ownCard, payment]
  · simp [State.ownCard, payment, slot, ne]

/-- Such a card is refused with its reason, and nothing else happens. -/
theorem State.takeCard_of_refuses {card : Card} {reason : RefuseReason} (refuses : s.RefusesCard st card reason) :
    (s.atStation i st ns).takeCard i card = (s.atStation i st ns).refuse i reason (cardClass card) := by
  rcases refuses with ⟨session, ⟨busy, rfl⟩ | ⟨ready, full, rfl⟩ | ⟨id, rfl, ready, room, unknown, rfl⟩⟩ |
    ⟨x, session, rfl, other⟩
  · simp only [State.takeCard, State.admitCard, State.station_atStation_self, session, ne_eq, busy, not_false_eq_true,
      if_true]
  · have fails : (s.atStation i st ns).guardPasses = false := decide_eq_false (Nat.not_le.mpr full)
    simp only [State.takeCard, State.admitCard, State.station_atStation_self, session, ready, fails, ne_eq,
      not_true_eq_false, if_false, Bool.not_false, if_true]
  · have unknown' : (s.atStation i st ns).lookup id.toNat = none := unknown
    rw [s.takeCard_admits i ns session ready room, State.admitCampus, unknown']
    rfl
  · simp only [State.takeCard, State.station_atStation_self, session]
    split
    · rename_i copying
      rw [State.ownCard_of_other (s.atStation i st ns) (other.resolve_left (by simp [copying]))]
    · rfl

end AtStation

/-! ### The refused CARD frame -/

section Frames

variable {s : State} {i : StationId}

/-- What a refusal before the account leaves, at a station that is not in SAVE. -/
theorem exec_cardFrame_refused {card : Card} {reason : RefuseReason} (run : s.running = true)
    (takes : (s.station i).reader.condition ≠ .waitingIdle) (save : (s.station i).state ≠ .save)
    (fits : ∀ id, card = .campus id → id.toNat ≤ 9999999999) (refuses : s.RefusesCard (s.station i) card reason) :
    exec (.cardFrame i card) s = .next (s.atStation i
      (((s.station i).refused ⟨reason, cardClass card, s.stamp⟩ .looking).reloaded s.now (s.station i).profile.linkCard)
      (insertNotice ⟨.cardRefused, i.val + 1⟩ s.notices)) := by
  have framed : s.RefusesCard ((s.station i).framed s.now .looking) card reason := by
    rw [← Station.woken_of_ne save] at refuses
    exact refuses
  rw [exec_cardFrame_of_running run takes fits, State.framed, s.takeCard_of_refuses i _ framed, ← State.framed,
    State.refuse_framed_of_awake _ _ _ save]

/-- What the account's refusal leaves, at a station that is not in SAVE: `opening` at an admission, else at an extend by
the session's own card. -/
theorem exec_cardFrame_refused_by_account {id : BitVec 40} {n : Nat} {a : Slot} {opening : Bool} {reason : RefuseReason}
    (run : s.running = true) (takes : (s.station i).reader.condition ≠ .waitingIdle) (fits : id.toNat ≤ 9999999999)
    (save : (s.station i).state ≠ .save) (slot : s.slot n = some a)
    (asks : (opening = true ∧ (s.station i).session = none ∧ (s.station i).state = .ready ∧
        s.journal.length + s.reservations ≤ 510 ∧ s.lookup id.toNat = some n) ∨
      (opening = false ∧ ∃ x, (s.station i).session = some x ∧ x.copying = true ∧ x.payment = .campus n ∧
        a.identity = id.toNat))
    (refuses : a.Refuses s.period (s.station i).profile.minOpening opening reason) :
    exec (.cardFrame i (.campus id)) s = .next ((s.tested n a).atStation i
      (((s.station i).refused ⟨reason, .campus, s.stamp⟩ .looking).reloaded s.now (s.station i).profile.linkCard)
      (insertNotice ⟨.cardRefused, i.val + 1⟩ (a.testedNotices s.notices))) := by
  have framed : s.framed i .looking = s.atStation i ((s.station i).framed s.now .looking) s.notices := by
    rw [State.framed, Station.wakeNotices_of_ne save]
  obtain ⟨state, -⟩ := Station.framed_of_awake save s.now .looking
  have answered : (s.framed i .looking).takeCard i (.campus id) = ((s.tested n a).atStation i
      ((s.station i).framed s.now .looking) (a.testedNotices s.notices)).refuse i reason .campus := by
    rw [framed]
    rcases asks with ⟨rfl, session, ready, guard, found⟩ | ⟨rfl, x, session, copying, payment, own⟩
    · rw [s.takeCard_admits i _ (by exact session) (state.trans ready) guard,
        s.admitCampus_of_refuses i _ found slot (by exact refuses)]
    · rw [s.takeCard_extends i _ (by exact session) copying payment slot own,
        s.extendSession_of_refuses i _ slot refuses]
  rw [exec_cardFrame_of_running run takes (Card.campus_fits fits), answered, State.refuse_atStation,
    State.endEvent_of_same (by rw [State.station_atStation_self]; exact state), Station.framed,
    Station.woken_of_ne save]
  rfl

/-- What the account itself refuses, by the fields of its slot. -/
theorem Slot.refuses_of_fields {a : Slot} {period least credit : Nat} {opening : Bool} {reason : RefuseReason}
    (figure : credit = (match a.account.figures with
      | .prepaid balance => balance - a.account.held
      | .department limit spent p => limit - (if p = period then spent else 0) - a.account.held))
    (why : ((a.suspect = true ∨ a.damage = .uncorrectable) ∧ reason = .unavailable) ∨
      (a.suspect = false ∧ a.damage ≠ .uncorrectable ∧ a.account.blocked = true ∧ reason = .blocked) ∨
      (a.suspect = false ∧ a.damage ≠ .uncorrectable ∧ a.account.blocked = false ∧ reason = .lowCredit ∧
        (credit = 0 ∨ (opening = true ∧ credit < least)))) : a.Refuses period least opening reason := by
  have credit' : a.account.credit period = credit := by
    rw [figure, Account.credit]
    cases a.account.figures <;> rfl
  rw [← credit'] at why
  rcases why with ⟨lost, rfl⟩ | ⟨known, content, blocked, rfl⟩ | ⟨known, content, usable, rfl, low⟩
  · exact .inl ⟨by simpa [Slot.tested] using lost, rfl⟩
  · exact .inr (.inl ⟨by simp [Slot.tested, known, content], blocked, rfl⟩)
  · exact .inr (.inr ⟨by simp [Slot.tested, known, content], usable, rfl, low⟩)

/-- A frame refused at a SAVE station, whatever command it is (R45). -/
theorem exec_refused_in_save {c : Instr} {refusal : LastRefusal} {condition : ReaderCondition} (run : s.running = true)
    (save : (s.station i).state = .save) (session : (s.station i).session = none)
    (takes : (s.station i).reader.condition ≠ .waitingIdle)
    (why : (c = .endFrame i ∧ refusal = ⟨.busy, .none, s.stamp⟩ ∧ condition = .looking) ∨
      (c = .malformedFrame i ∧ refusal = ⟨.readError, .none, s.stamp⟩ ∧ condition = .waitingIdle) ∨
      (c = .readerGapTimeout i ∧ (s.station i).reader.condition = .assembling ∧
        refusal = ⟨.readError, .none, s.stamp⟩ ∧ condition = .looking) ∨
      (∃ token, c = .cardFrame i (.bank token) ∧ 510 < s.journal.length + s.reservations ∧
        refusal = ⟨.journalFull, .bank, s.stamp⟩ ∧ condition = .looking) ∨
      (∃ id, c = .cardFrame i (.campus id) ∧ id.toNat ≤ 9999999999 ∧ condition = .looking ∧
        ((510 < s.journal.length + s.reservations ∧ refusal = ⟨.journalFull, .campus, s.stamp⟩) ∨
          (s.journal.length + s.reservations ≤ 510 ∧ s.lookup id.toNat = none ∧
            refusal = ⟨.unknownCard, .campus, s.stamp⟩)))) :
    ∃ t, exec c s = .next t ∧ s.RefusedInSave i refusal condition t := by
  have ready : ((s.station i).framed s.now .looking).state = .ready := by
    show (s.station i).woken.state = _
    rw [Station.woken, if_pos save]
  have empty : ((s.station i).framed s.now .looking).session = none := session
  have card (card : Card) (reason : RefuseReason) (fits : ∀ id, card = .campus id → id.toNat ≤ 9999999999)
      (refuses : s.RefusesCard ((s.station i).framed s.now .looking) card reason) :
      ∃ t, exec (.cardFrame i card) s = .next t ∧ s.RefusedInSave i ⟨reason, cardClass card, s.stamp⟩ .looking t := by
    refine ⟨_, exec_cardFrame_of_running run takes fits, ?_⟩
    rw [State.framed, s.takeCard_of_refuses i _ refuses, ← State.framed]
    exact State.refuse_framed_in_save _ _ _ save session
  rcases why with ⟨rfl, rfl, rfl⟩ | ⟨rfl, rfl, rfl⟩ | ⟨rfl, started, rfl, rfl⟩ | ⟨token, rfl, full, rfl, rfl⟩ |
    ⟨id, rfl, fits, rfl, ⟨full, rfl⟩ | ⟨room, unknown, rfl⟩⟩
  · refine ⟨_, exec_endFrame_of_running run takes, ?_⟩
    have busy : (s.framed i .looking).takeEnd i = (s.framed i .looking).refuse i .busy .none := by
      rw [State.takeEnd, State.framed, State.station_atStation_self, empty]
    rw [busy]
    exact State.refuse_framed_in_save _ _ _ save session
  · rw [exec_malformedFrame takes, State.discardFrame_of_running run]
    exact ⟨_, rfl, State.refuse_framed_in_save _ _ _ save session⟩
  · rw [exec_readerGapTimeout started, State.discardFrame_of_running run]
    exact ⟨_, rfl, State.refuse_framed_in_save _ _ _ save session⟩
  · exact card (.bank token) .journalFull (Card.bank_fits token) (.inl ⟨empty, .inr (.inl ⟨ready, full, rfl⟩)⟩)
  · exact card (.campus id) .journalFull (Card.campus_fits fits) (.inl ⟨empty, .inr (.inl ⟨ready, full, rfl⟩)⟩)
  · exact card (.campus id) .unknownCard (Card.campus_fits fits)
      (.inl ⟨empty, .inr (.inr ⟨id, rfl, ready, room, unknown, rfl⟩)⟩)

/-- A frame refused in SHUTDOWN, whatever command it is (R178). -/
theorem exec_refused_in_shutdown {c : Instr} {refusal : LastRefusal} {condition : ReaderCondition}
    (alive : s.alive = true) (down : s.device = .shutdown) (takes : (s.station i).reader.condition ≠ .waitingIdle)
    (why : (∃ id, c = .cardFrame i (.campus id) ∧ id.toNat ≤ 9999999999 ∧
        refusal = ⟨.outOfService, .campus, s.stamp⟩ ∧ condition = .looking) ∨
      (∃ token, c = .cardFrame i (.bank token) ∧ refusal = ⟨.outOfService, .bank, s.stamp⟩ ∧ condition = .looking) ∨
      (c = .endFrame i ∧ refusal = ⟨.outOfService, .none, s.stamp⟩ ∧ condition = .looking) ∨
      (c = .malformedFrame i ∧ refusal = ⟨.readError, .none, s.stamp⟩ ∧ condition = .waitingIdle)) :
    exec c s = .next (s.atStation i ((s.station i).refused refusal condition)
      (insertNotice ⟨.cardRefused, i.val + 1⟩ s.notices)) := by
  rcases why with ⟨id, rfl, fits, rfl, rfl⟩ | ⟨token, rfl, rfl, rfl⟩ | ⟨rfl, rfl, rfl⟩ | ⟨rfl, rfl, rfl⟩
  · rw [exec_cardFrame takes (Card.campus_fits fits), State.readerFrame_of_shutdown i alive down, s.refuse_shut]
    rfl
  · rw [exec_cardFrame takes (Card.bank_fits token), State.readerFrame_of_shutdown i alive down, s.refuse_shut]
    rfl
  · rw [exec_endFrame takes, State.readerFrame_of_shutdown i alive down, s.refuse_shut]
  · rw [exec_malformedFrame takes, State.discardFrame_of_shutdown alive down]

end Frames

/-- A station's refused frame leaves a port that sends and waits as the refusal's frame makes it. -/
theorem ReaderPort.produce_with_condition (p : ReaderPort) (c : ReaderCondition) (f : Indicator) :
    (({ p with condition := c } : ReaderPort).produce f).sending = (p.produce f).sending ∧
      (({ p with condition := c } : ReaderPort).produce f).waiting = (p.produce f).waiting := by
  unfold ReaderPort.produce
  cases p.sending with
  | none => exact ⟨rfl, rfl⟩
  | some g =>
      dsimp only
      split <;> exact ⟨rfl, rfl⟩

/-- Settles O44: before an account is read the reason follows from the session, the station, the guard and the
directory; the account's own reasons follow from what its tested read finds. -/
theorem cardRefusals : Obligations.CardRefusals := by
  refine ⟨?_, ?_, ?_, fun s i c refusal condition alive down takes why => exec_refused_in_shutdown alive down takes why,
    fun s i c refusal condition run save session takes why => exec_refused_in_save run save session takes why⟩
  · intro s i id run takes fits save reason why
    have refuses : s.RefusesCard (s.station i) (.campus id) reason := by
      rcases why with ⟨session, off | full | ⟨ready, room, unknown, rfl⟩⟩ | ⟨x, session, idle, rfl⟩
      · exact .inl ⟨session, .inl off⟩
      · exact .inl ⟨session, .inr (.inl full)⟩
      · exact .inl ⟨session, .inr (.inr ⟨id, rfl, ready, room, unknown, rfl⟩)⟩
      · exact .inr ⟨x, session, rfl, .inl idle⟩
    obtain ⟨sending, waiting⟩ := (s.station i).reader.produce_with_condition .looking (.refuse reason)
    refine ⟨_, exec_cardFrame_refused run takes save (Card.campus_fits fits) refuses, ?_⟩
    rw [State.station_atStation_self]
    exact ⟨rfl, sending, waiting, rfl, rfl, rfl, rfl, rfl, rfl, s.others_atStation i _ _⟩
  · rintro s i card reason refused run takes save fits refuses rfl
    rw [exec_cardFrame_refused run takes save fits refuses]
    refine ⟨fun idle => ?_, fun d on duration => ?_⟩
    · rw [Station.reloaded_of_idle (by exact idle)]
      cases card <;> rfl
    · rw [Station.reloaded_of_duration (by exact on) (by exact duration)]
      cases card <;> rfl
  · intro s i id n credit a opening reason run takes fits save slot asks figure why
    obtain ⟨read, others⟩ := State.slot_tested slot
    refine ⟨_, exec_cardFrame_refused_by_account run takes fits save slot asks (Slot.refuses_of_fields figure why), ?_⟩
    simp only [State.slot_atStation]
    rw [State.station_atStation_self]
    exact ⟨rfl, rfl, Station.reloaded_of_timers rfl rfl, rfl, rfl, rfl, rfl, rfl, rfl, read, others, by simp, by simp,
      State.sessionSerial_tested s n a,
      State.others_of_stations rfl i _ _⟩

end Sys2Proof.Machine
end

section
/-! Sessions that begin (R52, R55 to R57, R64), an authorization that ends (R61 to R63) and the pause evaluation that
follows (R93 to R103), each as what it makes of one station; BANK admissions. -/

namespace Sys2Proof.Machine

/-! ### The pause evaluation of an ACTIVE session, and of one just extended -/

/-- The pause condition looks neither at the phase nor at FORCED (R92). -/
theorem Session.pauseCondition_with_phase (x : Session) (phase : Phase) (profile : Profile) :
    ({ x with phase := phase } : Session).pauseCondition profile = x.pauseCondition profile := rfl

/-- The session after a pause evaluation (R95, R102). -/
def Session.evaluated (x : Session) (profile : Profile) : Session :=
  { x with
    phase := if x.pauseCondition profile then (if x.phase = .active then .holding else x.phase) else .active
    forced := if x.pauseCondition profile ∨ x.phase = .active then x.forced else false }

/-- The station after a pause evaluation that finds session `x`, ACTIVE or just extended: a pause that stands or begins
is shown to the reader, a lift is not (R95, R96, R102, R103). -/
def Station.evaluated (st : Station) (now : Nat) (x : Session) : Station :=
  { st with
    session := some (x.evaluated st.profile)
    pauseTimer :=
      if x.pauseCondition st.profile then
        if x.phase = .active then some (now + 1000 * st.profile.pauseAck) else st.pauseTimer
      else if x.phase = .active then st.pauseTimer else none
    reader := if x.pauseCondition st.profile then st.reader.produce (.paused (x.available / 10)) else st.reader }

/-- A pause evaluation at an ACTIVE session, or at a copying one just extended. -/
theorem State.evaluatePause_eq_evaluated (s : State) (i : StationId) {st : Station} (ns : List Notice) {x : Session}
    {byExtend : Bool} (session : st.session = some x) (copying : x.copying = true)
    (kind : byExtend = true ∨ x.phase = .active) :
    (s.atStation i st ns).evaluatePause i byExtend =
      s.atStation i (st.evaluated s.now x) (pauseNotices st i x x ns) := by
  unfold State.evaluatePause Station.evaluated Session.evaluated pauseNotices
  simp only [State.station_atStation_self, session, copying, if_true]
  by_cases pause : x.pauseCondition st.profile = true <;> by_cases active : x.phase = .active
  · simp only [pause, active, if_true, true_or, and_self, State.enterHolding, State.modStation_atStation,
      State.postAt_atStation, State.indicate_atStation, State.now_atStation]
  · simp only [pause, active, kind.resolve_right active, if_true, if_false, true_or, and_false,
      State.indicate_atStation]
    rw [← session]
  · simp only [pause, active, if_true, if_false, or_true, false_and, Bool.false_eq_true]
    rw [show ({ x with phase := .active } : Session) = x by rw [← active], ← session]
  · simp only [pause, active, kind.resolve_right active, if_true, if_false, or_self, false_and, Bool.false_eq_true,
      State.liftPause, State.modStation_atStation]

/-- A session that was ACTIVE holds or stays ACTIVE. -/
theorem Session.evaluated_of_active {x : Session} (active : x.phase = .active) (profile : Profile) :
    x.evaluated profile = { x with phase := if x.pauseCondition profile then .holding else .active } := by
  simp only [Session.evaluated, active, if_true, or_true]

/-! ### Creation (R52) -/

/-- The part once a session has its serial and its reservation (R52, R153). -/
def State.sessionOpened (s : State) : State :=
  { s with sessionSerial := (s.sessionSerial + 1) % 4294967296, reservations := s.reservations + 1 }

@[simp] theorem State.slot_sessionOpened (s : State) (n : Nat) : s.sessionOpened.slot n = s.slot n := rfl
@[simp] theorem State.slots_sessionOpened (s : State) : s.sessionOpened.slots = s.slots := rfl
@[simp] theorem State.journal_sessionOpened (s : State) : s.sessionOpened.journal = s.journal := rfl
@[simp] theorem State.reservations_sessionOpened (s : State) : s.sessionOpened.reservations = s.reservations + 1 := rfl

/-- The notices of that reservation (R160). -/
def State.reserveNotices (s : State) (ns : List Notice) : List Notice :=
  if s.journal.length + s.reservations = 479 then insertNotice ⟨.journalLow, 0⟩ ns else ns

theorem NoticesCanonical.reserveNotices {ns : List Notice} (s : State) (h : NoticesCanonical ns) :
    NoticesCanonical (s.reserveNotices ns) := by
  unfold State.reserveNotices
  split
  · exact h.insertNotice (Notice.scoped_device rfl)
  · exact h

/-- A posting for a station into a canonical set makes the entry pending (R172). -/
theorem NoticesCanonical.mem_posted {ns : List Notice} {k : NoticeKind} (h : NoticesCanonical ns)
    (scope : k.forDevice = false) (i : StationId) : ⟨k, i.val + 1⟩ ∈ Machine.insertNotice ⟨k, i.val + 1⟩ ns :=
  mem_insertNotice_self (Notice.scoped_station scope i) h.2

/-- The station with a session just created and both timers loaded with the session pair (R41, R52). -/
def Station.opened (st : Station) (now : Nat) (x : Session) : Station :=
  { st with
    session := some x
    timerA := loadedTimer now (codeSeconds st.profile.sessionA)
    timerB := loadedTimer now (codeSeconds st.profile.sessionB) }

/-- The session that the part creates at a station with profile `profile` (R52). -/
def State.sessionMade (s : State) (profile : Profile) (payment : Payment) (hold rate : Nat) (phase : Phase) : Session :=
  newSession ((s.sessionSerial + 1) % 4294967296) payment hold (s.plan profile.plan) rate phase s.stamp

/-- The fields of such a session that its admission decides, and those that start at 0. -/
theorem State.fields_of_made {s : State} {profile : Profile} {payment : Payment} {hold rate : Nat} {phase : Phase}
    {x : Session} (made : x = s.sessionMade profile payment hold rate phase) :
    x.payment = payment ∧ x.hold = hold ∧ x.serial = (s.sessionSerial + 1) % 4294967296 ∧ x.charged = 0 ∧
      x.pending = 0 ∧ x.rate = rate ∧ x.opened = s.stamp ∧ x.phase = phase := by
  subst made
  exact ⟨rfl, rfl, rfl, rfl, rfl, rfl, rfl, rfl⟩

theorem State.createSession_atStation (s : State) (i : StationId) (st : Station) (ns : List Notice) (payment : Payment)
    (hold rate : Nat) (phase : Phase) :
    (s.atStation i st ns).createSession i payment hold rate phase = s.sessionOpened.atStation i
      (st.opened s.now (s.sessionMade st.profile payment hold rate phase)) (s.reserveNotices ns) := by
  rw [State.createSession_eq, State.reserve_eq, State.station_atStation_self]
  simp only [State.setStation, State.atStation, Vector.set_set]
  rfl

/-- A session just created has its hold to spend. -/
theorem State.available_of_made {s : State} {profile : Profile} {payment : Payment} {hold rate : Nat} {phase : Phase}
    {x : Session} (made : x = s.sessionMade profile payment hold rate phase) : x.available / 10 = x.hold := by
  obtain ⟨-, -, -, charged, pending, -⟩ := State.fields_of_made made
  rw [Session.available, charged, pending]
  omega

/-- The station with a session created ACTIVE, once the reader has been sent ACCEPT and the pause condition evaluated
(R56, R64, R95). -/
def Station.granted (st : Station) (now : Nat) (x : Session) : Station :=
  ({ st.opened now x with reader := st.reader.produce (.accept x.hold) } : Station).evaluated now x

/-- A session created ACTIVE, with ACCEPT and the pause evaluation. -/
theorem State.create_granted (s : State) (i : StationId) (st : Station) (ns : List Notice) (payment : Payment)
    (hold rate : Nat) {x : Session} (made : x = s.sessionMade st.profile payment hold rate .active) :
    (((s.atStation i st ns).createSession i payment hold rate .active).indicate i (.accept hold)).evaluatePause i
        false =
      s.sessionOpened.atStation i (st.granted s.now x)
        (pauseNotices st i x x (s.reserveNotices ns)) := by
  have copying : x.copying = true := by rw [made]; rfl
  subst made
  rw [State.createSession_atStation, State.indicate_atStation,
    State.evaluatePause_eq_evaluated _ i _ rfl copying (.inr rfl)]
  rfl

/-- A session just created leaves no station quiet, so its event ends with no quiet test. -/
theorem State.endEvent_granted (s : State) (i : StationId) (st : Station) (x : Session) (ns : List Notice)
    (before : StationState) :
    (s.atStation i (st.granted s.now x) ns).endEvent i before = s.atStation i (st.granted s.now x) ns :=
  State.endEvent_of_loaded rfl rfl before

/-- What a session created ACTIVE is after its pause evaluation. -/
theorem Station.session_granted (st : Station) (now : Nat) {x : Session} (active : x.phase = .active) :
    (st.granted now x).session =
      some { x with phase := if x.pauseCondition st.profile then .holding else .active } := by
  rw [← Session.evaluated_of_active active]
  rfl

/-- The reader and the pause timer of a station that has just opened a session, by its pause condition (R95, R96). -/
theorem Station.granted_of_clear {st : Station} {x : Session} (now : Nat) (active : x.phase = .active)
    (clear : x.pauseCondition st.profile = false) :
    (st.granted now x).pauseTimer = st.pauseTimer ∧ (st.granted now x).reader = st.reader.produce (.accept x.hold) := by
  simp only [Station.granted, Station.evaluated, Station.opened, clear, active, Bool.false_eq_true, if_false, if_true,
    and_self]

theorem Station.granted_of_pause {st : Station} {x : Session} (now : Nat) (active : x.phase = .active)
    (pause : x.pauseCondition st.profile = true) :
    (st.granted now x).pauseTimer = some (now + 1000 * st.profile.pauseAck) ∧ (st.granted now x).reader =
      (st.reader.produce (.accept x.hold)).produce (.paused (x.available / 10)) := by
  simp only [Station.granted, Station.evaluated, Station.opened, pause, active, if_true, and_self]

/-! ### The auth reference of a BANK admission (R57) -/

/-- A reference in use that the search would answer has all its predecessors in use too. -/
theorem mem_of_nextAuthRef_mem {used : List Nat} : ∀ {fuel r : Nat}, nextAuthRef used fuel r ∈ used →
    ∀ k ≤ fuel, (r + k + 1) % 65536 ∈ used
  | 0, r, taken, k, le => by
      obtain rfl : k = 0 := by omega
      exact taken
  | fuel + 1, r, taken, k, le => by
      have first : wrapInc Config.wrap16 r ∈ used := by
        by_contra free
        rw [nextAuthRef, if_neg free] at taken
        exact free taken
      rw [nextAuthRef, if_pos first] at taken
      cases k with
      | zero => exact first
      | succ k =>
          have later := mem_of_nextAuthRef_mem taken k (by omega)
          have same : (wrapInc Config.wrap16 r + k + 1) % 65536 = (r + (k + 1) + 1) % 65536 := by
            simp only [wrapInc, Config.wrap16]
            omega
          rwa [same] at later

/-- With at most 8 references in use, nine candidates in turn reach a free one. -/
theorem nextAuthRef_not_mem {used : List Nat} (few : used.length ≤ 8) (r : Nat) : nextAuthRef used 8 r ∉ used := by
  intro taken
  have candidates : (Finset.range 9).image (fun k => (r + k + 1) % 65536) ⊆ used.toFinset := by
    intro v hv
    obtain ⟨k, hk, rfl⟩ := Finset.mem_image.mp hv
    exact List.mem_toFinset.mpr (mem_of_nextAuthRef_mem taken k (by have := Finset.mem_range.mp hk; omega))
  have distinct : ((Finset.range 9).image (fun k => (r + k + 1) % 65536)).card = 9 := by
    refine Finset.card_image_of_injOn fun a ha b hb same => ?_
    simp only [Finset.coe_range, Set.mem_Iio] at ha hb
    omega
  have bound := Finset.card_le_card candidates
  have toFinset := List.toFinset_card_le used
  omega

theorem nextAuthRef_lt (used : List Nat) : ∀ fuel r : Nat, nextAuthRef used fuel r < 65536
  | 0, r => Nat.mod_lt _ (by decide)
  | fuel + 1, r => by
      rw [nextAuthRef]
      split
      · exact nextAuthRef_lt used fuel _
      · exact Nat.mod_lt _ (by decide)

/-- There are no more AUTHORIZING sessions than stations. -/
theorem State.authRefs_length (s : State) : s.authRefs.length ≤ 8 :=
  (List.length_filterMap_le _ _).trans (List.length_filterMap_le _ _)

/-- A change of station `i` that leaves its session alone leaves the references in use. -/
theorem State.authRefs_atStation (s : State) (i : StationId) {st : Station} (ns : List Notice)
    (session : st.session = (s.station i).session) : (s.atStation i st ns).authRefs = s.authRefs := by
  have same : ∀ j, ((s.atStation i st ns).station j).session = (s.station j).session := by
    intro j
    by_cases here : j = i
    · subst here
      rw [State.station_atStation_self, session]
    · rw [State.station_atStation_of_ne _ _ _ _ here]
  simp only [State.authRefs, State.sessions, same]

/-- The reference that a BANK admission takes. -/
def State.bankRef (s : State) : Nat := nextAuthRef s.authRefs 8 s.authRef

/-- The AUTHORIZING session of a BANK card at a station with profile `profile` (R57). -/
def State.bankSession (s : State) (profile : Profile) (token : BitVec 128) : Session :=
  s.sessionMade profile (.bank s.bankRef token) 0 profile.walkInRate .authorizing

/-- The station that has admitted a BANK card. -/
def Station.authorizing (st : Station) (now : Nat) (x : Session) : Station :=
  { st.opened now x with
    authTimer := some (now + 1000 * st.profile.authTimeout), reader := st.reader.produce .authorizing }

/-- The admission of a BANK card at a station without a session (R57). -/
theorem State.admitBank_atStation (s : State) (i : StationId) {st : Station} (ns : List Notice) (token : BitVec 128)
    (session : st.session = (s.station i).session) :
    (s.atStation i st ns).admitBank i token = ({ s with authRef := s.bankRef } : State).sessionOpened.atStation i
      (st.authorizing s.now (s.bankSession st.profile token))
      (insertNotice ⟨.authRequest, i.val + 1⟩ (s.reserveNotices ns)) := by
  have created := ({ s with authRef := s.bankRef } : State).createSession_atStation i st ns (.bank s.bankRef token) 0
    st.profile.walkInRate .authorizing
  have reference : nextAuthRef (s.atStation i st ns).authRefs 8 (s.atStation i st ns).authRef = s.bankRef := by
    rw [s.authRefs_atStation i ns session]
    rfl
  have profile : ((s.atStation i st ns).station i).profile = st.profile := by rw [State.station_atStation_self]
  have numbered : ({ s.atStation i st ns with authRef := s.bankRef } : State) =
    ({ s with authRef := s.bankRef } : State).atStation i st ns := rfl
  simp only [State.admitBank, reference, profile, numbered, created, State.modStation_atStation, State.postAt_atStation,
    State.indicate_atStation]
  rfl

/-- A BANK card is admitted at a READY station without a session whose guard passes (R54). -/
theorem State.takeCard_admits_bank (s : State) (i : StationId) {st : Station} (ns : List Notice) (token : BitVec 128)
    (session : st.session = none) (ready : st.state = .ready) (guard : s.journal.length + s.reservations ≤ 510) :
    (s.atStation i st ns).takeCard i (.bank token) = (s.atStation i st ns).admitBank i token := by
  have passes : (s.atStation i st ns).guardPasses = true := decide_eq_true guard
  simp only [State.takeCard, State.admitCard, State.station_atStation_self, session, ready, passes, ne_eq,
    not_true_eq_false, if_false, Bool.not_true, Bool.false_eq_true]

/-- A READY or a SAVE station is READY once woken (R45), as a frame finds it. -/
theorem Station.state_woken {st : Station} (admits : st.state = .ready ∨ st.state = .save) :
    st.woken.state = .ready := by
  show (if st.state = .save then StationState.ready else st.state) = .ready
  rcases admits with h | h <;> rw [h] <;> rfl

theorem Station.state_framed {st : Station} (admits : st.state = .ready ∨ st.state = .save) (now : Nat)
    (after : ReaderCondition) : (st.framed now after).state = .ready :=
  Station.state_woken admits

/-- What a BANK card leaves of the part, at a READY or a SAVE station. -/
theorem exec_cardFrame_bank {s : State} {i : StationId} (token : BitVec 128) (run : s.running = true)
    (takes : (s.station i).reader.condition ≠ .waitingIdle)
    (admits : (s.station i).state = .ready ∨ (s.station i).state = .save) (session : (s.station i).session = none)
    (guard : s.journal.length + s.reservations ≤ 510) :
    exec (.cardFrame i (.bank token)) s = .next (({ s with authRef := s.bankRef } : State).sessionOpened.atStation i
      (((s.station i).framed s.now .looking).authorizing s.now (s.bankSession (s.station i).profile token))
      (insertNotice ⟨.authRequest, i.val + 1⟩ (s.reserveNotices ((s.station i).wakeNotices i s.notices)))) := by
  rw [exec_cardFrame_of_running run takes (Card.bank_fits token), State.framed,
    s.takeCard_admits_bank i (st := (s.station i).framed s.now .looking) _ token session
      (Station.state_framed admits _ _) guard,
    s.admitBank_atStation i (st := (s.station i).framed s.now .looking) _ token rfl, State.endEvent_of_loaded rfl rfl]
  rfl

/-- Settles O46: the admission leaves the station as `Station.authorizing` says, and its reference is free because nine
candidates in turn cannot all be in use. -/
theorem bankAdmission : Obligations.BankAdmission := by
  refine ⟨fun s i token run takes ready session guard _ => ?_, fun s i token run takes admits session guard => ?_⟩
  · refine ⟨_, s.bankSession (s.station i).profile token, s.bankRef,
      exec_cardFrame_bank token run takes (.inl ready) session guard, ?_⟩
    have awake : (s.station i).state ≠ .save := by rw [ready]; nofun
    rw [State.station_atStation_self, State.notices_atStation, Station.wakeNotices_of_ne awake]
    exact ⟨rfl, rfl, rfl, rfl, rfl, rfl, rfl, nextAuthRef_lt _ _ _, nextAuthRef_not_mem s.authRefs_length _, rfl,
      fun kept => (NoticesCanonical.reserveNotices s kept).mem_posted rfl i, by simp, by simp, by simp,
      State.others_of_stations rfl i _ _⟩
  · refine ⟨_, s.bankSession (s.station i).profile token, s.bankRef,
      exec_cardFrame_bank token run takes admits session guard, ?_⟩
    rw [State.station_atStation_self, State.notices_atStation]
    refine ⟨rfl, Station.state_framed admits s.now .looking, rfl, rfl, rfl, rfl, rfl, rfl, rfl, rfl, rfl, ?_, by simp,
      by simp, by simp, State.others_of_stations rfl i _ _⟩
    rintro _ rfl
    rfl

end Sys2Proof.Machine
end

section
/-! CAMPUS cards accepted (R55, R56, R65, R126 to R128): the grant and the extend, as what they write to the slot and
make of the station. -/

namespace Sys2Proof.Machine

/-! ### Slot writes (R126 to R128) -/

/-- The part with slot `n` written. -/
def State.written (s : State) (n : Nat) (y : Slot) : State := { s with slots := putSlot n y s.slots }

@[simp] theorem State.journal_written (s : State) (n : Nat) (y : Slot) : (s.written n y).journal = s.journal := rfl
@[simp] theorem State.reservations_written (s : State) (n : Nat) (y : Slot) :
    (s.written n y).reservations = s.reservations := rfl

/-- A write of the content of a slot that is not FREE. -/
theorem State.writeAccount_atStation (s : State) (i : StationId) (st : Station) (ns : List Notice) {n : Nat} {a : Slot}
    (slot : s.slot n = some a) (account : Account) :
    (s.atStation i st ns).writeAccount n account =
      (s.written n { a with account := account, damage := .sound }).atStation i st ns := by
  have held : (s.atStation i st ns).slot n = some a := slot
  rw [State.writeAccount, held]
  rfl

/-- The slot written reads as written, every other slot as before. -/
theorem State.slot_written (s : State) (n : Nat) (y : Slot) :
    (s.written n y).slot n = some y ∧ ∀ m, m ≠ n → (s.written n y).slot m = s.slot m :=
  ⟨getSlot_putSlot_self _ _ _, fun _ ne => getSlot_putSlot_of_ne ne _ _⟩

/-- The credit of an account, and its figures aligned to the period, as `Figures.Credits` says. -/
theorem Account.credit_and_align {a : Account} {period credit : Nat} {aligned : Figures}
    (h : a.figures.Credits a.held period credit aligned) :
    a.credit period = credit ∧ a.align period = { a with figures := aligned } := by
  rcases a with ⟨blocked, rate, figures, held, openCount, lastUse⟩
  cases figures with
  | prepaid balance =>
      obtain ⟨rfl, rfl⟩ := h
      exact ⟨rfl, rfl⟩
  | department limit spent p =>
      obtain ⟨rfl, rfl⟩ := h
      refine ⟨rfl, ?_⟩
      by_cases current : p = period
      · simp only [Account.align, current, if_true]
      · simp only [Account.align, current, if_false]

/-- What a grant of `hold` leaves of a slot with its figures aligned (R56, R128). -/
def Slot.granted (a : Slot) (aligned : Figures) (hold stamp : Nat) : Slot :=
  { a with account := { a.account with
      figures := aligned, held := a.account.held + hold, openCount := a.account.openCount + 1, lastUse := stamp } }

/-- What an extend leaves of it (R65, R128). -/
def Slot.extended (a : Slot) (aligned : Figures) (extension stamp : Nat) : Slot :=
  { a with account := { a.account with figures := aligned, held := a.account.held + extension, lastUse := stamp } }

/-- An account of sound content that is not blocked and has `credit` to give, aligned to period `period` (R55, R126). -/
structure Slot.Gives (a : Slot) (period credit : Nat) (aligned : Figures) : Prop where
  known : a.suspect = false
  sound : a.damage = .sound
  usable : a.account.blocked = false
  credits : a.account.figures.Credits a.account.held period credit aligned
  positive : 0 < credit

/-- The figures of a PREPAID account (R126). -/
theorem Figures.credits_prepaid {f : Figures} {b : Nat} (prepaid : f = .prepaid b) (held period : Nat) :
    f.Credits held period (b - held) f := by
  subst prepaid
  exact ⟨rfl, rfl⟩

/-! ### The grant (R56) -/

section AtStation

variable (s : State) (i : StationId) {st : Station} (ns : List Notice) {n credit cents : Nat} {a : Slot}
  {aligned : Figures}

/-- A CAMPUS card is granted a session on its account. -/
theorem State.admitCampus_of_gives {identity : Nat} {x : Session} (found : s.lookup identity = some n)
    (slot : s.slot n = some a) (gives : a.Gives s.period credit aligned) (opening : st.profile.minOpening ≤ credit)
    (hold : cents = min st.profile.presetHold credit)
    (made : x = s.sessionMade st.profile (.campus n) cents a.account.rate .active) :
    (s.atStation i st ns).admitCampus i identity =
      (s.written n (a.granted aligned cents s.stamp)).sessionOpened.atStation i
        (st.granted s.now x) (pauseNotices st i x x (s.reserveNotices ns)) := by
  obtain ⟨known, sound, usable, credits, positive⟩ := gives
  obtain ⟨figure, align⟩ := Account.credit_and_align credits
  have found' : (s.atStation i st ns).lookup identity = some n := found
  have read := State.testedRead_of_sound (s := s.atStation i st ns) (n := n) slot known sound
  have period : (s.atStation i st ns).period = s.period := rfl
  have enough : ¬ (credit = 0 ∨ credit < st.profile.minOpening) := by omega
  have written : ({ a with
      account := a.account.grant s.period cents s.stamp, damage := .sound } : Slot) =
      a.granted aligned cents s.stamp := by
    rw [Account.grant, align, ← sound]
    rfl
  simp only [State.admitCampus, found', read, usable, period, figure, State.station_atStation_self, enough, ← hold,
    Bool.false_eq_true, if_false, State.stamp_atStation, s.writeAccount_atStation i st ns slot, written]
  exact (s.written n _).create_granted i st ns _ _ _ made

/-! ### The extend (R65) -/

/-- A session extended by `extension` cents. -/
def Session.extended (x : Session) (extension : Nat) : Session :=
  { x with hold := x.hold + extension, extendCount := min 255 (x.extendCount + 1) }

/-- The station whose session is extended, with the ACCEPT of its new hold and the pause evaluation (R65, R103). -/
def Station.extended (st : Station) (now : Nat) (y : Session) : Station :=
  ({ st with session := some y, reader := st.reader.produce (.accept y.hold) } : Station).evaluated now y

/-- The session's own card extends it by what its account gives. -/
theorem State.extendSession_of_gives {x y : Session} (session : st.session = some x) (copying : x.copying = true)
    (slot : s.slot n = some a) (gives : a.Gives s.period credit aligned)
    (extension : cents = min st.profile.presetHold credit) (made : y = x.extended cents) :
    (s.atStation i st ns).extendSession i n =
      (s.written n (a.extended aligned cents s.stamp)).atStation i
        (st.extended s.now y) (pauseNotices st i y y ns) := by
  obtain ⟨known, sound, usable, credits, positive⟩ := gives
  obtain ⟨figure, align⟩ := Account.credit_and_align credits
  have read := State.testedRead_of_sound (s := s.atStation i st ns) (n := n) slot known sound
  have period : (s.atStation i st ns).period = s.period := rfl
  have enough : credit ≠ 0 := by omega
  have written : ({ a with
      account := a.account.extend s.period cents s.stamp, damage := .sound } : Slot) =
      a.extended aligned cents s.stamp := by
    rw [Account.extend, align, ← sound]
    rfl
  have copying' : y.copying = true := by
    rw [made]
    exact copying
  have count : ({ x with hold := x.hold + cents, extendCount := satAdd 255 x.extendCount 1 } : Session) = y := made.symm
  simp only [State.extendSession, read, usable, period, figure, State.station_atStation_self, enough, ← extension,
    Bool.false_eq_true, if_false, State.stamp_atStation, s.writeAccount_atStation i st ns slot, written,
    State.modSession, State.modStation_atStation, session, Option.map_some, count, State.indicate_atStation]
  rw [State.evaluatePause_eq_evaluated _ i ns rfl copying' (.inl rfl)]
  rfl

end AtStation

/-! ### The accepted CARD frame -/

section Frames

variable {s : State} {i : StationId} {id : BitVec 40} {n credit cents : Nat} {a : Slot} {aligned : Figures}

theorem exec_cardFrame_granted {x : Session} (run : s.running = true)
    (takes : (s.station i).reader.condition ≠ .waitingIdle) (fits : id.toNat ≤ 9999999999)
    (admits : (s.station i).state = .ready ∨ (s.station i).state = .save) (session : (s.station i).session = none)
    (guard : s.journal.length + s.reservations ≤ 510) (found : s.lookup id.toNat = some n) (slot : s.slot n = some a)
    (gives : a.Gives s.period credit aligned) (opening : (s.station i).profile.minOpening ≤ credit)
    (hold : cents = min (s.station i).profile.presetHold credit)
    (made : x = s.sessionMade (s.station i).profile (.campus n) cents a.account.rate .active) :
    exec (.cardFrame i (.campus id)) s = .next
      ((s.written n (a.granted aligned cents s.stamp)).sessionOpened.atStation i
        (((s.station i).framed s.now .looking).granted s.now x)
        (pauseNotices (s.station i) i x x (s.reserveNotices ((s.station i).wakeNotices i s.notices)))) := by
  rw [exec_cardFrame_of_running run takes (Card.campus_fits fits), State.framed,
    s.takeCard_admits i (st := (s.station i).framed s.now .looking) _ session (Station.state_framed admits _ _) guard,
    s.admitCampus_of_gives i (st := (s.station i).framed s.now .looking) _ found slot gives opening hold made,
    State.endEvent_of_loaded rfl rfl]
  rfl

theorem exec_cardFrame_extended {x y : Session} (run : s.running = true)
    (takes : (s.station i).reader.condition ≠ .waitingIdle) (fits : id.toNat ≤ 9999999999)
    (save : (s.station i).state ≠ .save) (session : (s.station i).session = some x) (copying : x.copying = true)
    (payment : x.payment = .campus n) (slot : s.slot n = some a) (own : a.identity = id.toNat)
    (gives : a.Gives s.period credit aligned) (extension : cents = min (s.station i).profile.presetHold credit)
    (made : y = x.extended cents) :
    exec (.cardFrame i (.campus id)) s = .next
      ((s.written n (a.extended aligned cents s.stamp)).atStation i
        (((s.station i).framed s.now .looking).extended s.now y) (pauseNotices (s.station i) i y y s.notices)) := by
  obtain ⟨state, -⟩ := Station.framed_of_awake save s.now .looking
  rw [exec_cardFrame_of_running run takes (Card.campus_fits fits), State.framed, Station.wakeNotices_of_ne save,
    s.takeCard_extends i (st := (s.station i).framed s.now .looking) _ session copying payment slot own,
    s.extendSession_of_gives i (st := (s.station i).framed s.now .looking) _ session copying slot gives extension made,
    State.endEvent_of_same (by rw [State.station_atStation_self]; exact state)]
  rfl

end Frames

/-- What the pause evaluation after an extend leaves of the station, by its pause condition (R102, R103). -/
theorem Station.extended_of_clear {st : Station} {y : Session} (now : Nat)
    (clear : y.pauseCondition st.profile = false) :
    (y.evaluated st.profile).phase = .active ∧
      (y.evaluated st.profile).forced = (if y.phase = .active then y.forced else false) ∧
      (st.extended now y).pauseTimer = (if y.phase = .active then st.pauseTimer else none) ∧
      (st.extended now y).reader = st.reader.produce (.accept y.hold) := by
  simp only [Station.extended, Station.evaluated, Session.evaluated, clear, Bool.false_eq_true, if_false, false_or,
    and_self]

theorem Station.extended_of_pause {st : Station} {y : Session} (now : Nat)
    (pause : y.pauseCondition st.profile = true) :
    (y.evaluated st.profile).phase = (if y.phase = .active then .holding else y.phase) ∧
      (y.evaluated st.profile).forced = y.forced ∧
      (st.extended now y).pauseTimer =
        (if y.phase = .active then some (now + 1000 * st.profile.pauseAck) else st.pauseTimer) ∧
      (st.extended now y).reader = (st.reader.produce (.accept y.hold)).produce (.paused (y.available / 10)) := by
  simp only [Station.extended, Station.evaluated, Session.evaluated, pause, if_true, true_or, and_self]

/-- PAUSED is posted by the evaluation of an ACTIVE session whose pause condition is true (R95). -/
theorem pauseNotices_of_clear {st : Station} {x : Session} (clear : x.pauseCondition st.profile = false) (i : StationId)
    (ns : List Notice) : pauseNotices st i x x ns = ns := by
  rw [pauseNotices, if_neg (by simp [clear])]

theorem pauseNotices_of_pause {st : Station} {x : Session} (pause : x.pauseCondition st.profile = true) (i : StationId)
    (ns : List Notice) :
    pauseNotices st i x x ns = if x.phase = .active then insertNotice ⟨.paused, i.val + 1⟩ ns else ns := by
  simp only [pauseNotices, pause, true_and]

/-- Settles O45: a grant and an extend are what the account gives, written to its slot, and the station that results. -/
theorem campusCardAccepted : Obligations.CampusCardAccepted := by
  refine ⟨?_, ?_, ?_, ?_⟩
  · intro s i id n b a run takes fits ready session guard found slot known sound usable figures positive opening
    have gives : a.Gives s.period (b - a.account.held) a.account.figures :=
      ⟨known, sound, usable, Figures.credits_prepaid figures _ _, positive⟩
    obtain ⟨cents, hold⟩ : ∃ cents, cents = min (s.station i).profile.presetHold (b - a.account.held) := ⟨_, rfl⟩
    obtain ⟨x, made⟩ : ∃ x, x = s.sessionMade (s.station i).profile (.campus n) cents a.account.rate .active := ⟨_, rfl⟩
    obtain ⟨read, others⟩ := s.slot_written n (a.granted a.account.figures cents s.stamp)
    refine ⟨_, { x with phase := if x.pauseCondition (s.station i).profile then .holding else .active },
      a.granted a.account.figures cents s.stamp,
      exec_cardFrame_granted run takes fits (.inl ready) session guard found slot gives opening hold made, ?_⟩
    obtain ⟨payment, held, serial, charged, pending, rate, opened, active⟩ := State.fields_of_made made
    have granted := ((s.station i).framed s.now .looking).session_granted s.now active
    rw [Station.profile_framed] at granted
    simp only [State.station_atStation_self, State.slot_atStation, State.slot_sessionOpened]
    exact ⟨granted, payment, held.trans hold, charged,
      pending, rate, opened, serial, rfl, read, rfl, by rw [held]; rfl, others,
      by simp, by simp, State.others_of_stations rfl i _ _⟩
  · intro s i id n credit a aligned run takes fits admits session guard found slot known sound usable credits positive
      opening
    obtain ⟨cents, hold⟩ : ∃ cents, cents = min (s.station i).profile.presetHold credit := ⟨_, rfl⟩
    obtain ⟨x, made⟩ : ∃ x, x = s.sessionMade (s.station i).profile (.campus n) cents a.account.rate .active := ⟨_, rfl⟩
    obtain ⟨read, others⟩ := s.slot_written n (a.granted aligned cents s.stamp)
    obtain ⟨payment, held, serial, charged, pending, rate, opened, active⟩ := State.fields_of_made made
    refine ⟨_, { x with phase := if x.pauseCondition (s.station i).profile then .holding else .active },
      exec_cardFrame_granted run takes fits admits session guard found slot ⟨known, sound, usable, credits, positive⟩
        opening hold made, ?_⟩
    simp only [State.station_atStation_self, State.notices_atStation, State.slot_atStation, State.slot_sessionOpened]
    have onClear (clear : x.pauseCondition (s.station i).profile = false) :=
      Station.granted_of_clear (st := (s.station i).framed s.now .looking) s.now active clear
    have onPause (pause : x.pauseCondition (s.station i).profile = true) :=
      Station.granted_of_pause (st := (s.station i).framed s.now .looking) s.now active pause
    rw [State.available_of_made made] at onPause
    have granted := ((s.station i).framed s.now .looking).session_granted s.now active
    rw [Station.profile_framed] at granted
    refine ⟨granted, Station.state_framed admits s.now .looking, payment, held.trans hold, serial, charged, pending,
      rate, opened, by rw [held]; exact read, others, rfl, rfl,
      fun clear => ⟨if_neg (Bool.eq_false_iff.mp clear), onClear clear⟩, fun pause => ⟨if_pos pause, onPause pause⟩, ?_,
      by simp, by simp, State.others_of_stations rfl i _ _⟩
    rintro _ _ rfl rfl
    by_cases pause : x.pauseCondition (s.station i).profile = true
    · rw [pauseNotices_of_pause pause, if_pos active, if_pos (if_pos pause)]
      rfl
    · rw [pauseNotices_of_clear (Bool.eq_false_iff.mpr pause), if_neg (by rw [if_neg pause]; nofun)]
      rfl
  · intro s i id n b a x run takes fits ready session copying payment slot own known sound usable figures positive
    have save : (s.station i).state ≠ .save := by rw [ready]; nofun
    obtain ⟨cents, extension⟩ : ∃ cents, cents = min (s.station i).profile.presetHold (b - a.account.held) := ⟨_, rfl⟩
    obtain ⟨read, -⟩ := s.slot_written n (a.extended a.account.figures cents s.stamp)
    refine ⟨_, (x.extended cents).evaluated (s.station i).profile, a.extended a.account.figures cents s.stamp, cents,
      exec_cardFrame_extended run takes fits save session copying payment slot own
        ⟨known, sound, usable, Figures.credits_prepaid figures _ _, positive⟩ extension rfl, ?_⟩
    simp only [State.station_atStation_self, State.slot_atStation]
    exact ⟨rfl, extension, rfl, rfl, rfl, rfl, read, rfl, rfl, rfl, State.others_of_stations rfl i _ _⟩
  · rintro s i id n credit extension a aligned x accepted run takes fits save session copying payment slot own known
      sound usable credits positive given rfl
    obtain ⟨y, made⟩ : ∃ y, y = x.extended extension := ⟨_, rfl⟩
    obtain ⟨read, others⟩ := s.slot_written n
      (a.extended aligned extension s.stamp)
    have phase : y.phase = x.phase := by rw [made]; rfl
    have forced : y.forced = x.forced := by rw [made]; rfl
    have hold : y.hold = x.hold + extension := by rw [made]; rfl
    have spend : y.available =
        10 * (x.hold + extension) - x.charged - x.pending := by rw [made]; rfl
    obtain ⟨state, timerA, timerB⟩ := Station.framed_of_awake save s.now .looking
    refine ⟨_, y.evaluated (s.station i).profile, (y.evaluated (s.station i).profile).phase,
      (y.evaluated (s.station i).profile).forced, exec_cardFrame_extended run takes fits save session copying payment
      slot own ⟨known, sound, usable, credits, positive⟩ given made, ?_⟩
    simp only [State.station_atStation_self, State.notices_atStation, State.slot_atStation]
    refine ⟨rfl, by rw [made]; rfl, fun clear => ?_, fun pause => ?_, read, others,
      Station.reloaded_of_timers timerA timerB, state, rfl, rfl, rfl, rfl, State.others_of_stations rfl i _ _⟩
    · have onClear : y.pauseCondition (s.station i).profile = false := clear
      obtain ⟨active, lifted, timer, reader⟩ :=
        Station.extended_of_clear (st := (s.station i).framed s.now .looking) s.now onClear
      rw [phase, forced] at lifted
      rw [phase] at timer
      rw [hold] at reader
      exact ⟨active, lifted, timer, reader, pauseNotices_of_clear onClear i _⟩
    · have onPause : y.pauseCondition (s.station i).profile = true := pause
      obtain ⟨stands, kept, timer, reader⟩ :=
        Station.extended_of_pause (st := (s.station i).framed s.now .looking) s.now onPause
      have posted := pauseNotices_of_pause onPause i s.notices
      rw [phase] at stands timer posted
      rw [hold, spend] at reader
      refine ⟨kept.trans forced, reader, fun active => ?_, fun other => ?_⟩
      · rw [if_pos active] at stands timer posted
        exact ⟨stands, timer, posted⟩
      · rw [if_neg other] at stands timer posted
        exact ⟨stands, timer, posted⟩

end Sys2Proof.Machine
end

section
/-! The session requests that open, read and answer (R60 to R64): OPEN-SESSION, READ-AUTH and AUTH-RESULT. -/

namespace Sys2Proof.Machine

@[simp] theorem State.reservations_taken (s : State) : s.taken.reservations = s.reservations := rfl
@[simp] theorem State.reservations_unreserve (s : State) : s.unreserve.reservations = s.reservations - 1 := rfl

/-- The other stations of a part that has answered a request about station `i`. -/
theorem State.others_of_reply {b s : State} (same : b.stations = s.stations) (i : StationId) (st : Station)
    (ns : List Notice) (kind : Byte) (a : Answer) :
    ∀ j, j ≠ i → ((b.atStation i st ns).sendReply kind a false).station j = s.station j :=
  State.others_of_stations same i st ns

/-! ### OPEN-SESSION (R64) -/

section Requests

variable {s : State} {n : Byte} {i : StationId}

/-- OPEN-SESSION is refused by the station or by its session before its amount is looked at (R64). -/
theorem exec_openSession_refused {amount ref : BitVec 32} (serving : s.Serving) (named : n.toNat = i.val + 1)
    (closed : ((s.station i).state ≠ .ready ∧ (s.station i).state ≠ .save) ∨ (s.station i).session ≠ none) :
    exec (.openSession n amount ref) s = .next (s.replied 0xA0 6 []) := by
  have refused : ((s.taken.station i).state ≠ .ready ∧ (s.taken.station i).state ≠ .save) ∨
      (s.taken.station i).session.isSome = true := closed.imp_right Option.isSome_iff_ne_none.mpr
  rw [exec_openSession serving, ← State.taken, State.ownOpenSession, stationOf_of_toNat named]
  dsimp only
  rw [if_pos refused]
  rfl

/-- At an open station without a session it is refused by its amount, then by the guard, and else creates the
session. -/
theorem exec_openSession_of_open {amount ref : BitVec 32} (serving : s.Serving) (named : n.toNat = i.val + 1)
    (admits : (s.station i).state = .ready ∨ (s.station i).state = .save) (session : (s.station i).session = none) :
    exec (.openSession n amount ref) s =
      if amount.toInt < 1 ∨ ((s.station i).profile.presetHold : Int) < amount.toInt then .next (s.replied 0xA0 4 [])
      else if 510 < s.journal.length + s.reservations then .next (s.replied 0xA0 11 [])
      else .next ((s.taken.openCounter i amount.toNat ref.toNat).sendReply 0xA0
        (.ok (leBytes 4 (s.taken.openCounter i amount.toNat ref.toNat).sessionSerial)) false) := by
  have fits : ¬ (((s.taken.station i).state ≠ .ready ∧ (s.taken.station i).state ≠ .save) ∨
      (s.taken.station i).session.isSome = true) := by
    show ¬ (((s.station i).state ≠ .ready ∧ (s.station i).state ≠ .save) ∨ (s.station i).session.isSome = true)
    rw [session]
    rintro (⟨ready, save⟩ | some)
    · exact admits.elim ready save
    · exact nomatch some
  have guard : (!s.taken.guardPasses) = decide (510 < s.journal.length + s.reservations) := by
    show (!decide (s.journal.length + s.reservations ≤ 510)) = _
    rw [← decide_not]
    exact decide_eq_decide.mpr Nat.not_le
  rw [exec_openSession serving, ← State.taken, State.ownOpenSession, stationOf_of_toNat named]
  dsimp only
  rw [if_neg fits, guard]
  simp only [decide_eq_true_eq]
  by_cases bad : amount.toInt < 1 ∨ ((s.station i).profile.presetHold : Int) < amount.toInt
  · rw [if_pos bad, if_pos (by exact bad)]
    rfl
  · rw [if_neg bad, if_neg (by exact bad)]
    split <;> rfl

/-- The COUNTER session that OPEN-SESSION creates (R64). -/
def State.counterSession (s : State) (profile : Profile) (amount ref : BitVec 32) : Session :=
  s.sessionMade profile (.counter ref.toNat) amount.toNat profile.walkInRate .active

/-- OPEN-SESSION accepted at a READY or a SAVE station: the wake, the session, ACCEPT and the pause evaluation. -/
theorem exec_openSession_accepted {amount ref : BitVec 32} {x : Session} (serving : s.Serving)
    (named : n.toNat = i.val + 1) (admits : (s.station i).state = .ready ∨ (s.station i).state = .save)
    (session : (s.station i).session = none) (least : 1 ≤ amount.toInt)
    (most : amount.toInt ≤ (s.station i).profile.presetHold) (guard : s.journal.length + s.reservations ≤ 510)
    (made : x = s.counterSession (s.station i).profile amount ref) :
    exec (.openSession n amount ref) s = .next ((s.taken.sessionOpened.atStation i ((s.station i).woken.granted s.now x)
      (pauseNotices (s.station i) i x x (s.reserveNotices ((s.station i).wakeNotices i s.notices)))).sendReply 0xA0
        (.ok (leBytes 4 ((s.sessionSerial + 1) % 4294967296))) false) := by
  have woken : (if (s.taken.station i).state = .save then s.taken.enterState i .ready else s.taken) =
      s.taken.atStation i (s.station i).woken ((s.station i).wakeNotices i s.notices) := by
    by_cases save : (s.station i).state = .save
    · have posted := s.taken.enterState_atStation i (s.station i) s.notices .ready
      rw [← s.taken_eq_atStation i, save] at posted
      rw [Station.woken, Station.wakeNotices, if_pos save, if_pos save, if_pos (by exact save), posted]
      rfl
    · rw [Station.woken_of_ne save, Station.wakeNotices_of_ne save, if_neg (by exact save)]
      exact s.taken_eq_atStation i
  have profile : ((s.taken.atStation i (s.station i).woken ((s.station i).wakeNotices i s.notices)).station i).profile =
      (s.station i).profile := by
    rw [State.station_atStation_self]
    rfl
  have opened : s.taken.openCounter i amount.toNat ref.toNat = s.taken.sessionOpened.atStation i
      ((s.station i).woken.granted s.now x)
      (pauseNotices (s.station i) i x x (s.reserveNotices ((s.station i).wakeNotices i s.notices))) := by
    unfold State.openCounter
    dsimp only
    rw [woken, profile, s.taken.create_granted i (s.station i).woken _ _ _ _ (x := x) made]
    exact State.endEvent_granted s.taken.sessionOpened i _ x _ _
  rw [exec_openSession_of_open serving named admits session, if_neg (by omega), if_neg (by omega), opened]
  rfl

end Requests

/-! ### The notices of an accepted OPEN-SESSION -/

/-- A posting neither brings nor takes another entry (R172). -/
theorem mem_insertNotice_of_ne {m n : Notice} (ne : m ≠ n) (l : List Notice) : m ∈ insertNotice n l ↔ m ∈ l :=
  ⟨fun h => (mem_insertNotice h).resolve_left ne, mem_insertNotice_of_mem⟩

theorem NoticesCanonical.wakeNotices {ns : List Notice} (h : NoticesCanonical ns) (st : Station) (i : StationId) :
    NoticesCanonical (st.wakeNotices i ns) := by
  unfold Station.wakeNotices
  split
  · exact h.insertNotice (Notice.scoped_station rfl i)
  · exact h

/-- The wake and the pause evaluation add their own entries alone. -/
theorem mem_wakeNotices_of_ne {m : Notice} (other : m.kind ≠ .stationChange) (i : StationId) (st : Station)
    (ns : List Notice) : m ∈ st.wakeNotices i ns ↔ m ∈ ns := by
  unfold Station.wakeNotices
  split
  · exact mem_insertNotice_of_ne (fun same => other (by rw [same])) ns
  · exact Iff.rfl

theorem mem_pauseNotices_of_ne {m : Notice} (other : m.kind ≠ .paused) (i : StationId) (st : Station)
    (x y : Session) (ns : List Notice) : m ∈ pauseNotices st i x y ns ↔ m ∈ ns := by
  unfold pauseNotices
  split
  · exact mem_insertNotice_of_ne (fun same => other (by rw [same])) ns
  · exact Iff.rfl

/-- JOURNAL-LOW is posted exactly where the reservation brings the free count down to 32 (R160). -/
theorem State.journalLow_mem_reserveNotices (s : State) {ns : List Notice} (canonical : NoticesCanonical ns) :
    ⟨.journalLow, 0⟩ ∈ s.reserveNotices ns ↔ ⟨.journalLow, 0⟩ ∈ ns ∨ s.journal.length + s.reservations = 479 := by
  unfold State.reserveNotices
  by_cases low : s.journal.length + s.reservations = 479
  · rw [if_pos low]
    exact iff_of_true (mem_insertNotice_self (Notice.scoped_device rfl) canonical.2) (.inr low)
  · rw [if_neg low]
    exact (or_iff_left low).symm

/-- The reservation takes no entry away. -/
theorem State.mem_reserveNotices_of_mem (s : State) {m : Notice} {ns : List Notice} (h : m ∈ ns) :
    m ∈ s.reserveNotices ns := by
  unfold State.reserveNotices
  split
  · exact mem_insertNotice_of_mem h
  · exact h

/-- Settles O21: the refusals in order, then the session as `Station.granted` leaves it at the woken station. -/
theorem openSessionCreates : Obligations.OpenSessionCreates := by
  refine ⟨fun s n i amount ref serving named => ⟨fun ready save => exec_openSession_refused serving named
      (.inl ⟨ready, save⟩), fun session => exec_openSession_refused serving named (.inr session),
      fun ready session bad => ?_, fun ready session least most full => ?_, fun ready session least most guard => ?_⟩,
    fun s n i amount ref serving named admits session least most guard => ?_,
    fun s n i amount ref serving named admits session least most guard kept => ?_⟩
  · rw [exec_openSession_of_open serving named (.inl ready) session, if_pos bad]
  · rw [exec_openSession_of_open serving named (.inl ready) session, if_neg (by omega), if_pos full]
  · obtain ⟨x, made⟩ : ∃ x, x = s.counterSession (s.station i).profile amount ref := ⟨_, rfl⟩
    obtain ⟨payment, hold, serial, charged, pending, rate, opened, active⟩ := State.fields_of_made made
    have granted := (s.station i).session_granted s.now active
    refine ⟨_, { x with phase := if x.pauseCondition (s.station i).profile then .holding else .active },
      exec_openSession_accepted serving named (.inl ready) session least most guard made, ?_⟩
    rw [State.station_sendReply, State.station_atStation_self,
      Station.woken_of_ne (show (s.station i).state ≠ .save by rw [ready]; nofun)]
    exact ⟨granted, serial, payment, hold, charged, pending, by rw [made]; rfl, opened, rate, by rw [made]; rfl,
      by rw [made]; rfl, rfl, serial.symm, by simp, rfl, rfl, by rw [serial]; rfl, by simp, by simp,
      State.others_of_reply rfl i _ _ _ _⟩
  · obtain ⟨x, made⟩ : ∃ x, x = s.counterSession (s.station i).profile amount ref := ⟨_, rfl⟩
    obtain ⟨payment, hold, serial, charged, pending, rate, opened, active⟩ := State.fields_of_made made
    refine ⟨_, { x with phase := if x.pauseCondition (s.station i).profile then .holding else .active },
      exec_openSession_accepted serving named admits.symm session least most guard made, ?_⟩
    rw [State.station_sendReply, State.station_atStation_self]
    refine ⟨(s.station i).woken.session_granted s.now active, serial, payment, hold, charged, pending,
      Station.state_woken admits.symm, fun save kept => ?_, ?_, by simp, by rw [serial]; rfl, by simp, by simp,
      State.others_of_reply rfl i _ _ _ _⟩
    · have posted : ⟨.stationChange, i.val + 1⟩ ∈ (s.station i).wakeNotices i s.notices := by
        rw [Station.wakeNotices, if_pos save]
        exact NoticesCanonical.mem_posted kept rfl i
      exact (mem_pauseNotices_of_ne (m := ⟨.stationChange, i.val + 1⟩) nofun _ _ _ _ _).mpr
        (s.mem_reserveNotices_of_mem posted)
    · by_cases pause : x.pauseCondition (s.station i).profile = true
      · obtain ⟨timer, reader⟩ := Station.granted_of_pause (st := (s.station i).woken) s.now active pause
        rw [State.available_of_made made, hold] at reader
        refine .inr ⟨if_pos pause, timer, fun kept => ?_, reader⟩
        have canonical := NoticesCanonical.reserveNotices s (NoticesCanonical.wakeNotices kept (s.station i) i)
        rw [pauseNotices_of_pause pause, if_pos active]
        exact canonical.mem_posted rfl i
      · obtain ⟨-, reader⟩ :=
          Station.granted_of_clear (st := (s.station i).woken) s.now active (Bool.eq_false_iff.mpr pause)
        rw [hold] at reader
        exact .inl ⟨if_neg pause, reader⟩
  · refine ⟨_, exec_openSession_accepted serving named admits session least most guard rfl, ?_⟩
    have low := s.journalLow_mem_reserveNotices (NoticesCanonical.wakeNotices kept (s.station i) i)
    rw [mem_wakeNotices_of_ne (m := ⟨.journalLow, 0⟩) (by decide)] at low
    exact (mem_pauseNotices_of_ne (m := ⟨.journalLow, 0⟩) (by decide) _ _ _ _ _).trans low

/-! ### READ-AUTH (R60) -/

/-- Settles O23: the reply is by the payment and the state of the session at the station. -/
theorem readAuthRequest : Obligations.ReadAuthRequest := by
  intro s n serving
  refine ⟨fun out => ?_, fun i named => ⟨fun x ref token session authorizing payment => ?_, fun idle => ?_⟩⟩
  · rw [exec_readAuth serving, State.ownReadAuth, stationOf_of_out out]
    rfl
  · have session' : (s.taken.station i).session = some x := session
    rw [exec_readAuth serving, ← State.taken, State.ownReadAuth, stationOf_of_toNat named]
    simp only [session', payment, authorizing, if_true]
    rw [List.append_assoc]
    rfl
  · rw [exec_readAuth serving, ← State.taken, State.ownReadAuth, stationOf_of_toNat named]
    dsimp only
    cases session : (s.station i).session with
    | none =>
        have session' : (s.taken.station i).session = none := session
        rw [session']
        rfl
    | some x =>
        have session' : (s.taken.station i).session = some x := session
        rw [session']
        cases payment : x.payment with
        | bank ref token =>
            simp only [payment, idle x session, Bool.false_eq_true, if_false]
            rfl
        | campus k =>
            simp only [payment]
            rfl
        | counter ref =>
            simp only [payment]
            rfl

/-! ### AUTH-RESULT (R61 to R63) -/

section Requests

variable {s : State} {n : Byte} {i : StationId} {ref : BitVec 16} {amount : BitVec 32}

theorem exec_authResult_negative (serving : s.Serving) (named : n.toNat = i.val + 1) (negative : amount.toInt < 0) :
    exec (.authResult n ref amount) s = .next (s.replied 0xA4 4 []) := by
  rw [exec_authResult serving, ← State.taken, State.ownAuthResult, stationOf_of_toNat named]
  dsimp only
  rw [if_pos (by exact negative)]
  rfl

/-- A result that no AUTHORIZING session awaits is too late (R63). -/
theorem exec_authResult_late (serving : s.Serving) (named : n.toNat = i.val + 1) (positive : 0 ≤ amount.toInt)
    (unmatched : ∀ x, (s.station i).session = some x → x.awaits ref.toNat = false) :
    exec (.authResult n ref amount) s = .next (s.replied 0xA4 14 [if amount = 0 then 0 else 1]) := by
  have byte : flag (amount ≠ 0) = if amount = 0 then 0 else 1 := by
    by_cases zero : amount = 0 <;> simp [flag, zero]
  rw [exec_authResult serving, ← State.taken, State.ownAuthResult, stationOf_of_toNat named]
  dsimp only
  rw [if_neg (by exact Int.not_lt.mpr positive), byte]
  cases session : (s.station i).session with
  | none =>
      have session' : (s.taken.station i).session = none := session
      rw [session']
      rfl
  | some x =>
      have session' : (s.taken.station i).session = some x := session
      simp only [session', unmatched x session, Bool.false_eq_true, if_false]
      rfl

/-- A result that the session awaits declines it or accepts it, by its amount (R61, R62). -/
theorem exec_authResult_matched {x : Session} (serving : s.Serving) (named : n.toNat = i.val + 1)
    (positive : 0 ≤ amount.toInt) (session : (s.station i).session = some x) (awaits : x.awaits ref.toNat = true) :
    exec (.authResult n ref amount) s = .next
      (if amount.toNat = 0 ∨ amount.toNat < (s.station i).profile.minOpening then
        (s.taken.declineAuth i).sendReply 0xA4 (.ok [2]) false
      else (s.taken.acceptAuth i (min amount.toNat (s.station i).profile.presetHold)).sendReply 0xA4
        (.ok (1 :: leBytes 4 (min amount.toNat (s.station i).profile.presetHold))) false) := by
  have session' : (s.taken.station i).session = some x := session
  rw [exec_authResult serving, ← State.taken, State.ownAuthResult, stationOf_of_toNat named]
  dsimp only
  rw [if_neg (by exact Int.not_lt.mpr positive)]
  simp only [session', awaits, if_true]
  by_cases declined : amount.toNat = 0 ∨ amount.toNat < (s.station i).profile.minOpening
  · rw [if_pos declined, if_pos (by exact declined)]
  · rw [if_neg declined, if_neg (by exact declined)]
    rfl

end Requests

/-- What a declined authorization leaves (R58, R62). -/
theorem State.declineAuth_atStation (s : State) (i : StationId) (st : Station) (ns : List Notice) :
    (s.atStation i st ns).declineAuth i = s.unreserve.atStation i { st with
        session := none, authTimer := none, lastRefusal := some ⟨.declined, .bank, s.stamp⟩
        reader := st.reader.produce (.refuse .declined)
        timerA := loadedTimer s.now (codeSeconds st.profile.idleA)
        timerB := loadedTimer s.now (codeSeconds st.profile.idleB) }
      (insertNotice ⟨.cardRefused, i.val + 1⟩ ns) := by
  rw [State.declineAuth, State.endWithoutRecord_atStation, State.refuse_atStation, State.reloadBoth_atStation]
  rfl

/-- The session of an accepted authorization (R61). -/
def Session.authorized (x : Session) (hold : Nat) : Session := { x with hold := hold, phase := .active }

/-- What an accepted authorization leaves: the session ACTIVE with its hold, ACCEPT, and the pause evaluation (R61). -/
theorem State.acceptAuth_atStation (s : State) (i : StationId) {st : Station} (ns : List Notice) {x y : Session}
    (session : st.session = some x) (here : x.suspended = false) {hold : Nat} (made : y = x.authorized hold) :
    (s.atStation i st ns).acceptAuth i hold = s.atStation i
      (({ st with authTimer := none } : Station).granted s.now y) (pauseNotices st i y y ns) := by
  have copying : y.copying = true := by
    rw [made, Session.copying]
    simp [Session.authorized, here]
  have active : y.phase = .active := by rw [made]; rfl
  simp only [State.acceptAuth, State.modStation_atStation, session, Option.map_some, State.reloadBoth_atStation,
    State.indicate_atStation]
  rw [State.evaluatePause_eq_evaluated s i ns (x := y) (by rw [made]; rfl) copying (.inr active), made]
  rfl

/-- An AUTHORIZING session is not suspended. -/
theorem Session.here_of_awaits {x : Session} {ref : Nat} (awaits : x.awaits ref = true) : x.suspended = false := by
  cases suspended : x.suspended with
  | false => rfl
  | true => simp [Session.awaits, Session.authorizing, suspended] at awaits

/-- Settles O24: the result is refused, too late, declined or accepted by its amount and the session that awaits it. -/
theorem authResultOutcomes : Obligations.AuthResultOutcomes := by
  intro s n i ref amount serving named
  refine ⟨exec_authResult_negative serving named, exec_authResult_late serving named,
    fun x positive session awaits declined => ?_, fun x positive session awaits nonzero enough => ?_⟩
  · refine ⟨_, exec_authResult_matched serving named positive session awaits, ?_⟩
    rw [if_pos declined, s.taken_eq_atStation i, State.declineAuth_atStation]
    rw [State.station_sendReply, State.station_atStation_self]
    exact ⟨rfl, rfl, rfl, by simp, rfl, rfl, rfl, rfl, rfl, rfl, by simp, rfl, rfl,
      State.others_of_reply rfl i _ _ _ _⟩
  · obtain ⟨hold, given⟩ : ∃ hold, hold = min amount.toNat (s.station i).profile.presetHold := ⟨_, rfl⟩
    obtain ⟨y, made⟩ : ∃ y, y = x.authorized hold := ⟨_, rfl⟩
    have active : y.phase = .active := by rw [made]; rfl
    have held : y.hold = hold := by rw [made]; rfl
    have accepted := s.taken.acceptAuth_atStation i (st := s.station i) s.notices session
      (Session.here_of_awaits awaits) made
    rw [← s.taken_eq_atStation i] at accepted
    refine ⟨_, { y with phase := if y.pauseCondition (s.station i).profile then .holding else .active },
      exec_authResult_matched serving named positive session awaits, ?_⟩
    rw [if_neg (by omega), ← given, accepted]
    rw [State.station_sendReply, State.station_atStation_self]
    exact ⟨Station.session_granted _ s.now active, held, by rw [made]; rfl, rfl, rfl, rfl, rfl, by simp,
      by simp, by simp, by rw [held]; rfl, State.others_of_reply rfl i _ _ _ _⟩

end Sys2Proof.Machine
end

section
/-! Sessions that end (R53, R58, R66, R67, R69 to R72): END and END-SESSION by the session's state, and the settlements
that they make with an empty path, a CAMPUS one with its account step. -/

namespace Sys2Proof.Machine

/-! ### What a part given by one station, and one with a record more, have of the rest -/

@[simp] theorem State.lastCorrected_atStation (s : State) (i : StationId) (st : Station) (ns : List Notice) :
    (s.atStation i st ns).lastCorrected = s.lastCorrected := rfl
@[simp] theorem State.lastFault_atStation (s : State) (i : StationId) (st : Station) (ns : List Notice) :
    (s.atStation i st ns).lastFault = s.lastFault := rfl
@[simp] theorem State.journal_journaled (s : State) (q : SettleRecord) :
    (s.journaled q).journal = s.journal ++ [.settle q] := rfl
@[simp] theorem State.reservations_journaled (s : State) (q : SettleRecord) :
    (s.journaled q).reservations = s.reservations - 1 := rfl
@[simp] theorem State.lastCorrected_journaled (s : State) (q : SettleRecord) :
    (s.journaled q).lastCorrected = s.lastCorrected := rfl
@[simp] theorem State.lastFault_journaled (s : State) (q : SettleRecord) :
    (s.journaled q).lastFault = s.lastFault := rfl

/-! ### Close requests with an empty path -/

/-- The station whose session has just been settled in service for `cents` (R72). -/
def Station.settled (st : Station) (now cents : Nat) : Station :=
  { st with
    session := none, pauseTimer := none, reader := st.reader.produce (.closed cents)
    timerA := loadedTimer now (codeSeconds st.profile.idleA)
    timerB := loadedTimer now (codeSeconds st.profile.idleB) }

section AtStation

variable (s : State) (i : StationId) {st : Station} (ns : List Notice) {x : Session}

/-- With an empty path a close request settles a copying COUNTER session at once (R67, R70, R72). -/
theorem State.closeRequest_of_counter {ref : Nat} (session : st.session = some x) (copying : x.copying = true)
    (path : st.path = []) (payment : x.payment = .counter ref) (stays : x.stopPending = false) (reason : CloseReason) :
    (s.atStation i st ns).closeRequest i reason =
      (s.journaled (s.counterRecord i { x with phase := .closing reason } reason)).atStation i
        (st.settled s.now ((x.charged + 5) / 10))
      (insertNotice ⟨.sessionClosed, i.val + 1⟩ ns) := by
  rw [s.closeRequest_of_copying i ns session copying reason _ rfl, if_pos path,
    s.settleInService_atStation i _ ns (x := { x with phase := .closing reason }) payment stays]
  rfl

/-! ### The account step (R71) -/

/-- The slot of a CAMPUS session once `cents` are charged to it at stamp `stamp` of period `period` (R71, R127). -/
def Slot.charged (a : Slot) (x : Session) (cents period stamp : Nat) : Slot :=
  { a with
    damage := .sound
    account := { a.account with
      figures := (match a.account.figures with
        | .prepaid balance => .prepaid (balance - cents)
        | .department limit spent p => .department limit ((if p = period then spent else 0) + cents) period)
      held := a.account.held - x.hold
      openCount := a.account.openCount - 1
      lastUse := stamp } }

/-- A settlement's write aligns the account, charges it and releases its hold (R71, R127). -/
theorem Slot.charge_eq (a : Slot) (x : Session) (cents period stamp : Nat) :
    ({ a with account := a.account.charge period x.hold cents stamp, damage := .sound } : Slot) =
      a.charged x cents period stamp := by
  rcases a with ⟨identity, suspect, ⟨blocked, rate, figures, held, openCount, lastUse⟩, damage⟩
  cases figures with
  | prepaid balance => rfl
  | department limit spent p =>
      by_cases current : p = period <;> simp [Slot.charged, Account.charge, Account.align, current]

/-- The part after the account step on slot `k`, which holds `a`: charged where the tested read finds content. -/
def State.accountCharged (s : State) (k : Nat) (a : Slot) (x : Session) (cents : Nat) : State :=
  if a.tested.suspect then s.tested k a
  else (s.tested k a).written k (a.charged x cents s.period s.stamp)

/-- The account step of a CAMPUS settlement: the record is PARKED where the slot is SUSPECT, by this read or before. -/
theorem State.accountStep_atStation {k : Nat} {a : Slot} (payment : x.payment = .campus k) (slot : s.slot k = some a)
    (cents : Nat) :
    (s.atStation i st ns).accountStep x cents =
      ((s.accountCharged k a x cents).atStation i st (a.testedNotices ns), a.tested.suspect) := by
  have held := (State.slot_tested slot).1
  simp only [State.accountStep, payment, s.testedRead_atStation i st ns slot, State.accountCharged]
  cases known : a.tested.suspect with
  | true => rfl
  | false =>
      have suspect : a.tested.suspect = a.suspect := by
        simp only [Slot.tested, Bool.or_eq_false_iff] at known ⊢
        simp [known]
      have charged : ({ a.tested with account := a.account.charge s.period x.hold cents s.stamp, damage := .sound } :
          Slot) = a.charged x cents s.period s.stamp := by
        rw [← Slot.charge_eq, ← suspect]
        rfl
      rw [← charged]
      exact congrArg (·, false) ((s.tested k a).writeAccount_atStation i st (a.testedNotices ns) held _)

/-- The identity in the directory stands through the account step (R125). -/
theorem State.slot_accountCharged {k : Nat} {a : Slot} (slot : s.slot k = some a) (cents : Nat) :
    (s.accountCharged k a x cents).slot k =
        some (if a.tested.suspect then a.tested else a.charged x cents s.period s.stamp) ∧
      ∀ m, m ≠ k → (s.accountCharged k a x cents).slot m = s.slot m := by
  obtain ⟨read, others⟩ := State.slot_tested slot
  unfold State.accountCharged
  cases a.tested.suspect with
  | true => exact ⟨read, others⟩
  | false =>
      obtain ⟨written, rest⟩ := (s.tested k a).slot_written k (a.charged x cents s.period s.stamp)
      exact ⟨written, fun m ne => (rest m ne).trans (others m ne)⟩

/-- The account step changes the account store alone: the slot, and what its tested read notes (R130). -/
theorem State.accountCharged_eq (k : Nat) (a : Slot) (cents : Nat) :
    s.accountCharged k a x cents = { s with
      slots := (s.accountCharged k a x cents).slots
      lastCorrected := if a.suspect = false ∧ a.damage = .correctable then some k else s.lastCorrected
      lastFault := if a.suspect = false ∧ a.damage = .uncorrectable then some k else s.lastFault } := by
  unfold State.accountCharged
  split <;> rfl

/-- A slot that is SUSPECT is left as it is. -/
theorem State.accountCharged_of_suspect {a : Slot} (suspect : a.suspect = true) (k cents : Nat) :
    (s.accountCharged k a x cents).slots = s.slots := by
  have lost : a.tested.suspect = true := by simp [Slot.tested, suspect]
  rw [State.accountCharged, if_pos lost]
  simp only [State.tested, suspect, true_or, if_true]

/-! ### The settlement of a CAMPUS session (R70 to R72) -/

/-- The SETTLE record of a CAMPUS session on slot `k`, which holds `a` (R151). -/
def State.campusRecord (s : State) (i : StationId) (x : Session) (a : Slot) (reason : CloseReason) : SettleRecord :=
  settleRecord ((s.recordSerial + 1) % 4294967296) s.stamp a.identity i
    { x with parked := x.parked || a.tested.suspect } ((x.charged + 5) / 10) reason

/-- The settlement of a CAMPUS session: the account step, the record, CLOSED and SESSION-CLOSED. -/
theorem State.settle_of_campus {k : Nat} {a : Slot} (payment : x.payment = .campus k) (slot : s.slot k = some a)
    (reason : CloseReason) :
    (s.atStation i st ns).settle i x reason =
      ((s.accountCharged k a x ((x.charged + 5) / 10)).journaled (s.campusRecord i x a reason)).atStation i
        { st with reader := st.reader.produce (.closed ((x.charged + 5) / 10)), session := none }
        (insertNotice ⟨.sessionClosed, i.val + 1⟩ (a.testedNotices ns)) := by
  obtain ⟨b, charged⟩ : ∃ b, b = s.accountCharged k a x ((x.charged + 5) / 10) := ⟨_, rfl⟩
  have step : (s.atStation i st ns).accountStep x x.chargeCents =
      (b.atStation i st (a.testedNotices ns), a.tested.suspect) := by
    rw [charged]
    exact s.accountStep_atStation i ns payment slot _
  have identity : (b.atStation i st (a.testedNotices ns)).identityOf
      { x with parked := x.parked || a.tested.suspect } = a.identity := by
    have held := (s.slot_accountCharged (x := x) slot ((x.charged + 5) / 10)).1
    rw [← charged] at held
    simp only [State.identityOf, payment, State.slot_atStation, held]
    cases a.tested.suspect <;> rfl
  have kept : b.recordSerial = s.recordSerial ∧ b.stamp = s.stamp := by
    rw [charged, State.accountCharged_eq]
    exact ⟨rfl, rfl⟩
  have written (r : Nat → SettleRecord) : (b.atStation i st (a.testedNotices ns)).writeSettle r =
      (b.journaled (r ((b.recordSerial + 1) % 4294967296))).atStation i st (a.testedNotices ns) := rfl
  rw [← charged]
  simp only [State.settle, step, identity, written, State.indicate_atStation, State.postAt_atStation,
    State.setSession_atStation, State.stamp_atStation, kept]
  rfl

/-- With an empty path a close request settles a copying CAMPUS session at once. -/
theorem State.closeRequest_of_campus {k : Nat} {a : Slot} (session : st.session = some x) (copying : x.copying = true)
    (path : st.path = []) (payment : x.payment = .campus k) (slot : s.slot k = some a) (stays : x.stopPending = false)
    (reason : CloseReason) :
    (s.atStation i st ns).closeRequest i reason =
      ((s.accountCharged k a x ((x.charged + 5) / 10)).journaled
        (s.campusRecord i { x with phase := .closing reason } a reason)).atStation i
        (st.settled s.now ((x.charged + 5) / 10)) (insertNotice ⟨.sessionClosed, i.val + 1⟩ (a.testedNotices ns)) := by
  have instant : ((s.accountCharged k a x ((x.charged + 5) / 10)).journaled
      (s.campusRecord i { x with phase := .closing reason } a reason)).now = s.now := by
    rw [State.accountCharged_eq]
    rfl
  have settled := s.settle_of_campus i (st := { st with
    session := some { x with phase := .closing reason }, pauseTimer := none }) ns
    (x := { x with phase := .closing reason }) payment slot reason
  rw [s.closeRequest_of_copying i ns session copying reason _ rfl, if_pos path, State.settleInService, settled,
    if_neg (by simp [stays]), State.reloadBoth_atStation]
  rw [Station.settled, ← instant]
  rfl

end AtStation

/-! ### END (R66) -/

section Frames

variable {s : State} {i : StationId} {x : Session}

/-- END closes a copying session as the customer's request. -/
theorem State.takeEnd_of_copying (s : State) (i : StationId) {st : Station} (ns : List Notice)
    (session : st.session = some x) (copying : x.copying = true) :
    (s.atStation i st ns).takeEnd i = (s.atStation i st ns).closeRequest i .customer := by
  simp only [State.takeEnd, State.station_atStation_self, session, copying, if_true]

/-- END ends an AUTHORIZING session without a record (R58). -/
theorem State.takeEnd_of_authorizing (s : State) (i : StationId) {st : Station} (ns : List Notice)
    (session : st.session = some x) (authorizing : x.authorizing = true) :
    (s.atStation i st ns).takeEnd i = s.unreserve.atStation i { st with
      session := none, authTimer := none, reader := st.reader.produce (.closed 0)
      timerA := loadedTimer s.now (codeSeconds st.profile.idleA)
      timerB := loadedTimer s.now (codeSeconds st.profile.idleB) } ns := by
  have idle : x.copying = false := by
    cases copying : x.copying with
    | false => rfl
    | true => exact nomatch authorizing.symm.trans (Session.authorizing_of_copying copying)
  simp only [State.takeEnd, State.station_atStation_self, session, idle, authorizing, Bool.false_eq_true, if_false,
    if_true, State.endWithoutRecord_atStation, State.indicate_atStation, State.reloadBoth_atStation]
  rfl

/-- END is refused BUSY without a session and at a CLOSING one. -/
theorem State.takeEnd_of_busy (s : State) (i : StationId) {st : Station} (ns : List Notice)
    (busy : st.session = none ∨ ∃ x, st.session = some x ∧ x.closing = true) :
    (s.atStation i st ns).takeEnd i = (s.atStation i st ns).refuse i .busy .none := by
  rcases busy with session | ⟨x, session, closing⟩
  · simp only [State.takeEnd, State.station_atStation_self, session]
  · obtain ⟨known, idle⟩ := Session.idle_of_closing closing
    simp only [State.takeEnd, State.station_atStation_self, session, known, idle, Bool.false_eq_true, if_false]

/-- An END frame at a station that is not in SAVE, taken with no change of the station's state. -/
theorem exec_endFrame_of_awake {b : State} {st : Station} {ns : List Notice} (run : s.running = true)
    (takes : (s.station i).reader.condition ≠ .waitingIdle) (save : (s.station i).state ≠ .save)
    (taken : (s.atStation i ((s.station i).framed s.now .looking) s.notices).takeEnd i = b.atStation i st ns)
    (state : st.state = ((s.station i).framed s.now .looking).state) :
    exec (.endFrame i) s = .next (b.atStation i st ns) := by
  obtain ⟨same, -⟩ := Station.framed_of_awake save s.now .looking
  rw [exec_endFrame_of_running run takes, State.framed, Station.wakeNotices_of_ne save, taken,
    State.endEvent_of_same (by rw [State.station_atStation_self, state, same])]

end Frames

/-- Settles O47: END is a close request, an end without a record or a refusal by the session at the framed station. -/
theorem endKeyBySession : Obligations.EndKeyBySession := by
  refine ⟨fun s i run takes save => ⟨fun x session copying path => ?_, fun x session authorizing => ?_, fun busy => ?_⟩,
    fun s i x ref run takes save session copying path payment stays => ?_⟩
  · have closed := s.closeRequest_of_copying i (st := (s.station i).framed s.now .looking) s.notices session copying
      .customer _ rfl
    rw [if_neg (by exact path)] at closed
    refine ⟨_, exec_endFrame_of_awake run takes save ((s.takeEnd_of_copying i
      (st := (s.station i).framed s.now .looking) s.notices session copying).trans closed) rfl, ?_⟩
    rw [State.station_atStation_self]
    exact ⟨rfl, rfl, rfl, by simp, by simp, by simp, State.others_of_stations rfl i _ _⟩
  · refine ⟨_, exec_endFrame_of_awake run takes save (s.takeEnd_of_authorizing i
      (st := (s.station i).framed s.now .looking) s.notices session authorizing) rfl, ?_⟩
    rw [State.station_atStation_self]
    exact ⟨rfl, rfl, by simp, by simp, by simp, by simp, State.others_of_stations rfl i _ _⟩
  · refine ⟨_, exec_endFrame_of_awake run takes save ((s.takeEnd_of_busy i
      (st := (s.station i).framed s.now .looking) s.notices busy).trans (State.refuse_atStation ..)) rfl, ?_⟩
    rw [State.station_atStation_self]
    exact ⟨rfl, rfl, by simp, by simp, by simp, State.others_of_stations rfl i _ _⟩
  · obtain ⟨state, -⟩ := Station.framed_of_awake save s.now .looking
    refine ⟨_, s.counterRecord i { x with phase := .closing .customer } .customer, exec_endFrame_of_awake run takes save
      ((s.takeEnd_of_copying i (st := (s.station i).framed s.now .looking) s.notices session copying).trans
        (s.closeRequest_of_counter i (st := (s.station i).framed s.now .looking) s.notices session copying path payment
          stays .customer)) rfl, ?_⟩
    rw [State.station_atStation_self]
    have paid : x.payment.paidBy 0 = .counter ref := by rw [payment]; rfl
    exact ⟨rfl, rfl, state, rfl, rfl, rfl, rfl, paid, rfl, rfl, rfl, rfl, rfl, by simp, by simp,
      State.others_of_stations rfl i _ _⟩

/-! ### END-SESSION (R69) -/

section Requests

variable {s : State} {n : Byte} {i : StationId}

theorem exec_endSession_of_none (serving : s.Serving) (named : n.toNat = i.val + 1)
    (session : (s.station i).session = none) : exec (.endSession n) s = .next (s.replied 0xA1 6 []) := by
  have session' : (s.taken.station i).session = none := session
  rw [exec_endSession serving, ← State.taken, State.ownEndSession, stationOf_of_toNat named]
  dsimp only
  rw [session']
  rfl

theorem exec_endSession_of_authorizing {x : Session} (serving : s.Serving) (named : n.toNat = i.val + 1)
    (session : (s.station i).session = some x) (authorizing : x.authorizing = true) :
    exec (.endSession n) s = .next (s.replied 0xA1 6 []) := by
  have session' : (s.taken.station i).session = some x := session
  have idle : x.copying = false ∧ x.closing = false := by
    simp only [Session.authorizing, Bool.and_eq_true, decide_eq_true_eq] at authorizing
    simp [Session.copying, Session.closing, authorizing.2, Phase.closeReason]
  rw [exec_endSession serving, ← State.taken, State.ownEndSession, stationOf_of_toNat named]
  simp only [session', idle, Bool.false_eq_true, if_false]
  rfl

theorem exec_endSession_of_closing {x : Session} (serving : s.Serving) (named : n.toNat = i.val + 1)
    (session : (s.station i).session = some x) (closing : x.closing = true) :
    exec (.endSession n) s = .next (s.replied 0xA1 0 (leBytes 4 x.serial ++ [0])) := by
  have session' : (s.taken.station i).session = some x := session
  rw [exec_endSession serving, ← State.taken, State.ownEndSession, stationOf_of_toNat named]
  simp only [session', (Session.idle_of_closing closing).2, closing, Bool.false_eq_true, if_false, if_true]
  rfl

/-- At a copying session it is a close request, answered with whether the session has ended (R67, R69). -/
theorem exec_endSession_of_copying {x : Session} {b : State} {st : Station} {ns : List Notice} (serving : s.Serving)
    (named : n.toNat = i.val + 1) (session : (s.station i).session = some x) (copying : x.copying = true)
    (closed : (s.taken.atStation i (s.station i) s.notices).closeRequest i .host = b.atStation i st ns) :
    exec (.endSession n) s = .next ((b.atStation i st ns).sendReply 0xA1
      (.ok (leBytes 4 x.serial ++ [flag st.session.isNone])) false) := by
  have session' : (s.taken.station i).session = some x := session
  rw [← s.taken_eq_atStation i] at closed
  rw [exec_endSession serving, ← State.taken, State.ownEndSession, stationOf_of_toNat named]
  simp only [session', copying, if_true, closed, State.station_atStation_self]

/-- At a copying session whose close request settles it: what the settlement and its reply leave, over the part `b` that
the account step has left. -/
theorem exec_endSession_settled {x : Session} {b : State} {st : Station} {ns : List Notice} {r : SettleRecord}
    (serving : s.Serving) (named : n.toNat = i.val + 1) (session : (s.station i).session = some x)
    (copying : x.copying = true) (ended : st.session = none) (stations : b.stations = s.stations)
    (closed : (s.taken.atStation i (s.station i) s.notices).closeRequest i .host = (b.journaled r).atStation i st ns) :
    ∃ t, exec (.endSession n) s = .next t ∧ t.station i = st ∧ (∀ j, j ≠ i → t.station j = s.station j) ∧
      t.journal = b.journal ++ [.settle r] ∧ t.reservations = b.reservations - 1 ∧ t.slots = b.slots ∧
      t.lastCorrected = b.lastCorrected ∧ t.lastFault = b.lastFault ∧ t.notices = ns ∧
      t.reply = some { kind := 0xA1, body := 0 :: (leBytes 4 x.serial ++ [1]), restarts := false } := by
  refine ⟨_, exec_endSession_of_copying serving named session copying closed, ?_⟩
  rw [State.station_sendReply, State.station_atStation_self, ended]
  exact ⟨rfl, State.others_of_reply (b := b.journaled r) stations i _ _ _ _, by simp, by simp, by simp, by simp,
    by simp, by simp, rfl⟩

end Requests

/-- The notices of a tested read, by the slot as it was read (R130). -/
theorem Slot.testedNotices_eq (a : Slot) {ns : List Notice} : a.testedNotices ns =
    if a.suspect = true ∨ a.damage = .sound then ns
    else if a.damage = .correctable then insertNotice ⟨.memoryCorrected, 0⟩ ns
    else insertNotice ⟨.memoryFault, 0⟩ ns := by
  rcases a with ⟨identity, suspect, account, damage⟩
  cases suspect <;> cases damage <;> rfl

/-- Settles O22: END-SESSION is a close request at a copying session; a settlement is the record in the journal, after
the account step of a CAMPUS session. -/
theorem endSessionSettles : Obligations.EndSessionSettles := by
  refine ⟨fun s n i serving named => ⟨exec_endSession_of_none serving named,
    fun x => exec_endSession_of_authorizing serving named, fun x => exec_endSession_of_closing serving named,
    fun x session copying path => ?_, fun x ref session copying path payment stays => ?_⟩,
    fun s n i x k a serving named session copying path payment stays slot => ?_⟩
  · have closed := s.taken.closeRequest_of_copying i s.notices session copying .host _ rfl
    rw [if_neg path] at closed
    exact exec_endSession_of_copying serving named session copying closed
  · obtain ⟨t, result, station, others, journal, reservations, slots, -, -, notices, reply⟩ :=
      exec_endSession_settled (b := s.taken) serving named session copying rfl rfl
        (s.taken.closeRequest_of_counter i s.notices session copying path payment stays .host)
    have paid : x.payment.paidBy 0 = .counter ref := by rw [payment]; rfl
    refine ⟨t, s.taken.counterRecord i { x with phase := .closing .host } .host, result, ?_⟩
    rw [State.journal_taken] at journal
    rw [State.reservations_taken] at reservations
    rw [State.slots_taken] at slots
    rw [station]
    exact ⟨rfl, journal, rfl, rfl, rfl, rfl, rfl, paid, rfl, rfl, rfl, rfl, reservations, slots, rfl, rfl, rfl, rfl,
      notices, reply, others⟩
  · have closed := s.taken.closeRequest_of_campus i s.notices session copying path payment slot stays .host
    obtain ⟨read, kept⟩ := s.taken.slot_accountCharged (x := x) slot ((x.charged + 5) / 10)
    have rest := s.taken.accountCharged_eq (x := x) k a ((x.charged + 5) / 10)
    have whole (suspect : a.suspect = true) :=
      s.taken.accountCharged_of_suspect (x := x) suspect k ((x.charged + 5) / 10)
    generalize s.taken.accountCharged k a x ((x.charged + 5) / 10) = b at closed read kept rest whole
    obtain ⟨t, result, station, others, journal, reservations, slots, corrected, fault, notices, -⟩ :=
      exec_endSession_settled serving named session copying rfl (by rw [rest]; rfl) closed
    have same (m : Nat) : t.slot m = b.slot m := congrArg (getSlot m) slots
    have paid : x.payment.paidBy a.identity = .campus k a.identity := by rw [payment]; rfl
    have parked (lost : Bool) (found : a.tested.suspect = lost) :
        (s.taken.campusRecord i { x with phase := .closing .host } a .host).parked = (x.parked || lost) :=
      congrArg (x.parked || ·) found
    rw [rest] at journal reservations corrected fault
    refine ⟨t, s.taken.campusRecord i { x with phase := .closing .host } a .host, result, by rw [station]; rfl, journal,
      reservations, paid, rfl, rfl, rfl, fun m ne => (same m).trans (kept m ne), others, fun known usable => ?_,
      fun suspect => ?_, fun known broken => ?_, by rw [notices, Slot.testedNotices_eq]⟩
    · have content : a.tested.suspect = false := by simp [Slot.tested, known, usable]
      rw [content] at read
      refine ⟨(parked false content).trans (Bool.or_false _), fault.trans (if_neg fun h => usable h.2), ?_,
        (same k).trans read⟩
      rw [corrected]
      simp only [known, true_and]
      rfl
    · have lost : a.tested.suspect = true := by simp [Slot.tested, suspect]
      exact ⟨(parked true lost).trans (Bool.or_true _), slots.trans (whole suspect),
        fault.trans (if_neg fun h => nomatch h.1.symm.trans suspect)⟩
    · have content : a.tested = { a with suspect := true } := by simp [Slot.tested, known, broken]
      rw [content] at read
      exact ⟨(parked true (by rw [content])).trans (Bool.or_true _), fault.trans (if_pos ⟨known, broken⟩),
        (same k).trans read⟩

end Sys2Proof.Machine
end

section
/-! The money of one session beside its path (R82, R86 to R89, R112): what a feed, a delivery, a hand-over and a changed
phase leave of it. -/

namespace Sys2Proof.Machine

/-! ### COVERED prices -/

theorem Sheet.coveredPrice_of_uncovered {e : Sheet} (h : e.isCovered = false) : e.coveredPrice = 0 := by
  unfold Sheet.isCovered at h
  unfold Sheet.coveredPrice
  split
  · rename_i coverage
    rw [coverage] at h
    exact nomatch h
  · rfl

theorem Sheet.coveredPrice_of_covered {e : Sheet} {p : Nat} (h : e.coverage = .covered p) : e.coveredPrice = p := by
  unfold Sheet.coveredPrice
  rw [h]

/-- A path without COVERED sheets holds no pending price. -/
theorem sum_coveredPrice_of_uncovered {path : List Sheet} (h : ∀ e ∈ path, e.isCovered = false) :
    (path.map Sheet.coveredPrice).sum = 0 := by
  rw [List.sum_eq_zero_iff]
  intro p hp
  obtain ⟨e, he, rfl⟩ := List.mem_map.mp hp
  exact Sheet.coveredPrice_of_uncovered (h e he)

/-- Where every COVERED sheet carries the session's serial, the others add nothing to its prices. -/
theorem sum_coveredPrice_carried {serial : Nat} : ∀ {path : List Sheet},
    (∀ e ∈ path, e.isCovered = true → e.serial = some serial) →
      ((path.filter fun e => e.carries serial).map Sheet.coveredPrice).sum = (path.map Sheet.coveredPrice).sum
  | [], _ => rfl
  | e :: path, own => by
      have rest := sum_coveredPrice_carried fun f hf => own f (List.mem_cons_of_mem e hf)
      by_cases mine : e.carries serial = true
      · rw [List.filter_cons_of_pos (by exact mine), List.map_cons, List.map_cons, List.sum_cons, List.sum_cons, rest]
      · have uncovered : e.isCovered = false := by
          rw [← Bool.not_eq_true]
          exact fun covered => mine (decide_eq_true (own e List.mem_cons_self covered))
        rw [List.filter_cons_of_neg (by exact mine), List.map_cons, List.sum_cons,
          Sheet.coveredPrice_of_uncovered uncovered, Nat.zero_add, rest]

/-! ### A session's money -/

/-- The money of session `x` is whole beside `path`, the four clauses of `Station.MoneyKept` with their names. -/
structure Session.MoneyKept (x : Session) (path : List Sheet) : Prop where
  own : ∀ e ∈ path, e.isCovered = true → e.serial = some x.serial
  pending : x.pending = (path.map Sheet.coveredPrice).sum
  bound : x.charged + x.pending ≤ 10 * x.hold
  unpaid : x.phase = .authorizing → x.charged = 0 ∧ ∀ e ∈ path, e.isCovered = false

theorem Station.moneyKept_of_none {st : Station} (h : st.session = none) :
    st.MoneyKept ↔ ∀ e ∈ st.path, e.isCovered = false := by
  unfold Station.MoneyKept
  rw [h]

theorem Station.moneyKept_of_some {st : Station} {x : Session} (h : st.session = some x) :
    st.MoneyKept ↔ x.MoneyKept st.path := by
  unfold Station.MoneyKept
  rw [h]
  exact ⟨fun ⟨own, pending, bound, unpaid⟩ => ⟨own, pending, bound, unpaid⟩,
    fun ⟨own, pending, bound, unpaid⟩ => ⟨own, pending, bound, unpaid⟩⟩

/-- Money speaks of the path and the session alone. -/
theorem Station.moneyKept_congr {a b : Station} (path : b.path = a.path) (session : b.session = a.session) :
    a.MoneyKept → b.MoneyKept := by
  unfold Station.MoneyKept
  rw [path, session]
  exact id

/-- The serial and the money of `y` are those of `x`, the hold at least that of `x`, and `y` is AUTHORIZING only if `x`
is. -/
structure Session.SameMoney (x y : Session) : Prop where
  serial : y.serial = x.serial
  pending : y.pending = x.pending
  charged : y.charged = x.charged
  hold : x.hold ≤ y.hold
  phase : y.phase = .authorizing → x.phase = .authorizing

theorem Session.SameMoney.moneyKept {x y : Session} {path : List Sheet} (same : x.SameMoney y) (h : x.MoneyKept path) :
    y.MoneyKept path := by
  obtain ⟨serial, pending, charged, hold, phase⟩ := same
  obtain ⟨own, sum, bound, unpaid⟩ := h
  refine ⟨?_, pending.trans sum, ?_, ?_⟩
  · rw [serial]
    exact own
  · rw [pending, charged]
    omega
  · rw [charged]
    exact unpaid ∘ phase

theorem Session.sameMoney_retier (x : Session) (path : List Sheet) : x.SameMoney (x.retier path) := by
  rw [Session.retier_eq]
  exact ⟨rfl, rfl, rfl, Nat.le_refl _, id⟩

/-- While AUTHORIZING no sheet of the path is COVERED (R57, R87). -/
theorem Session.MoneyKept.uncovered {x : Session} {path : List Sheet} (h : x.MoneyKept path)
    (phase : x.phase = .authorizing) : ∀ e ∈ path, e.isCovered = false := (h.unpaid phase).2

/-- A new session beside a path without COVERED sheets (R52). -/
theorem newSession_moneyKept {path : List Sheet} (h : ∀ e ∈ path, e.isCovered = false) (serial : Nat)
    (payment : Payment) (hold : Nat) (plan : Plan) (rate : Nat) (phase : Phase) (opened : Nat) :
    (newSession serial payment hold plan rate phase opened).MoneyKept path :=
  ⟨fun e he covered => (nomatch (h e he).symm.trans covered), (sum_coveredPrice_of_uncovered h).symm, Nat.zero_le _,
    fun _ => ⟨rfl, h⟩⟩

/-- An authorization accepted: nothing was charged or pending, so any hold bears it (R61). -/
theorem Session.MoneyKept.accept {x : Session} {path : List Sheet} (h : x.MoneyKept path)
    (phase : x.phase = .authorizing) (hold : Nat) :
    Session.MoneyKept { x with hold := hold, phase := .active } path := by
  obtain ⟨charged, uncovered⟩ := h.unpaid phase
  have pending : x.pending = 0 := h.pending.trans (sum_coveredPrice_of_uncovered uncovered)
  refine ⟨h.own, h.pending, ?_, nofun⟩
  show x.charged + x.pending ≤ _
  omega

/-- The hand-over takes every price out of pending (R112). -/
theorem Session.MoneyKept.release {x : Session} {path : List Sheet} (h : x.MoneyKept path) :
    ((x.release path).retier []).MoneyKept [] := by
  refine (Session.sameMoney_retier _ _).moneyKept ⟨nofun, ?_, ?_, fun phase => ⟨(h.unpaid phase).1, nofun⟩⟩
  · show x.pending - _ = _
    rw [sum_coveredPrice_carried h.own, h.pending]
    exact Nat.sub_self _
  · show x.charged + (x.pending - _) ≤ 10 * x.hold
    have bound := h.bound
    omega

/-- A sheet that is not COVERED joins the path (R87). -/
theorem Session.MoneyKept.join {x : Session} {path : List Sheet} (h : x.MoneyKept path) {e : Sheet}
    (uncovered : e.isCovered = false) : x.MoneyKept (path ++ [e]) := by
  have apart {f : Sheet} (hf : f ∈ path ++ [e]) : f ∈ path ∨ f.isCovered = false := by
    rcases List.mem_append.mp hf with hf | hf
    · exact .inl hf
    · exact .inr (List.mem_singleton.mp hf ▸ uncovered)
  refine ⟨fun f hf covered => ?_, ?_, h.bound, fun phase => ⟨(h.unpaid phase).1, fun f hf => ?_⟩⟩
  · exact h.own f ((apart hf).resolve_right (by simp [covered])) covered
  · simp [h.pending, Sheet.coveredPrice_of_uncovered uncovered]
  · exact (apart hf).elim (h.uncovered phase f) id

/-- A COVERED sheet joins the path: its price fits the available credit and becomes pending (R86, R88). -/
theorem Session.MoneyKept.cover {x y : Session} {path : List Sheet} (h : x.MoneyKept path) {e : Sheet} {p : Nat}
    (fits : p ≤ x.available) (coverage : e.coverage = .covered p) (mine : e.serial = some x.serial)
    (same : ({ x with pending := x.pending + p } : Session).SameMoney y) (phase : x.phase ≠ .authorizing) :
    y.MoneyKept (path ++ [e]) := by
  have bound := h.bound
  unfold Session.available at fits
  refine same.moneyKept ⟨fun f hf covered => ?_, ?_, ?_, fun k => absurd k phase⟩
  · rcases List.mem_append.mp hf with hf | hf
    · exact h.own f hf covered
    · exact List.mem_singleton.mp hf ▸ mine
  · simp [h.pending, Sheet.coveredPrice_of_covered coverage]
  · show x.charged + (x.pending + p) ≤ 10 * x.hold
    omega

/-- A sheet that is not COVERED takes no price with it when it leaves the path. -/
theorem Session.MoneyKept.tail {x : Session} {e : Sheet} {rest : List Sheet} (h : x.MoneyKept (e :: rest))
    (uncovered : e.isCovered = false) : x.MoneyKept rest := by
  have pending := h.pending
  rw [List.map_cons, List.sum_cons, Sheet.coveredPrice_of_uncovered uncovered, Nat.zero_add] at pending
  exact ⟨fun f hf => h.own f (List.mem_cons_of_mem e hf), pending, h.bound, fun phase =>
    ⟨(h.unpaid phase).1, fun f hf => h.uncovered phase f (List.mem_cons_of_mem e hf)⟩⟩

/-- The sheet of another session is not COVERED. -/
theorem Session.MoneyKept.uncovered_of_other {x : Session} {e : Sheet} {rest : List Sheet} (h : x.MoneyKept (e :: rest))
    (other : e.carries x.serial = false) : e.isCovered = false := by
  rw [← Bool.not_eq_true]
  exact fun covered => of_decide_eq_false other (h.own e List.mem_cons_self covered)

/-- The delivery of the oldest sheet moves a COVERED price from pending to charged (R89). -/
theorem Session.MoneyKept.deliver {x : Session} {e : Sheet} {rest : List Sheet} (h : x.MoneyKept (e :: rest)) :
    (x.deliver e).MoneyKept rest := by
  unfold Session.deliver
  split <;> rename_i coverage
  · rename_i p
    have pending : x.pending = p + (rest.map Sheet.coveredPrice).sum := by
      rw [h.pending, List.map_cons, List.sum_cons, Sheet.coveredPrice_of_covered coverage]
    have bound := h.bound
    refine ⟨fun f hf => h.own f (List.mem_cons_of_mem e hf), ?_, ?_, fun phase => ?_⟩
    · show x.pending - p = _
      rw [pending, Nat.add_sub_cancel_left]
    · show x.charged + p + (x.pending - p) ≤ 10 * x.hold
      omega
    · have uncovered := h.uncovered phase e List.mem_cons_self
      simp [Sheet.isCovered, coverage] at uncovered
  · exact Session.SameMoney.moneyKept (x := x) ⟨rfl, rfl, rfl, Nat.le_refl _, id⟩
      (h.tail (by simp [Sheet.isCovered, coverage]))
  · exact Session.SameMoney.moneyKept (x := x) ⟨rfl, rfl, rfl, Nat.le_refl _, id⟩
      (h.tail (by simp [Sheet.isCovered, coverage]))

/-! ### The money of a station -/

/-- A station without a session whose path is empty owes nothing. -/
theorem Station.moneyKept_of_empty {st : Station} (session : st.session = none) (path : st.path = []) :
    st.MoneyKept := by
  rw [Station.moneyKept_of_none session, path]
  nofun

/-- A session that leaves with no COVERED sheet in the path leaves no money behind. -/
theorem Station.moneyKept_of_ended {a b : Station} {x : Session} (session : a.session = some x)
    (phase : x.phase = .authorizing) (path : b.path = a.path) (ended : b.session = none) (h : a.MoneyKept) :
    b.MoneyKept := by
  rw [Station.moneyKept_of_none ended, path]
  exact ((Station.moneyKept_of_some session).mp h).uncovered phase

theorem Station.moneyKept_handOver {st : Station} (h : st.MoneyKept) : st.handOver.MoneyKept := by
  cases session : st.session with
  | none => exact Station.moneyKept_of_empty (by simp [Station.handOver, session]) rfl
  | some x =>
      rw [Station.moneyKept_of_some (x := (x.release st.path).retier []) (by simp [Station.handOver, session])]
      exact ((Station.moneyKept_of_some session).mp h).release

end Sys2Proof.Machine
end

section
/-! What the event of a station keeps of its money, operation by operation, in the order of `State.Local`. -/

namespace Sys2Proof.Machine

/-- What an operation at station `i` keeps: the station's money, and the emptiness of its path. A settlement rests on
the second: it takes the session away only from an empty path (R67, R68). -/
structure State.KeepsMoneyAt (i : StationId) (s t : State) : Prop where
  money : (s.station i).MoneyKept → (t.station i).MoneyKept
  emptied : (s.station i).path = [] → (t.station i).path = []

namespace State.KeepsMoneyAt

variable {i : StationId} {s t u : State}

theorem refl (i : StationId) (s : State) : State.KeepsMoneyAt i s s := ⟨id, id⟩

theorem trans (h : State.KeepsMoneyAt i s t) (k : State.KeepsMoneyAt i t u) : State.KeepsMoneyAt i s u :=
  ⟨k.money ∘ h.money, k.emptied ∘ h.emptied⟩

/-- An operation that leaves the station as it is. -/
theorem ofEq (station : t.station i = s.station i) : State.KeepsMoneyAt i s t := by
  refine ⟨?_, ?_⟩ <;> rw [station] <;> exact id

/-- An operation that leaves every station as it is. -/
theorem ofStations (stations : t.stations = s.stations) : State.KeepsMoneyAt i s t :=
  ofEq (by rw [State.station, stations, State.station])

theorem modStation {f : Station → Station} (money : (s.station i).MoneyKept → (f (s.station i)).MoneyKept)
    (emptied : (s.station i).path = [] → (f (s.station i)).path = []) : State.KeepsMoneyAt i s (s.modStation i f) := by
  refine ⟨?_, ?_⟩ <;> rw [State.station_modStation_self]
  · exact money
  · exact emptied

/-- A change of the station that leaves its path and its session. -/
theorem modRest {f : Station → Station} (path : (f (s.station i)).path = (s.station i).path)
    (session : (f (s.station i)).session = (s.station i).session) : State.KeepsMoneyAt i s (s.modStation i f) :=
  modStation (Station.moneyKept_congr path session) path.trans

/-- A change of the station's session that leaves its money. -/
theorem modOwn {f : Station → Station} {x y : Session} (present : (s.station i).session = some x)
    (session : (f (s.station i)).session = some y) (path : (f (s.station i)).path = (s.station i).path)
    (same : x.SameMoney y) : State.KeepsMoneyAt i s (s.modStation i f) := by
  refine modStation (fun kept => ?_) path.trans
  rw [Station.moneyKept_of_some session, path]
  exact same.moneyKept ((Station.moneyKept_of_some present).mp kept)

theorem modSession {f : Session → Session} (same : ∀ x : Session, x.SameMoney (f x)) :
    State.KeepsMoneyAt i s (s.modSession i f) := by
  cases present : (s.station i).session with
  | none => exact modRest rfl (by simp [present])
  | some x => exact modOwn present (by simp [present]) rfl (same x)

/-! ### The operations of one station -/

theorem indicate (f : Indicator) : State.KeepsMoneyAt i s (s.indicate i f) := modRest rfl rfl

theorem setLine (n : Line) (v : LineState) : State.KeepsMoneyAt i s (s.setLine i n v) := modRest rfl rfl

theorem setReader (c : ReaderCondition) : State.KeepsMoneyAt i s (s.setReader i c) := modRest rfl rfl

theorem reloadBoth : State.KeepsMoneyAt i s (s.reloadBoth i) := modRest rfl rfl

theorem setTimer (k : TimerId) (v : IdleTimer) : State.KeepsMoneyAt i s (s.modStation i fun st => st.setTimer k v) :=
  modRest (Station.path_setTimer _ _ _) (Station.session_setTimer _ _ _)

theorem postAt (k : NoticeKind) (j : StationId) : State.KeepsMoneyAt i s (s.postAt k j) := ofEq rfl

theorem reach (n : Nat) : State.KeepsMoneyAt i s (s.reach n) := ofEq rfl

theorem refuse (r : RefuseReason) (c : CardClass) : State.KeepsMoneyAt i s (s.refuse i r c) :=
  (modRest rfl rfl).trans ((indicate _).trans (postAt _ _))

theorem enterState (n : StationState) : State.KeepsMoneyAt i s (s.enterState i n) :=
  (modRest rfl rfl).trans (postAt _ _)

end State.KeepsMoneyAt

theorem Station.frame_closeJam (st : Station) : st.closeJam.path = st.path ∧ st.closeJam.session = st.session := by
  unfold Station.closeJam
  split
  · exact ⟨rfl, rfl⟩
  · split <;> exact ⟨rfl, rfl⟩

theorem Station.frame_leaveService (st : Station) :
    st.leaveService.path = st.path ∧ st.leaveService.session = st.session := by
  unfold Station.leaveService
  split
  · exact st.frame_closeJam
  · exact ⟨rfl, rfl⟩

/-! ### Accounts and the journal leave every station -/

theorem State.stations_testedRead (s : State) (n : Nat) : (s.testedRead n).1.stations = s.stations := by
  rcases s.testedRead_cases n with ⟨_, h⟩ | ⟨x, _, ⟨_, h⟩ | ⟨_, _, h⟩ | ⟨_, _, h⟩ | ⟨_, _, h⟩⟩ <;> rw [h] <;> rfl

theorem State.stations_of_testedRead {s t : State} {n : Nat} {r : SlotRead} (h : s.testedRead n = (t, r)) :
    t.stations = s.stations := by
  have read := s.stations_testedRead n
  rwa [h] at read

@[simp] theorem State.stations_writeAccount (s : State) (n : Nat) (a : Account) :
    (s.writeAccount n a).stations = s.stations := by
  unfold State.writeAccount
  split <;> rfl

theorem State.stations_accountStep (s : State) (x : Session) (cents : Nat) :
    (s.accountStep x cents).1.stations = s.stations := by
  unfold State.accountStep
  split
  · split <;> rename_i read
    · exact (State.stations_writeAccount _ _ _).trans (State.stations_of_testedRead read)
    · exact State.stations_of_testedRead read
  · rfl

namespace State.KeepsMoneyAt

variable {i : StationId} {s t u : State}

theorem modCloseJam : State.KeepsMoneyAt i s (s.modStation i Station.closeJam) :=
  modRest (Station.frame_closeJam _).1 (Station.frame_closeJam _).2

theorem enterOffline : State.KeepsMoneyAt i s (s.enterOffline i) :=
  (modRest (Station.frame_leaveService _).1 (Station.frame_leaveService _).2).trans (enterState _)

theorem activity (k : TimerId) : State.KeepsMoneyAt i s (s.activity i k) := by
  unfold State.activity
  split
  · exact refl _ _
  · dsimp only
    have woken : State.KeepsMoneyAt i s (if (s.station i).state = .save then s.enterState i .ready else s) := by
      split
      · exact enterState _
      · exact refl _ _
    split
    · exact woken
    · exact woken.trans (setTimer _ _)

/-! ### Sessions -/

theorem liftPause {x : Session} (present : (s.station i).session = some x) (b : Bool) :
    State.KeepsMoneyAt i s (s.liftPause i x b) := by
  have lifted : State.KeepsMoneyAt i s (s.modStation i fun st =>
      { st with session := some { x with phase := .active, forced := false }, pauseTimer := none }) :=
    modOwn present rfl rfl ⟨rfl, rfl, rfl, Nat.le_refl _, nofun⟩
  unfold State.liftPause
  dsimp only
  split
  · exact lifted
  · exact lifted.trans (indicate _)

theorem evaluatePause (b : Bool) : State.KeepsMoneyAt i s (s.evaluatePause i b) := by
  unfold State.evaluatePause
  cases present : (s.station i).session with
  | none => exact refl _ _
  | some x =>
      have holding : State.KeepsMoneyAt i s (s.enterHolding i x) :=
        (modOwn present (y := { x with phase := .holding }) rfl rfl ⟨rfl, rfl, rfl, Nat.le_refl _, nofun⟩).trans
          ((postAt _ _).trans (indicate _))
      dsimp only
      split
      · split
        · split
          · exact holding
          · split
            · exact indicate _
            · exact refl _ _
        · split
          · exact refl _ _
          · exact liftPause present b
      · exact refl _ _

/-- A session is created only where there is none: the path holds no COVERED sheet (R52, R87). -/
theorem createSession (none : (s.station i).session = none) (p : Payment) (h r : Nat) (ph : Phase) :
    State.KeepsMoneyAt i s (s.createSession i p h r ph) := by
  rw [State.createSession_eq]
  refine ⟨?_, ?_⟩ <;> rw [State.station_setStation_self]
  · intro kept
    rw [Station.moneyKept_of_some rfl]
    exact newSession_moneyKept ((Station.moneyKept_of_none none).mp kept) ..
  · exact id

/-- A session that ends without a record has nothing COVERED (R58). -/
theorem endWithoutRecord {x : Session} (present : (s.station i).session = some x) (phase : x.phase = .authorizing) :
    State.KeepsMoneyAt i s (s.endWithoutRecord i) :=
  trans (t := s.unreserve) (ofEq rfl) (modStation (Station.moneyKept_of_ended present phase rfl rfl) id)

/-- A settlement finds the path empty and leaves no session (R67, R68). -/
theorem settle (empty : (s.station i).path = []) (x : Session) (r : CloseReason) :
    State.KeepsMoneyAt i s (s.settle i x r) := by
  have paid : ((s.accountStep x x.chargeCents).1.station i).path = [] := by
    rw [State.station, State.stations_accountStep]
    exact empty
  have left : ((s.settle i x r).station i).path = [] ∧ ((s.settle i x r).station i).session = none := by
    unfold State.settle
    dsimp only
    rw [State.station_setSession_self, State.station_postAt, State.station_indicate_self]
    exact ⟨paid, rfl⟩
  exact ⟨fun _ => Station.moneyKept_of_empty left.2 left.1, fun _ => left.1⟩

theorem settleInService (empty : (s.station i).path = []) (x : Session) (r : CloseReason) :
    State.KeepsMoneyAt i s (s.settleInService i x r) := by
  unfold State.settleInService
  dsimp only
  split
  · exact (settle empty _ _).trans enterOffline
  · exact (settle empty _ _).trans reloadBoth

theorem closeRequest (r : CloseReason) : State.KeepsMoneyAt i s (s.closeRequest i r) := by
  unfold State.closeRequest
  cases present : (s.station i).session with
  | none => exact refl _ _
  | some x =>
      have closing : State.KeepsMoneyAt i s (s.modStation i fun st =>
          { st with session := some { x with phase := .closing r }, pauseTimer := none }) :=
        modOwn present rfl rfl ⟨rfl, rfl, rfl, Nat.le_refl _, nofun⟩
      dsimp only
      split
      · split
        · exact closing.trans (settleInService ‹_› _ _)
        · exact closing
      · exact refl _ _

theorem quietTest : State.KeepsMoneyAt i s (s.quietTest i) := by
  unfold State.quietTest
  dsimp only
  split
  · split
    · exact enterState _
    · split
      · exact closeRequest _
      · exact refl _ _
  · exact refl _ _

theorem endEvent (b : StationState) : State.KeepsMoneyAt i s (s.endEvent i b) := by
  unfold State.endEvent
  split
  · exact quietTest
  · exact refl _ _

theorem emptyPathReport (empty : (s.station i).path = []) : State.KeepsMoneyAt i s (s.emptyPathReport i) := by
  unfold State.emptyPathReport
  dsimp only
  split
  · exact quietTest
  · split
    · exact quietTest
    · split
      · exact quietTest.trans (settleInService (quietTest.emptied empty) _ _)
      · exact quietTest

/-! ### Jams -/

theorem openJam (c : JamCause) : State.KeepsMoneyAt i s (s.openJam i c) := modRest rfl rfl

theorem modHandOver : State.KeepsMoneyAt i s (s.modStation i Station.handOver) :=
  modStation Station.moneyKept_handOver fun _ => rfl

theorem handOver : State.KeepsMoneyAt i s (s.handOver i) := by
  unfold State.handOver
  dsimp only
  split
  · exact modHandOver
  · exact modHandOver.trans (evaluatePause _)

/-- A hand-over leaves the path empty, whatever was in it (R18). -/
theorem path_handOver (i : StationId) (s : State) : ((s.handOver i).station i).path = [] := by
  have empty : ((s.modStation i Station.handOver).station i).path = [] := by
    rw [State.station_modStation_self]
    rfl
  unfold State.handOver
  dsimp only
  split
  · exact empty
  · exact (evaluatePause (s := s.modStation i Station.handOver) false).emptied empty

theorem endRecover : State.KeepsMoneyAt i s (s.endRecover i) := modCloseJam.trans ((enterState _).trans reloadBoth)

theorem enterRecover : State.KeepsMoneyAt i s (s.enterRecover i) := by
  unfold State.enterRecover
  dsimp only
  split
  · exact (enterState _).trans ((modRest rfl rfl).trans endRecover)
  · exact (enterState _).trans (modRest rfl rfl)

theorem exitTest : State.KeepsMoneyAt i s (s.exitTest i) := by
  unfold State.exitTest
  dsimp only
  split
  · exact enterRecover
  · exact refl _ _

/-- The report that follows what was done since a hand-over (R14, R18). -/
theorem reportIfEmptied (h : State.KeepsMoneyAt i (s.handOver i) t) (b : List Sheet) :
    State.KeepsMoneyAt i s (t.reportIfEmptied i b) := by
  refine handOver.trans (h.trans ?_)
  unfold State.reportIfEmptied
  split
  · exact refl _ _
  · exact emptyPathReport (h.emptied (path_handOver i s))

theorem declareJam (c : JamCause) : State.KeepsMoneyAt i s (s.declareJam i c) := by
  have new : State.KeepsMoneyAt i s (s.declareNew i c) :=
    (openJam c).trans (reportIfEmptied ((enterState _).trans exitTest) _)
  have fold : State.KeepsMoneyAt i s (s.foldJam i) :=
    reportIfEmptied ((modRest rfl rfl).trans ((enterState _).trans exitTest)) _
  have offline : State.KeepsMoneyAt i s (s.offlineJam i c) :=
    (openJam c).trans (reportIfEmptied (modCloseJam.trans (postAt _ _)) _)
  unfold State.declareJam
  split
  · exact offline
  · exact fold
  · exact fold
  · exact new
  · exact new
  · exact new

theorem startStation : State.KeepsMoneyAt i s (s.startStation i) := by
  unfold State.startStation
  dsimp only
  split
  · exact (enterState _).trans (reloadBoth.trans ((declareJam _).trans (endEvent _)))
  · exact (enterState _).trans (reloadBoth.trans (endEvent _))

end State.KeepsMoneyAt

end Sys2Proof.Machine
end

section
/-! What sheets, lines, expiries and readers keep of a station's money. A feed lets a sheet join the path, so the events
of the lines keep the money alone. -/

namespace Sys2Proof.Machine

/-- PERMIT is asserted for no AUTHORIZING session (R25). -/
theorem Session.not_authorizing_of_permit {s : State} {i : StationId} {x : Session}
    (session : (s.station i).session = some x) (permit : s.permit i = true) : x.phase ≠ .authorizing := by
  unfold State.permit at permit
  rw [session] at permit
  intro phase
  simp [phase] at permit

theorem Session.phase_of_authorizing {x : Session} (h : x.authorizing = true) : x.phase = .authorizing :=
  of_decide_eq_true (Bool.and_eq_true_iff.mp h).2

namespace State.KeepsMoneyAt

variable {i : StationId} {s t u : State}

/-! ### Sheets -/

/-- The pop of the oldest sheet with its report: the session's own sheets are paid, and another's are not COVERED
(R12, R89). -/
theorem reportPopped {e : Sheet} {r : List Sheet} (path : (s.station i).path = e :: r) (m : Meters) :
    State.KeepsMoneyAt i s ((s.modStation i fun st => { st with path := r, meters := m }).reportDelivery i e) := by
  unfold State.reportDelivery
  rw [State.station_modStation_self]
  dsimp only
  cases present : (s.station i).session with
  | none =>
      refine ⟨fun kept => ?_, fun empty => nomatch path.symm.trans empty⟩
      rw [Station.moneyKept_of_none present, path] at kept
      rw [State.station_modStation_self]
      exact (Station.moneyKept_of_none (by exact present)).mpr fun f hf => kept f (List.mem_cons_of_mem e hf)
  | some x =>
      dsimp only
      have before (kept : (s.station i).MoneyKept) : x.MoneyKept (e :: r) :=
        path ▸ (Station.moneyKept_of_some present).mp kept
      split
      · refine trans ⟨fun kept => ?_, fun empty => nomatch path.symm.trans empty⟩ (evaluatePause _)
        rw [State.station_setSession_self, State.station_modStation_self, Station.moneyKept_of_some rfl]
        exact (before kept).deliver
      · rename_i other
        refine ⟨fun kept => ?_, fun empty => nomatch path.symm.trans empty⟩
        rw [State.station_modStation_self]
        exact (Station.moneyKept_of_some (by exact present)).mpr
          ((before kept).tail ((before kept).uncovered_of_other (Bool.not_eq_true _ ▸ other)))

/-- The report leaves the rest of the path. -/
theorem path_reportDelivery (e : Sheet) (empty : (s.station i).path = []) :
    ((s.reportDelivery i e).station i).path = [] := by
  unfold State.reportDelivery
  split
  · exact empty
  · split
    · exact (evaluatePause _).emptied (by rw [State.station_setSession_self]; exact empty)
    · exact empty

theorem popSheet {e : Sheet} {r : List Sheet} (path : (s.station i).path = e :: r) :
    State.KeepsMoneyAt i s (s.popSheet i e r) := by
  have popped := reportPopped path ((s.station i).meters.deliver e)
  unfold State.popSheet
  dsimp only
  split
  · rename_i last
    refine popped.trans (emptyPathReport (path_reportDelivery e ?_))
    rw [State.station_modStation_self]
    exact last
  · split
    · exact popped.trans (declareJam _)
    · exact popped

theorem strayDelivery : State.KeepsMoneyAt i s (s.strayDelivery i) := by
  unfold State.strayDelivery
  dsimp only
  split
  · split
    · exact (modRest rfl rfl).trans endRecover
    · exact modRest rfl rfl
  · exact modRest rfl rfl

theorem deliverSheet : State.KeepsMoneyAt i s (s.deliverSheet i) := by
  unfold State.deliverSheet
  split
  · exact popSheet ‹_›
  · exact strayDelivery

end State.KeepsMoneyAt

/-! ### Feeds (R8, R87, R88) -/

section Feeds

variable {i : StationId} {s : State}

/-- A sheet that is not COVERED joins the path, and the session's money stays as it was. -/
theorem State.moneyKept_join {x y : Session} {n : Nat} {k : Kind} {c : Coverage} {z : Option Nat}
    (present : (s.station i).session = some x) (same : x.SameMoney y)
    (uncovered : Sheet.isCovered ⟨n, k, s.now, c, z⟩ = false) (kept : (s.station i).MoneyKept) :
    (((s.joinPath i n k c z).setSession i (some y)).station i).MoneyKept := by
  rw [State.station_setSession_self, State.joinPath, State.station_modStation_self, Station.moneyKept_of_some rfl]
  exact same.moneyKept (((Station.moneyKept_of_some present).mp kept).join uncovered)

theorem State.moneyKept_coverSheet (n : Nat) (k : Kind) (kept : (s.station i).MoneyKept) :
    ((s.coverSheet i n k).station i).MoneyKept := by
  unfold State.coverSheet
  cases present : (s.station i).session with
  | none =>
      dsimp only
      rw [State.joinPath, State.station_modStation_self]
      refine (Station.moneyKept_of_none (by exact present)).mpr fun e he => ?_
      rcases List.mem_append.mp he with he | he
      · exact (Station.moneyKept_of_none present).mp kept e he
      · rw [List.mem_singleton.mp he]
        rfl
  | some x =>
      dsimp only
      split
      · rename_i permit
        split
        · rename_i fits
          refine (State.KeepsMoneyAt.evaluatePause _).money ?_
          rw [State.station_setSession_self, Station.moneyKept_of_some rfl]
          have path (c : Coverage) (z : Option Nat) : ((s.joinPath i n k c z).station i).path =
              (s.station i).path ++ [⟨n, k, s.now, c, z⟩] := by rw [State.joinPath, State.station_modStation_self]
          dsimp only
          rw [path]
          refine ((Station.moneyKept_of_some present).mp kept).cover fits rfl rfl ?_
            (Session.not_authorizing_of_permit present permit)
          obtain ⟨serial, pending, charged, hold, phase⟩ := Session.sameMoney_retier
            { x with
              fed := satAdd Config.top32 x.fed 1
              clamped := x.clamped || x.plan.clampsAt x.rate x.tier k
              pending := x.pending + x.plan.priceAt x.rate x.tier k
              lastKind := some k }
            ((s.station i).path ++ [⟨n, k, s.now, .covered (x.plan.priceAt x.rate x.tier k), some x.serial⟩])
          exact ⟨serial, pending, charged, hold, phase⟩
        · exact State.moneyKept_join present ⟨rfl, rfl, rfl, Nat.le_refl _, id⟩ rfl kept
      · exact State.moneyKept_join present ⟨rfl, rfl, rfl, Nat.le_refl _, id⟩ rfl kept

theorem State.moneyKept_feedSheet (kept : (s.station i).MoneyKept) : ((s.feedSheet i).station i).MoneyKept := by
  have covered := State.moneyKept_coverSheet (i := i)
    (s := s.modStation i fun st => { st with lastSheet := wrapInc Config.wrap16 (s.station i).lastSheet })
    (wrapInc Config.wrap16 (s.station i).lastSheet) (s.station i).lines.kind
    ((State.KeepsMoneyAt.modRest rfl rfl).money kept)
  unfold State.feedSheet
  dsimp only
  split
  · exact covered
  · exact (State.KeepsMoneyAt.declareJam _).money covered

end Feeds

namespace State.KeepsMoneyAt

variable {i : StationId} {s t u : State}

/-! ### Line events and expiries -/

theorem readyFell : State.KeepsMoneyAt i s (s.readyFell i) := by
  unfold State.readyFell
  dsimp only
  split
  · exact refl _ _
  · exact refl _ _
  · exact refl _ _
  · exact enterState _
  · split
    · exact enterState _
    · exact declareJam _
  · split
    · exact (modRest rfl rfl).trans (enterState _)
    · exact declareJam _

theorem readyRose : State.KeepsMoneyAt i s (s.readyRose i) := by
  unfold State.readyRose
  dsimp only
  split
  · exact (activity _).trans (enterState _)
  · exact (activity _).trans exitTest

theorem jamRose : State.KeepsMoneyAt i s (s.jamRose i) := by
  unfold State.jamRose
  split
  · exact refl _ _
  · exact declareJam _

theorem stoppedRose : State.KeepsMoneyAt i s (s.stoppedRose i) := by
  unfold State.stoppedRose
  cases present : (s.station i).session with
  | none => exact refl _ _
  | some x =>
      dsimp only
      split
      · exact modOwn present rfl rfl ⟨rfl, rfl, rfl, Nat.le_refl _, nofun⟩
      · exact refl _ _

end State.KeepsMoneyAt

section LineEvents

variable {i : StationId} {s : State}

theorem State.moneyKept_lineEvent (n : Line) (l : Bool) (kept : (s.station i).MoneyKept) :
    ((s.lineEvent i n l).station i).MoneyKept := by
  unfold State.lineEvent
  split
  · exact State.moneyKept_feedSheet ((State.KeepsMoneyAt.activity _).money kept)
  · exact ((State.KeepsMoneyAt.activity _).trans .deliverSheet).money kept
  · exact State.KeepsMoneyAt.jamRose.money kept
  · exact State.KeepsMoneyAt.exitTest.money kept
  · exact State.KeepsMoneyAt.readyRose.money kept
  · exact State.KeepsMoneyAt.readyFell.money kept
  · exact State.KeepsMoneyAt.stoppedRose.money kept
  · exact kept

theorem State.moneyKept_recognize (n : Line) (l : Bool) (kept : (s.station i).MoneyKept) :
    ((s.recognize i n l).station i).MoneyKept := by
  have moved (k : Nat) (m : Line) (v : LineState) : (((s.reach k).setLine i m v).station i).MoneyKept :=
    ((State.KeepsMoneyAt.reach k).trans (.setLine m v)).money kept
  unfold State.recognize
  dsimp only
  split
  · exact kept
  · split
    · exact moved _ _ _
    · exact (State.KeepsMoneyAt.endEvent _).money (State.moneyKept_lineEvent _ _ (moved _ _ _))

end LineEvents

namespace State.KeepsMoneyAt

variable {i : StationId} {s t u : State}

theorem transitExpires : State.KeepsMoneyAt i s (s.transitExpires i) := by
  unfold State.transitExpires
  split
  · exact refl _ _
  · split
    · exact (reach _).trans ((declareJam _).trans (endEvent _))
    · exact refl _ _

theorem idleExpires (k : TimerId) : State.KeepsMoneyAt i s (s.idleExpires i k) := by
  unfold State.idleExpires
  split
  · split
    · exact (reach _).trans ((setTimer _ _).trans quietTest)
    · exact refl _ _
  · exact refl _ _

theorem authExpires : State.KeepsMoneyAt i s (s.authExpires i) := by
  unfold State.authExpires
  split
  · rename_i present
    split
    · rename_i active
      exact (reach _).trans ((endWithoutRecord (s := s.reach _) present (Session.phase_of_authorizing active.2)).trans
        ((refuse _ _).trans reloadBoth))
    · exact refl _ _
  · exact refl _ _

theorem pauseAckExpires : State.KeepsMoneyAt i s (s.pauseAckExpires i) := by
  unfold State.pauseAckExpires
  split
  · rename_i x _ present
    split
    · exact (reach _).trans (modOwn (y := { x with phase := .held, forced := true }) present rfl rfl
        ⟨rfl, rfl, rfl, Nat.le_refl _, nofun⟩)
    · exact refl _ _
  · exact refl _ _

theorem purgeExpires : State.KeepsMoneyAt i s (s.purgeExpires i) := by
  unfold State.purgeExpires
  split
  · exact refl _ _
  · split
    · exact (reach _).trans (endRecover.trans (endEvent _))
    · exact refl _ _

/-! ### Readers -/

/-- A tested read and a write of the account leave the station (R129, R128). -/
theorem read {n : Nat} {r : SlotRead} (h : s.testedRead n = (t, r)) : State.KeepsMoneyAt i s t :=
  ofStations (State.stations_of_testedRead h)

theorem writeRead {n : Nat} {r : SlotRead} (h : s.testedRead n = (t, r)) (m : Nat) (a : Account) :
    State.KeepsMoneyAt i s (t.writeAccount m a) :=
  (read h).trans (ofStations (State.stations_writeAccount t m a))

theorem admitCampus (none : (s.station i).session = none) (n : Nat) : State.KeepsMoneyAt i s (s.admitCampus i n) := by
  unfold State.admitCampus
  split
  · exact refuse _ _
  · split <;> rename_i found
    · dsimp only
      split
      · exact (read found).trans (refuse _ _)
      · split
        · exact (read found).trans (refuse _ _)
        · refine (writeRead found _ _).trans ((createSession ?_ _ _ _ _).trans ((indicate _).trans (evaluatePause _)))
          rw [State.station, State.stations_writeAccount, State.stations_of_testedRead found]
          exact none
    · exact (read found).trans (refuse _ _)

theorem admitBank (none : (s.station i).session = none) (token : BitVec 128) :
    State.KeepsMoneyAt i s (s.admitBank i token) := by
  unfold State.admitBank
  exact trans (t := { s with authRef := nextAuthRef s.authRefs 8 s.authRef }) (ofStations rfl)
    ((createSession (s := { s with authRef := nextAuthRef s.authRefs 8 s.authRef }) none _ _ _ _).trans
      ((modRest rfl rfl).trans ((postAt _ _).trans (indicate _))))

theorem admitCard (none : (s.station i).session = none) (c : Card) : State.KeepsMoneyAt i s (s.admitCard i c) := by
  unfold State.admitCard
  split
  · exact refuse _ _
  · split
    · exact refuse _ _
    · split
      · exact admitCampus none _
      · exact admitBank none _

/-- An extend raises the hold (R65). -/
theorem modExtend (extension : Nat) : State.KeepsMoneyAt i s (s.modSession i fun x =>
    { x with hold := x.hold + extension, extendCount := satAdd 255 x.extendCount 1 }) :=
  modSession fun _ => ⟨rfl, rfl, rfl, Nat.le_add_right _ _, id⟩

theorem extendSession (n : Nat) : State.KeepsMoneyAt i s (s.extendSession i n) := by
  unfold State.extendSession
  split <;> rename_i found
  · dsimp only
    split
    · exact (read found).trans (refuse _ _)
    · split
      · exact (read found).trans (refuse _ _)
      · split
        · exact (writeRead found _ _).trans ((modExtend _).trans ((indicate _).trans (evaluatePause _)))
        · exact (writeRead found _ _).trans ((modExtend _).trans (evaluatePause _))
  · exact (read found).trans (refuse _ _)

theorem takeCard (c : Card) : State.KeepsMoneyAt i s (s.takeCard i c) := by
  unfold State.takeCard
  split
  · exact admitCard ‹_› _
  · split
    · split
      · exact extendSession _
      · exact refuse _ _
    · exact refuse _ _

theorem takeEnd : State.KeepsMoneyAt i s (s.takeEnd i) := by
  unfold State.takeEnd
  split
  · exact refuse _ _
  · rename_i present
    split
    · exact closeRequest _
    · split
      · rename_i waits
        exact (endWithoutRecord present (Session.phase_of_authorizing waits)).trans ((indicate _).trans reloadBoth)
      · exact refuse _ _

theorem readerFrame (c : ReaderCondition) {f g : State → State} (hf : ∀ s, State.KeepsMoneyAt i s (f s))
    (hg : ∀ s, State.KeepsMoneyAt i s (g s)) : State.KeepsMoneyAt i s (s.readerFrame i c f g) := by
  unfold State.readerFrame
  dsimp only
  split
  · split
    · exact (setReader _).trans ((activity _).trans ((hf _).trans (endEvent _)))
    · exact (setReader _).trans (hg _)
  · exact refl _ _

theorem discardFrame (c : ReaderCondition) : State.KeepsMoneyAt i s (s.discardFrame i c) :=
  readerFrame c (fun _ => refuse _ _) fun _ => refuse _ _

theorem cardArrives (c : Card) : State.KeepsMoneyAt i s (s.cardArrives i c) := by
  unfold State.cardArrives
  split
  · split
    · exact readerFrame _ (fun _ => takeCard c) fun _ => refuse _ _
    · exact discardFrame _
  · exact refl _ _

theorem endArrives : State.KeepsMoneyAt i s (s.endArrives i) := by
  unfold State.endArrives
  split
  · exact readerFrame _ (fun _ => takeEnd) fun _ => refuse _ _
  · exact refl _ _

theorem malformedArrives : State.KeepsMoneyAt i s (s.malformedArrives i) := by
  unfold State.malformedArrives
  split
  · exact discardFrame _
  · exact refl _ _

theorem readerGap : State.KeepsMoneyAt i s (s.readerGap i) := by
  unfold State.readerGap
  split
  · exact discardFrame _
  · exact refl _ _

end State.KeepsMoneyAt

end Sys2Proof.Machine
end

section
/-! What a request keeps of every station's money. Most requests leave every station as it is; the others are events at
one station. -/

namespace Sys2Proof.Machine

variable {s t : State}

/-- An operation that keeps every station's money. -/
structure State.KeepsMoney (s t : State) : Prop where
  money : s.MoneyKept → t.MoneyKept

namespace State.KeepsMoney

variable {u : State}

theorem refl (s : State) : s.KeepsMoney s := ⟨id⟩

theorem trans (h : s.KeepsMoney t) (k : t.KeepsMoney u) : s.KeepsMoney u := ⟨k.money ∘ h.money⟩

theorem ofStations (same : t.stations = s.stations) : s.KeepsMoney t := by
  refine ⟨fun kept i => ?_⟩
  rw [State.station, same]
  exact kept i

/-- An event at one station. -/
theorem ofStation {i : StationId} (alone : State.Local i s t)
    (money : (s.station i).MoneyKept → (t.station i).MoneyKept) : s.KeepsMoney t := by
  refine ⟨fun kept j => ?_⟩
  by_cases same : j = i
  · exact same ▸ money (kept i)
  · rw [alone.others j same]
    exact kept j

theorem ofLocal {i : StationId} (alone : State.Local i s t) (kept : State.KeepsMoneyAt i s t) : s.KeepsMoney t :=
  ofStation alone kept.money

theorem modStations {f : Station → Station} (money : ∀ st : Station, st.MoneyKept → (f st).MoneyKept) :
    s.KeepsMoney (s.modStations f) := by
  refine ⟨fun kept i => ?_⟩
  rw [State.station_modStations]
  exact money _ (kept i)

theorem foldl {α : Type} {f : State → α → State} (step : ∀ (s : State) (a : α), s.KeepsMoney (f s a)) :
    ∀ (l : List α) (s : State), s.KeepsMoney (l.foldl f s)
  | [], s => refl s
  | a :: l, s => (step s a).trans (foldl step l (f s a))

end State.KeepsMoney

/-! ### Requests that leave every station -/

theorem State.stations_testAlarm (s : State) : s.testAlarm.stations = s.stations := by
  unfold State.testAlarm
  split <;> rfl

theorem State.stations_ownSetPeriodAlarm (p : Byte) (x : Option (BitVec 32)) :
    (s.ownSetPeriodAlarm p x).1.stations = s.stations := by
  unfold State.ownSetPeriodAlarm
  split
  · rfl
  · exact State.stations_testAlarm _

theorem State.stations_ownSetDevice (mask : BitVec 16) : (s.ownSetDevice mask).1.stations = s.stations := by
  unfold State.ownSetDevice
  split <;> rfl

theorem State.stations_ownTakeNotice : (s.ownTakeNotice).1.stations = s.stations := by
  unfold State.ownTakeNotice
  split <;> rfl

theorem State.stations_ownLoadPlan (n : Byte) (f : List (BitVec 16)) : (s.ownLoadPlan n f).1.stations = s.stations := by
  unfold State.ownLoadPlan
  dsimp only
  split_ifs <;> rfl

theorem State.stations_ownAmendPlan (n : Byte) (m : BitVec 16) (v : List (BitVec 16)) :
    (s.ownAmendPlan n m v).1.stations = s.stations := by
  unfold State.ownAmendPlan
  dsimp only
  split_ifs <;> rfl

theorem State.stations_ownLoadAccount (sl : BitVec 16) (id : BitVec 40) (k st rt : Byte) (fg : List (BitVec 32)) :
    (s.ownLoadAccount sl id k st rt fg).1.stations = s.stations := by
  unfold State.ownLoadAccount
  dsimp only
  split
  · rfl
  · split
    · rfl
    · split_ifs <;> rfl

theorem State.stations_ownReadAccount (n : BitVec 16) : (s.ownReadAccount n).1.stations = s.stations := by
  unfold State.ownReadAccount
  split
  · rfl
  · exact s.stations_testedRead _

theorem State.stations_ownFindAccount (n : BitVec 40) : (s.ownFindAccount n).1.stations = s.stations := by
  unfold State.ownFindAccount
  split
  · rfl
  · split
    · rfl
    · exact s.stations_testedRead _

/-- A write to an account that a tested read found. -/
theorem State.stations_writeRead {n : Nat} {r : SlotRead} (h : s.testedRead n = (t, r)) (m : Nat) (a : Account) :
    (t.writeAccount m a).stations = s.stations :=
  (t.stations_writeAccount m a).trans (State.stations_of_testedRead h)

theorem State.stations_ownTopup (n : BitVec 16) (a : BitVec 32) : (s.ownTopup n a).1.stations = s.stations := by
  unfold State.ownTopup
  split
  · rfl
  · split <;> rename_i found
    · split
      · exact State.stations_of_testedRead found
      · dsimp only
        split
        · exact State.stations_of_testedRead found
        · exact State.stations_writeRead found _ _
    · exact State.stations_of_testedRead found

theorem State.stations_ownSetLimit (n : BitVec 16) (a : BitVec 32) : (s.ownSetLimit n a).1.stations = s.stations := by
  unfold State.ownSetLimit
  split
  · rfl
  · split <;> rename_i found
    · split
      · exact State.stations_of_testedRead found
      · split
        · exact State.stations_of_testedRead found
        · exact State.stations_writeRead found _ _
    · exact State.stations_of_testedRead found

theorem State.stations_ownSetAccountState (n : BitVec 16) (a : Byte) :
    (s.ownSetAccountState n a).1.stations = s.stations := by
  unfold State.ownSetAccountState
  split
  · rfl
  · split <;> rename_i found
    · exact State.stations_writeRead found _ _
    · exact State.stations_of_testedRead found

theorem State.stations_ownDeleteAccount (n : BitVec 16) : (s.ownDeleteAccount n).1.stations = s.stations := by
  unfold State.ownDeleteAccount
  split
  · rfl
  · split
    · rfl
    · split <;> rfl

theorem State.stations_ownReadJournal : (s.ownReadJournal).1.stations = s.stations := by
  unfold State.ownReadJournal
  split <;> rfl

theorem State.stations_ownReleaseJournal (n : BitVec 32) : (s.ownReleaseJournal n).1.stations = s.stations := by
  unfold State.ownReleaseJournal
  split
  · rfl
  · split <;> rfl

theorem State.stations_ownReadPlan (n : Byte) : (s.ownReadPlan n).1.stations = s.stations := by
  unfold State.ownReadPlan
  split <;> rfl

theorem State.stations_ownQuote (n r k t : Byte) : (s.ownQuote n r k t).1.stations = s.stations := by
  unfold State.ownQuote
  dsimp only
  split_ifs <;> rfl

theorem State.stations_ownReadProfile (n : Byte) : (s.ownReadProfile n).1.stations = s.stations := by
  unfold State.ownReadProfile
  split <;> rfl

theorem State.stations_ownReadStation (n : Byte) : (s.ownReadStation n).1.stations = s.stations := by
  unfold State.ownReadStation
  split <;> rfl

theorem State.stations_ownReadMeters (n : Byte) : (s.ownReadMeters n).1.stations = s.stations := by
  unfold State.ownReadMeters
  split <;> rfl

theorem State.stations_ownReadSession (n : Byte) : (s.ownReadSession n).1.stations = s.stations := by
  unfold State.ownReadSession
  split <;> rfl

theorem State.stations_ownReadJam (n : Byte) : (s.ownReadJam n).1.stations = s.stations := by
  unfold State.ownReadJam
  split
  · rfl
  · split <;> rfl

theorem State.stations_ownReadAuth (n : Byte) : (s.ownReadAuth n).1.stations = s.stations := by
  unfold State.ownReadAuth
  split
  · rfl
  · split
    · rfl
    · split
      · split <;> rfl
      · rfl

/-! ### Requests at a station -/

theorem State.KeepsMoneyAt.stopStation {i : StationId} : State.KeepsMoneyAt i s (s.stopStation i) := by
  unfold State.stopStation
  split
  · exact enterOffline
  · rename_i present
    split
    · rename_i waits
      exact (endWithoutRecord present (Session.phase_of_authorizing waits)).trans ((indicate _).trans enterOffline)
    · exact (modSession (f := fun x => { x with stopPending := true }) fun _ =>
        ⟨rfl, rfl, rfl, Nat.le_refl _, id⟩).trans (closeRequest _)

theorem State.KeepsMoneyAt.wakeStation {i : StationId} : State.KeepsMoneyAt i s (s.wakeStation i) :=
  (activity _).trans (endEvent _)

theorem State.KeepsMoneyAt.openCounter {i : StationId} (none : (s.station i).session = none) (hold ref : Nat) :
    State.KeepsMoneyAt i s (s.openCounter i hold ref) := by
  have created {u : State} (ended : (u.station i).session = .none) (rate : Nat) (b : StationState) :
      State.KeepsMoneyAt i u ((((u.createSession i (.counter ref) hold rate .active).indicate i
        (.accept hold)).evaluatePause i false).endEvent i b) :=
    (createSession ended _ _ _ _).trans ((indicate _).trans ((evaluatePause _).trans (endEvent _)))
  unfold State.openCounter
  dsimp only
  split
  · exact (enterState _).trans (created (by rw [State.station_enterState_self]; exact none) _ _)
  · exact created none _ _

theorem State.KeepsMoneyAt.acceptAuth {i : StationId} {x : Session} (present : (s.station i).session = some x)
    (phase : x.phase = .authorizing) (hold : Nat) : State.KeepsMoneyAt i s (s.acceptAuth i hold) := by
  refine trans (modStation (fun kept => ?_) id) (reloadBoth.trans ((indicate _).trans (evaluatePause _)))
  refine (Station.moneyKept_of_some (x := { x with hold := hold, phase := .active }) (by simp [present])).mpr ?_
  exact ((Station.moneyKept_of_some present).mp kept).accept phase hold

theorem State.KeepsMoneyAt.declineAuth {i : StationId} {x : Session} (present : (s.station i).session = some x)
    (phase : x.phase = .authorizing) : State.KeepsMoneyAt i s (s.declineAuth i) :=
  (endWithoutRecord present phase).trans ((refuse _ _).trans reloadBoth)

theorem State.KeepsMoney.ownClearAll : s.KeepsMoney (s.ownClearAll).1 := by
  unfold State.ownClearAll
  split
  · exact trans (t := { s with slots := [], lastCorrected := none, lastFault := none }) (ofStations rfl)
      (modStations fun _ => Station.moneyKept_congr rfl rfl)
  · exact refl s

theorem State.KeepsMoney.ownSetProfile (n : Byte) (p : ProfileFields) :
    s.KeepsMoney (s.ownSetProfile n p).1 := by
  unfold State.ownSetProfile
  split
  · exact refl s
  · dsimp only
    split
    · exact refl s
    · split
      · exact refl s
      · split
        · exact ofLocal (.trans (.modStation _) (.declareJam _)) (.trans (.modRest rfl rfl) (.declareJam _))
        · dsimp only
          exact ofLocal (.modStation _) (.modRest rfl rfl)

theorem State.KeepsMoney.ownStartStation (n : Byte) : s.KeepsMoney (s.ownStartStation n).1 := by
  unfold State.ownStartStation
  split
  · exact refl s
  · split
    · exact refl s
    · exact ofLocal .startStation .startStation

theorem State.local_stopStation (i : StationId) : State.Local i s (s.stopStation i) := by
  unfold State.stopStation
  split
  · exact .enterOffline
  · split
    · exact .trans .endWithoutRecord (.trans (.indicate _) .enterOffline)
    · exact .trans (.modSession _) (.closeRequest _)

theorem State.KeepsMoney.ownStopStation (n : Byte) : s.KeepsMoney (s.ownStopStation n).1 := by
  unfold State.ownStopStation
  split
  · exact refl s
  · split
    · exact refl s
    · exact ofLocal (s.local_stopStation _) .stopStation

theorem State.KeepsMoney.ownWakeStation (n : Byte) : s.KeepsMoney (s.ownWakeStation n).1 := by
  unfold State.ownWakeStation
  split
  · exact refl s
  · split
    · exact refl s
    · exact ofLocal (.trans (.activity _) (.endEvent _)) .wakeStation

theorem State.local_openCounter (i : StationId) (hold ref : Nat) : State.Local i s (s.openCounter i hold ref) := by
  unfold State.openCounter
  dsimp only
  split
  · exact .trans (.enterState _) (.trans (.createSession _ _ _ _) (.trans (.indicate _)
      (.trans (.evaluatePause _) (.endEvent _))))
  · exact .trans (.createSession _ _ _ _) (.trans (.indicate _) (.trans (.evaluatePause _) (.endEvent _)))

theorem State.KeepsMoney.ownOpenSession (n : Byte) (a h : BitVec 32) :
    s.KeepsMoney (s.ownOpenSession n a h).1 := by
  unfold State.ownOpenSession
  split
  · exact refl s
  · rename_i i _
    dsimp only
    split
    · exact refl s
    · rename_i free
      have none : (s.station i).session = none := by
        rw [not_or, Bool.not_eq_true, Option.isSome_eq_false_iff, Option.isNone_iff_eq_none] at free
        exact free.2
      split
      · exact refl s
      · split
        · exact refl s
        · exact ofLocal (s.local_openCounter _ _ _) (.openCounter none _ _)

theorem State.KeepsMoney.ownEndSession (n : Byte) : s.KeepsMoney (s.ownEndSession n).1 := by
  unfold State.ownEndSession
  split
  · exact refl s
  · split
    · exact refl s
    · split
      · exact ofLocal (.closeRequest _) (.closeRequest _)
      · split <;> exact refl s

theorem State.KeepsMoney.ownAuthResult (n : Byte) (r : BitVec 16) (a : BitVec 32) :
    s.KeepsMoney (s.ownAuthResult n r a).1 := by
  unfold State.ownAuthResult
  split
  · exact refl s
  · split
    · exact refl s
    · dsimp only
      split
      · exact refl s
      · rename_i present
        split
        · rename_i awaits
          have phase := Session.phase_of_authorizing (Bool.and_eq_true_iff.mp awaits).1
          split
          · exact ofLocal (.trans .endWithoutRecord (.trans (.refuse _ _) .reloadBoth))
              (.declineAuth present phase)
          · exact ofLocal
              (.trans (.modStation _) (.trans .reloadBoth (.trans (.indicate _) (.evaluatePause _))))
              (.acceptAuth present phase _)
        · exact refl s

/-- What an owning block keeps while it answers a request (R164, step 5). -/
theorem State.KeepsMoney.serve (r : Instr) : s.KeepsMoney (s.serve r).1 := by
  have still {u : State} (same : u.stations = s.stations) : s.KeepsMoney u := ofStations same
  cases r with
  | getStatus => exact still rfl
  | turnPeriod => exact still rfl
  | setTime x => exact still (State.stations_testAlarm _)
  | setPeriodAlarm p x => exact still (State.stations_ownSetPeriodAlarm p x)
  | setDevice mask => exact still (State.stations_ownSetDevice mask)
  | clearAll => exact ownClearAll
  | takeNotice => exact still State.stations_ownTakeNotice
  | setProfile n p => exact ownSetProfile n p
  | readProfile n => exact still (State.stations_ownReadProfile n)
  | startStation n => exact ownStartStation n
  | stopStation n => exact ownStopStation n
  | wakeStation n => exact ownWakeStation n
  | readStation n => exact still (State.stations_ownReadStation n)
  | readJam n => exact still (State.stations_ownReadJam n)
  | readMeters n => exact still (State.stations_ownReadMeters n)
  | openSession n a h => exact ownOpenSession n a h
  | endSession n => exact ownEndSession n
  | readSession n => exact still (State.stations_ownReadSession n)
  | readAuth n => exact still (State.stations_ownReadAuth n)
  | authResult n r a => exact ownAuthResult n r a
  | loadPlan n f => exact still (State.stations_ownLoadPlan n f)
  | amendPlan n m v => exact still (State.stations_ownAmendPlan n m v)
  | readPlan n => exact still (State.stations_ownReadPlan n)
  | quote n r k t => exact still (State.stations_ownQuote n r k t)
  | loadAccount sl id k st rt fg => exact still (State.stations_ownLoadAccount sl id k st rt fg)
  | readAccount n => exact still (State.stations_ownReadAccount n)
  | findAccount n => exact still (State.stations_ownFindAccount n)
  | topup n a => exact still (State.stations_ownTopup n a)
  | setLimit n a => exact still (State.stations_ownSetLimit n a)
  | setAccountState n a => exact still (State.stations_ownSetAccountState n a)
  | deleteAccount n => exact still (State.stations_ownDeleteAccount n)
  | readJournal => exact still State.stations_ownReadJournal
  | releaseJournal n => exact still (State.stations_ownReleaseJournal n)
  | _ => exact refl s

theorem State.KeepsMoney.perform (r : Instr) : s.KeepsMoney (s.perform r).1 := by
  unfold State.perform
  split
  · exact refl s
  · exact serve r

end Sys2Proof.Machine
end

section
/-! The restart (R180 to R186) and the two invariants of O59: every station's money, and what the pieces made so far
have left of the paths and the sessions. -/

namespace Sys2Proof.Machine

/-- The two invariants that carry one another: a restart settles only sessions whose path it has written off. -/
structure State.Accounted (s : State) : Prop where
  money : s.MoneyKept
  restart : s.RestartKept

/-- What keeps the money and leaves no restart in progress. -/
theorem State.Accounted.ofNone {s t : State} (money : s.MoneyKept) (kept : s.KeepsMoney t) (none : t.restart = none) :
    t.Accounted :=
  ⟨kept.money money, fun r hr => (Option.not_mem_none r (none ▸ hr)).elim⟩

/-! ### The order of the pieces (R180) -/

theorem restartPieces_nodup : restartPieces.Nodup := by decide

theorem restartPieces_writeOff (i : StationId) : restartPieces[9 + i.val]? = some (.writeOff i) := by
  revert i
  decide

theorem restartPieces_settle (i : StationId) : restartPieces[17 + i.val]? = some (.settle i) := by
  revert i
  decide

/-- A station's session is settled as the piece of its own index. -/
theorem index_of_settle {n : Nat} {i : StationId} (h : restartPieces[n]? = some (.settle i)) : n = 17 + i.val :=
  (List.getElem?_inj (List.getElem?_eq_some_iff.mp h).1 restartPieces_nodup).mp (h.trans (restartPieces_settle i).symm)

/-! ### One piece -/

/-- What piece `p` makes of `s`: the money stands, an empty path and an ended session stay so, and the piece that writes
a path off or settles a session has done so. -/
structure State.PieceMade (p : Piece) (s t : State) : Prop where
  money : t.MoneyKept
  emptied : ∀ i, (s.station i).path = [] → (t.station i).path = []
  ended : ∀ i, (s.station i).session = none → (t.station i).session = none
  writtenOff : ∀ i, p = .writeOff i → (t.station i).path = []
  settled : ∀ i, p = .settle i → (t.station i).session = none

namespace State.PieceMade

variable {s t : State} {p : Piece}

/-- A piece that touches no station. -/
theorem ofStations (kept : s.MoneyKept) (same : t.stations = s.stations) (writeOff : ∀ i, p ≠ .writeOff i)
    (settle : ∀ i, p ≠ .settle i) : State.PieceMade p s t := by
  have station (i : StationId) : t.station i = s.station i := by rw [State.station, same, State.station]
  refine ⟨(State.KeepsMoney.ofStations same).money kept, fun i => ?_, fun i => ?_, fun i h => absurd h (writeOff i),
    fun i h => absurd h (settle i)⟩ <;> rw [station] <;> exact id

/-- A piece that is work at station `i`. -/
theorem ofLocal {i : StationId} (kept : s.MoneyKept) (alone : State.Local i s t) (here : State.KeepsMoneyAt i s t)
    (ended : (s.station i).session = none → (t.station i).session = none)
    (writtenOff : ∀ j, p = .writeOff j → j = i ∧ (t.station i).path = [])
    (settled : ∀ j, p = .settle j → j = i ∧ (t.station i).session = none) : State.PieceMade p s t := by
  refine ⟨(State.KeepsMoney.ofLocal alone here).money kept, fun j => ?_, fun j => ?_, fun j h => ?_, fun j h => ?_⟩
  · by_cases same : j = i
    · exact same ▸ here.emptied
    · rw [alone.others j same]
      exact id
  · by_cases same : j = i
    · exact same ▸ ended
    · rw [alone.others j same]
      exact id
  · obtain ⟨rfl, empty⟩ := writtenOff j h
    exact empty
  · obtain ⟨rfl, none⟩ := settled j h
    exact none

/-- The restart's record after the piece says no more than was done. -/
theorem accounted {r q : Restart} (made : State.PieceMade p s t) (kept : s.RestartKept) (present : s.restart = some r)
    (piece : restartPieces[r.next]? = some p) (next : q.next = r.next + 1) :
    State.Accounted { t with restart := some q } := by
  refine ⟨made.money, fun q' hq i => ?_⟩
  obtain rfl : q = q' := Option.some.inj hq
  obtain ⟨path, session⟩ := kept r present i
  rw [next]
  refine ⟨fun after => ?_, fun after => ?_⟩
  · rcases Nat.lt_succ_iff_lt_or_eq.mp after with before | now
    · exact made.emptied i (path before)
    · rw [← now, restartPieces_writeOff] at piece
      exact made.writtenOff i (Option.some.inj piece).symm
  · rcases Nat.lt_succ_iff_lt_or_eq.mp after with before | now
    · exact made.ended i (session before)
    · rw [← now, restartPieces_settle] at piece
      exact made.settled i (Option.some.inj piece).symm

/-! ### The pieces -/

theorem endAuthorization (kept : s.MoneyKept) (i : StationId) :
    State.PieceMade (.endAuthorization i) s (s.restartAuthorization i) := by
  unfold State.restartAuthorization
  split
  · rename_i present
    split
    · exact ofLocal kept .endWithoutRecord (.endWithoutRecord present ‹_›)
        (fun _ => by rw [State.endWithoutRecord, State.station_modStation_self]) nofun nofun
    · exact ofStations kept rfl nofun nofun
  · exact ofStations kept rfl nofun nofun

theorem writeOff (kept : s.MoneyKept) (i : StationId) : State.PieceMade (.writeOff i) s (s.writeOff i) := by
  have written (t : State) (alone : State.Local i s t) (money : State.KeepsMoneyAt i s t)
      (session : (t.station i).session = (s.station i).session) : State.PieceMade (.writeOff i) s
        (if (t.station i).path = [] then t
          else ((t.openJam i .restart).modStation i Station.handOver).modStation i Station.closeJam) := by
    split
    · rename_i empty
      exact ofLocal kept alone money (fun none => session.trans none)
        (fun j h => by cases h; exact ⟨rfl, empty⟩) nofun
    · have station : ((((t.openJam i .restart).modStation i Station.handOver).modStation i Station.closeJam).station i) =
          ((t.openJam i .restart).station i).handOver.closeJam := by
        rw [State.station_modStation_self, State.station_modStation_self]
      refine ofLocal kept (alone.trans (.trans (.openJam _) (.trans (.modStation _) (.modStation _))))
        (money.trans (.trans (.openJam _) (.trans .modHandOver .modCloseJam))) (fun none => ?_) (fun j h => ?_) nofun
      · rw [station, (Station.frame_closeJam _).2, State.openJam, State.station_modStation_self]
        simp [Station.handOver, session.trans none]
      · cases h
        rw [station, (Station.frame_closeJam _).1]
        exact ⟨rfl, rfl⟩
  unfold State.writeOff
  dsimp only
  by_cases jam : (s.station i).state = .jammed ∨ (s.station i).state = .recover
  · rw [if_pos jam]
    refine written _ .enterOffline .enterOffline ?_
    rw [State.enterOffline, State.station_enterState_self, State.station_modStation_self]
    exact (Station.frame_leaveService _).2
  · rw [if_neg jam]
    exact written s (.refl _ _) (.refl _ _) rfl

/-- A restart settles a session whose path has been written off (R183, R184). -/
theorem settle (kept : s.MoneyKept) (r : Restart) (i : StationId) (empty : (s.station i).path = []) :
    State.PieceMade (.settle i) s (s.restartSettle r i).1 := by
  unfold State.restartSettle
  split
  · rename_i none
    exact ofLocal kept (.refl _ _) (.refl _ _) id nofun fun j h => by cases h; exact ⟨rfl, none⟩
  · have none (x : Session) (c : CloseReason) : ((s.settle i x c).station i).session = none := by
      unfold State.settle
      rw [State.station_setSession_self]
    exact ofLocal kept (.settle _ _) (.settle empty _ _) (fun _ => none _ _) nofun fun j h => by
      cases h
      exact ⟨rfl, none _ _⟩

end State.PieceMade

/-! ### The restart as a whole -/

section Restarts

variable {s t : State}

theorem State.stations_journalLowFrom (s before : State) : (s.journalLowFrom before).stations = s.stations := by
  unfold State.journalLowFrom
  split <;> rfl

theorem State.stations_writeRestart (c : RestartCause) (n : Nat) : (s.writeRestart c n).stations = s.stations := by
  unfold State.writeRestart
  split
  · exact State.stations_journalLowFrom _ _
  · rfl

theorem State.stations_restartNotices (r : Restart) : (s.restartNotices r).stations = s.stations := by
  have posted (b : Bool) (k : NoticeKind) (t : State) : (if b then t.post k 0 else t).stations = t.stations := by
    split <;> rfl
  have settled : ∀ (l : List StationId) (t : State),
      (l.foldl (fun acc i => acc.postAt .sessionClosed i) t).stations = t.stations := by
    intro l
    induction l with
    | nil => exact fun _ => rfl
    | cons i l ih => exact fun t => ih (t.postAt .sessionClosed i)
  exact (posted _ _ _).trans ((posted _ _ _).trans (settled _ _))

/-- SHUTDOWN suspends the session and stops the timers (R177). -/
theorem Station.moneyKept_shutDown {st : Station} (kept : st.MoneyKept) : st.shutDown.MoneyKept := by
  cases present : st.session with
  | none =>
      exact (Station.moneyKept_of_none (by simp [Station.shutDown, present])).mpr
        ((Station.moneyKept_of_none present).mp kept)
  | some x =>
      refine (Station.moneyKept_of_some (x := { x with suspended := true })
        (by simp [Station.shutDown, present])).mpr ?_
      exact Session.SameMoney.moneyKept (x := x) ⟨rfl, rfl, rfl, Nat.le_refl _, id⟩
        ((Station.moneyKept_of_some present).mp kept)

theorem State.KeepsMoney.enterShutdown : s.KeepsMoney s.enterShutdown :=
  trans (t := { s with device := .shutdown, scrubDue := none }) (ofStations rfl)
    ((modStations fun _ => Station.moneyKept_shutDown).trans (ofStations rfl))

theorem State.restart_enterShutdown (s : State) : s.enterShutdown.restart = s.restart := by
  unfold State.enterShutdown
  rw [State.modStations_eq]
  rfl

theorem State.KeepsMoney.restartOffline (i : StationId) : s.KeepsMoney (s.restartOffline i) :=
  ofLocal (.trans (.modStation _) (.postAt _ _)) (.trans
    (t := s.modStation i fun st => { st.leaveService with state := .offline })
    (.modRest (Station.frame_leaveService _).1 (Station.frame_leaveService _).2) (.postAt _ _))

theorem State.KeepsMoney.restartStations : s.KeepsMoney s.restartStations := by
  have started (t : State) (i : StationId) :
      t.KeepsMoney (if (t.station i).profile.autoStart then t.startStation i else t) := by
    split
    · exact ofLocal .startStation .startStation
    · exact refl t
  have served (t : State) : t.KeepsMoney { t with
      device := .running, restart := none, scrubDue := some (t.now + Config.scrubPeriod) } := ofStations rfl
  have watching (t : State) (now : Nat) : t.KeepsMoney (t.modStations fun st =>
      { st with lines := st.lines.map (LineState.restart now) }) :=
    modStations fun _ => Station.moneyKept_congr rfl rfl
  have low (t : State) : t.KeepsMoney (if t.freeRecords ≤ Config.journalLow then t.post .journalLow 0 else t) := by
    split <;> exact ofStations rfl
  have shut (t : State) : t.KeepsMoney (if t.pfail then t.enterShutdown else t) := by
    split
    · exact enterShutdown
    · exact refl t
  have stopped : s.KeepsMoney (allStations.foldl State.restartOffline s) :=
    foldl (f := State.restartOffline) (fun _ i => restartOffline i) allStations s
  unfold State.restartStations
  extract_lets off begun running watched tested posted
  have ready : off.KeepsMoney begun := foldl started allStations off
  exact stopped.trans (ready.trans ((served begun).trans ((watching running running.now).trans
    ((ofStations watched.stations_testAlarm).trans ((low tested).trans (shut posted))))))

/-- With its last piece the restart is over. -/
theorem State.restart_restartStations (s : State) : s.restartStations.restart = none := by
  have low (t : State) :
      (if t.freeRecords ≤ Config.journalLow then t.post .journalLow 0 else t).restart = t.restart := by
    split <;> rfl
  have shut (t : State) : (if t.pfail then t.enterShutdown else t).restart = t.restart := by
    split
    · exact t.restart_enterShutdown
    · rfl
  unfold State.restartStations
  extract_lets off begun running watched tested posted
  clear_value begun
  have watching : watched.restart = none := by rw [show watched = _ from State.modStations_eq running _]
  clear_value watched
  have testing : tested.restart = none := (State.Served.testAlarm (s := watched)).restart.trans watching
  clear_value tested
  rw [shut, ← testing]
  exact low tested

/-- A part that has lost the retained domain holds no sheet and no session (R181). -/
theorem State.pieceMade_loseRetained (s : State) : State.PieceMade .validity s s.loseRetained := by
  have station (i : StationId) : s.loseRetained.station i = (s.station i).loseRetained :=
    State.station_modStations _ _ _
  refine ⟨fun i => ?_, fun i _ => ?_, fun i _ => ?_, nofun, nofun⟩ <;> rw [station]
  · exact Station.moneyKept_of_empty rfl rfl
  · rfl
  · rfl

theorem State.accounted_makePiece {r : Restart} {p : Piece} (kept : s.Accounted) (present : s.restart = some r)
    (piece : restartPieces[r.next]? = some p) : (s.makePiece { r with next := r.next + 1 } p).Accounted := by
  obtain ⟨money, restart⟩ := kept
  cases p with
  | validity =>
      show State.Accounted (if s.marker then _ else _)
      split
      · exact (State.PieceMade.ofStations (p := .validity) (t := s) money rfl nofun nofun).accounted restart present
          piece rfl
      · exact s.pieceMade_loseRetained.accounted restart present piece rfl
  | endAuthorization i => exact (State.PieceMade.endAuthorization money i).accounted restart present piece rfl
  | writeOff i => exact (State.PieceMade.writeOff money i).accounted restart present piece rfl
  | settle i =>
      have empty : (s.station i).path = [] := (restart r present i).1 (by rw [index_of_settle piece]; omega)
      refine (State.PieceMade.settle money _ i empty).accounted restart present piece ?_
      unfold State.restartSettle
      split <;> rfl
  | record =>
      exact (State.PieceMade.ofStations (p := .record) money (State.stations_writeRestart _ _) nofun nofun).accounted
        restart present piece rfl
  | notices =>
      exact (State.PieceMade.ofStations (p := .notices) money (State.stations_restartNotices _) nofun nofun).accounted
        restart present piece rfl
  | stations => exact .ofNone money .restartStations s.restart_restartStations

theorem State.accounted_restartStep (kept : s.Accounted) : s.restartStep.Accounted := by
  unfold State.restartStep
  split
  · exact kept
  · rename_i present
    split
    · exact .ofNone kept.money (.ofStations rfl) rfl
    · exact State.accounted_makePiece kept present ‹_›

theorem State.accounted_restartSteps : ∀ (n : Nat) (s : State), s.Accounted → (State.restartSteps n s).Accounted
  | 0, _, kept => kept
  | n + 1, s, kept => State.accounted_restartSteps n s.restartStep (State.accounted_restartStep kept)

theorem State.KeepsMoney.beginRestart (c : RestartCause) : s.KeepsMoney (s.beginRestart c) := by
  unfold State.beginRestart
  refine trans ?_ (modStations fun _ => Station.moneyKept_congr rfl rfl)
  exact ofStations rfl

/-- A restart that begins has made no piece yet. -/
theorem State.accounted_beginRestart (kept : s.MoneyKept) (c : RestartCause) : (s.beginRestart c).Accounted := by
  refine ⟨(State.KeepsMoney.beginRestart c).money kept, fun r hr i => ?_⟩
  rw [State.beginRestart, State.modStations_eq] at hr
  obtain rfl := Option.some.inj hr
  exact ⟨fun h => absurd h (Nat.not_lt_zero _), fun h => absurd h (Nat.not_lt_zero _)⟩

theorem State.accounted_doRestart (kept : s.MoneyKept) (c : RestartCause) (n : Option Nat) :
    (s.doRestart c n).Accounted := State.accounted_restartSteps _ _ (State.accounted_beginRestart kept c)

end Restarts

end Sys2Proof.Machine
end

section
/-! What every command and every step keep of the money and of a restart in progress, and O59. A part in the midst of a
restart takes no request, no reader frame and no event of its own (R168, R179, R180), so such a command touches no path
and no session that a piece has ended. -/

namespace Sys2Proof.Machine

/-! ### A part that does not work (R180; log 6) -/

section Dead

variable {s : State} {i : StationId}

theorem State.restart_of_alive (alive : s.alive = true) : s.restart = none := by
  simp only [State.alive, Bool.and_eq_true, Option.isNone_iff_eq_none] at alive
  exact alive.2

theorem State.not_running_of_dead (dead : s.alive = false) : s.running = false := by
  rw [State.running, dead, Bool.false_and]

theorem State.recognize_of_dead (dead : s.alive = false) (n : Line) (l : Bool) : s.recognize i n l = s :=
  if_pos (.inl (State.not_running_of_dead dead))

theorem State.transitExpires_of_dead (dead : s.alive = false) : s.transitExpires i = s := by
  unfold State.transitExpires
  simp only [State.not_running_of_dead dead, Bool.false_eq_true, if_false]
  split <;> rfl

theorem State.idleExpires_of_dead (dead : s.alive = false) (k : TimerId) : s.idleExpires i k = s := by
  unfold State.idleExpires
  simp only [State.not_running_of_dead dead, Bool.false_eq_true, if_false]
  split <;> rfl

theorem State.authExpires_of_dead (dead : s.alive = false) : s.authExpires i = s := by
  unfold State.authExpires
  simp only [State.not_running_of_dead dead, Bool.false_eq_true, false_and, if_false]
  split <;> rfl

theorem State.pauseAckExpires_of_dead (dead : s.alive = false) : s.pauseAckExpires i = s := by
  unfold State.pauseAckExpires
  simp only [State.not_running_of_dead dead, Bool.false_eq_true, false_and, if_false]
  split <;> rfl

theorem State.purgeExpires_of_dead (dead : s.alive = false) : s.purgeExpires i = s := by
  unfold State.purgeExpires
  simp only [State.not_running_of_dead dead, Bool.false_eq_true, false_and, if_false]
  split <;> rfl

theorem State.readerFrame_of_dead (dead : s.alive = false) (c : ReaderCondition) (take shut : State → State) :
    s.readerFrame i c take shut = s := by
  unfold State.readerFrame
  rw [if_neg (by simp [dead])]

theorem State.discardFrame_of_dead (dead : s.alive = false) (c : ReaderCondition) : s.discardFrame i c = s :=
  State.readerFrame_of_dead dead _ _ _

theorem State.cardArrives_of_dead (dead : s.alive = false) (c : Card) : s.cardArrives i c = s := by
  unfold State.cardArrives
  rw [State.readerFrame_of_dead dead, State.discardFrame_of_dead dead, ite_self, ite_self]

theorem State.endArrives_of_dead (dead : s.alive = false) : s.endArrives i = s := by
  unfold State.endArrives
  rw [State.readerFrame_of_dead dead, ite_self]

theorem State.malformedArrives_of_dead (dead : s.alive = false) : s.malformedArrives i = s := by
  unfold State.malformedArrives
  rw [State.discardFrame_of_dead dead, ite_self]

theorem State.readerGap_of_dead (dead : s.alive = false) : s.readerGap i = s := by
  unfold State.readerGap
  rw [State.discardFrame_of_dead dead, ite_self]

end Dead

/-! ### Commands -/

/-- A command that keeps both invariants. -/
structure State.KeepsAccounted (s t : State) : Prop where
  kept : s.Accounted → t.Accounted

namespace State.KeepsAccounted

variable {s t u : State} {i : StationId}

theorem refl (s : State) : s.KeepsAccounted s := ⟨id⟩

theorem trans (h : s.KeepsAccounted t) (k : t.KeepsAccounted u) : s.KeepsAccounted u := ⟨k.kept ∘ h.kept⟩

/-- A command that leaves every path, every session and the restart. -/
theorem ofFrame (path : ∀ i, (t.station i).path = (s.station i).path)
    (session : ∀ i, (t.station i).session = (s.station i).session) (restart : t.restart = s.restart) :
    s.KeepsAccounted t := by
  refine ⟨fun ⟨money, made⟩ => ⟨fun i => Station.moneyKept_congr (path i) (session i) (money i), ?_⟩⟩
  unfold State.RestartKept
  simp only [path, session, restart]
  exact made

theorem ofStations (same : t.stations = s.stations) (restart : t.restart = s.restart) : s.KeepsAccounted t := by
  refine ofFrame (fun i => ?_) (fun i => ?_) restart <;> rw [State.station, same, State.station]

/-- A command of a part that works: no restart is in progress before it or after it. -/
theorem ofAlive (alive : s.alive = true) (money : s.KeepsMoney t) (restart : t.restart = s.restart) :
    s.KeepsAccounted t :=
  ⟨fun kept => .ofNone kept.money money (restart.trans (State.restart_of_alive alive))⟩

/-- An event at one station, which changes nothing of a part that does not work. -/
theorem ofEvent (alone : State.Local i s t) (money : (s.station i).MoneyKept → (t.station i).MoneyKept)
    (dead : s.alive = false → t = s) : s.KeepsAccounted t := by
  cases alive : s.alive with
  | true => exact ofAlive alive (.ofStation alone money) alone.restart
  | false =>
      rw [dead alive]
      exact refl s

/-- An event at one station that leaves its path and its session. -/
theorem ofRest (alone : State.Local i s t) (path : (t.station i).path = (s.station i).path)
    (session : (t.station i).session = (s.station i).session) : s.KeepsAccounted t := by
  refine ofFrame (fun j => ?_) (fun j => ?_) alone.restart
  · by_cases same : j = i
    · exact same ▸ path
    · rw [alone.others j same]
  · by_cases same : j = i
    · exact same ▸ session
    · rw [alone.others j same]

theorem doRestart (c : RestartCause) (n : Option Nat) : s.KeepsAccounted (s.doRestart c n) :=
  ⟨fun kept => State.accounted_doRestart kept.money c n⟩

/-! ### The host line -/

theorem answer (alive : s.alive = true) (kind : Byte) (r : Instr) : s.KeepsAccounted (s.answer kind r) :=
  ofAlive alive ((State.KeepsMoney.perform r).trans (.ofStations rfl)) (s.perform_frame r).restart

theorem sendReply (kind : Byte) (a : Answer) (restarts : Bool) : s.KeepsAccounted (s.sendReply kind a restarts) :=
  ofStations rfl rfl

theorem takeFrame (alive : s.alive = true) (f : HostFrame) : s.KeepsAccounted (s.takeFrame f) := by
  unfold State.takeFrame
  split
  · exact sendReply _ _ _
  · split
    · exact sendReply _ _ _
    · exact sendReply _ _ _
    · exact answer alive _ _

theorem takeRequest : s.KeepsAccounted s.takeRequest := by
  unfold State.takeRequest
  split
  · rename_i free
    split
    · exact refl s
    · rename_i f rest _
      exact trans (t := { s with receiveQueue := rest }) (ofStations rfl rfl)
        (takeFrame (s := { s with receiveQueue := rest }) free.1 f)
  · exact refl s

theorem enqueue (f : HostFrame) : s.KeepsAccounted (s.enqueue f) := by
  unfold State.enqueue
  split <;> exact ofStations rfl rfl

theorem frameCompletes (kind : Byte) (body : List Byte) (check : BitVec 16) :
    s.KeepsAccounted (s.frameCompletes kind body check) := by
  have hunting : s.KeepsAccounted { s with hostCondition := .hunting } := ofStations rfl rfl
  unfold State.frameCompletes
  split
  · dsimp only
    split
    · exact hunting.trans (enqueue _)
    · exact hunting
  · exact refl s

theorem hostRequest (kind : Byte) (r : Instr) : s.KeepsAccounted (s.hostRequest kind r) := by
  have hunting : s.KeepsAccounted { s with hostCondition := .hunting } := ofStations rfl rfl
  unfold State.hostRequest
  split
  · rename_i alive
    dsimp only
    split
    · split
      · exact hunting.trans (answer (s := { s with hostCondition := .hunting }) alive _ _)
      · exact hunting.trans (sendReply _ _ _)
    · exact hunting.trans (enqueue _)
  · exact refl s

theorem gapPasses : s.KeepsAccounted s.gapPasses := by
  unfold State.gapPasses
  split
  · exact ofStations rfl rfl
  · exact refl s

theorem startByte : s.KeepsAccounted s.startByte := by
  unfold State.startByte
  split
  · exact ofStations rfl rfl
  · exact refl s

theorem badLength (length : Byte) : s.KeepsAccounted (s.badLength length) := by
  have hunting : s.KeepsAccounted { s with hostCondition := .hunting } := ofStations rfl rfl
  unfold State.badLength
  split
  · dsimp only
    split
    · exact hunting.trans startByte
    · exact hunting
  · exact refl s

theorem replyEnds (n : Option Nat) : s.KeepsAccounted (s.replyEnds n) := by
  have ended : s.KeepsAccounted { s with reply := none } := ofStations rfl rfl
  unfold State.replyEnds
  split
  · exact refl s
  · split
    · dsimp only
      split
      · exact ended.trans (doRestart _ _)
      · exact ended
    · exact refl s

/-! ### Lines, timers and readers -/

theorem recognize (i : StationId) (n : Line) (l : Bool) : s.KeepsAccounted (s.recognize i n l) :=
  ofEvent (.recognize n l) (State.moneyKept_recognize n l) fun dead => State.recognize_of_dead dead n l

theorem rawChange (i : StationId) (n : Line) (l : Bool) : s.KeepsAccounted (s.rawChange i n l) :=
  ofRest (i := i) (.rawChange n l) (by rw [State.rawChange, State.station_setLine_self])
    (by rw [State.rawChange, State.station_setLine_self])

theorem setReader (i : StationId) (c : ReaderCondition) : s.KeepsAccounted (s.setReader i c) :=
  ofRest (i := i) (.setReader c) (by rw [State.setReader, State.station_modStation_self])
    (by rw [State.setReader, State.station_modStation_self])

theorem readerStart (i : StationId) : s.KeepsAccounted (s.readerStart i) := by
  unfold State.readerStart
  split
  · exact setReader _ _
  · exact refl s

theorem readerIdle (i : StationId) : s.KeepsAccounted (s.readerIdle i) := by
  unfold State.readerIdle
  split
  · exact setReader _ _
  · exact refl s

theorem indicatorSent (i : StationId) : s.KeepsAccounted (s.indicatorSent i) := by
  unfold State.indicatorSent
  split
  · exact ofRest (i := i) (.modStation _) (by rw [State.station_modStation_self])
      (by rw [State.station_modStation_self])
  · exact refl s

/-! ### The supply and the time base -/

theorem testAlarm : s.KeepsAccounted s.testAlarm := ofStations s.stations_testAlarm State.Served.testAlarm.restart

theorem pfailRises : s.KeepsAccounted s.pfailRises := by
  have recognized : s.KeepsAccounted { s with pfail := true } := ofStations rfl rfl
  unfold State.pfailRises
  split
  · dsimp only
    split
    · rename_i running
      exact ofAlive (Bool.and_eq_true_iff.mp running).1
        (.trans (t := { s with pfail := true }) (.ofStations rfl) .enterShutdown) (State.restart_enterShutdown _)
    · exact recognized
  · exact refl s

/-- With the volatile state a restart in progress is lost too (R178, R180). -/
theorem loseVolatile : s.KeepsAccounted s.loseVolatile := by
  refine ⟨fun kept => .ofNone kept.money ?_ (by rw [State.loseVolatile, State.modStations_eq])⟩
  unfold State.loseVolatile
  refine .trans ?_ (.modStations fun _ => Station.moneyKept_congr rfl rfl)
  exact .ofStations rfl

theorem supplyFails (v : Bool) : s.KeepsAccounted (s.supplyFails v) := by
  have absent (t : State) (marker : Bool) : t.KeepsAccounted { t with
      mainSupply := false, pfail := false, cameUp := false, marker := marker } := ofStations rfl rfl
  exact loseVolatile.trans (absent _ _)

theorem supplyReturns (n : Option Nat) : s.KeepsAccounted (s.supplyReturns n) := by
  have supplied : s.KeepsAccounted { s with
      mainSupply := true, pfail := false, cameUp := s.cameUp || !s.mainSupply } := ofStations rfl rfl
  unfold State.supplyReturns
  dsimp only
  split
  · exact supplied
  · split
    · exact supplied
    · split
      · exact supplied.trans (doRestart _ _)
      · exact supplied

theorem resetAsserts : s.KeepsAccounted s.resetAsserts := by
  have asserted (t : State) : t.KeepsAccounted { t with resetPin := true } := ofStations rfl rfl
  exact loseVolatile.trans (asserted _)

theorem resetDeasserts (n : Option Nat) : s.KeepsAccounted (s.resetDeasserts n) := by
  have released : s.KeepsAccounted { s with resetPin := false } := ofStations rfl rfl
  unfold State.resetDeasserts
  dsimp only
  split
  · exact released
  · split
    · split
      · exact released
      · exact released.trans (doRestart _ _)
    · exact released.trans (doRestart _ _)

theorem secondPasses : s.KeepsAccounted s.secondPasses := by
  have passed : s.KeepsAccounted { s with stamp := wrapInc Config.wrap32 s.stamp, divider := 0 } := ofStations rfl rfl
  unfold State.secondPasses
  split
  · dsimp only
    split
    · exact passed.trans testAlarm
    · exact passed
  · exact refl s

theorem alarmFalls : s.KeepsAccounted s.alarmFalls := by
  unfold State.alarmFalls
  split
  · exact testAlarm
  · exact refl s

theorem testedRead (n : Nat) : s.KeepsAccounted (s.testedRead n).1 :=
  ofStations (s.stations_testedRead n) (State.Served.testedRead n).restart

theorem scrub : s.KeepsAccounted s.scrub := by
  unfold State.scrub
  split
  · exact trans (t := { s.reach (s.scrubDue.getD s.now) with
      scrubDue := some ((s.reach (s.scrubDue.getD s.now)).now + Config.scrubPeriod) }) (ofStations rfl rfl)
      ((testedRead _).trans (ofStations rfl rfl))
  · exact refl s

/-! ### Every command and every step -/

/-- A command whose meaning is the part `u`. -/
theorem ofNext (k : s.KeepsAccounted u) (h : (.next u : Host.Outcome State Fault Refusal) = .next t) :
    s.KeepsAccounted t := by
  cases h
  exact k

theorem exec {c : Instr} (h : Sys2Proof.Machine.exec c s = .next t) : s.KeepsAccounted t := by
  cases code : requestCode c with
  | some kind =>
      rw [exec_request code] at h
      exact ofNext (hostRequest _ _) h
  | none =>
      cases c with
      | hostFrameComplete kind body check => exact ofNext (frameCompletes kind body check) h
      | hostFrameGapTimeout => exact ofNext gapPasses h
      | requestTaken => exact ofNext takeRequest h
      | replySent n => exact ofNext (replyEnds n) h
      | rawLevelChange i m v => exact ofNext (rawChange i m v) h
      | lineLevelRecognized i m v => exact ofNext (recognize i m v) h
      | feed i => exact ofNext (recognize i .feed true) h
      | delivery i => exact ofNext (recognize i .deliver true) h
      | jamRise i => exact ofNext (recognize i .jam true) h
      | jamFall i => exact ofNext (recognize i .jam false) h
      | readyRise i => exact ofNext (recognize i .ready true) h
      | readyFall i => exact ofNext (recognize i .ready false) h
      | stoppedRise i => exact ofNext (recognize i .stopped true) h
      | transitExpiry i =>
          exact ofNext (ofEvent .transitExpires State.KeepsMoneyAt.transitExpires.money State.transitExpires_of_dead) h
      | idleTimerExpiry i k =>
          exact ofNext (ofEvent (.idleExpires k) (State.KeepsMoneyAt.idleExpires k).money
            fun dead => State.idleExpires_of_dead dead k) h
      | authTimerExpiry i =>
          exact ofNext (ofEvent .authExpires State.KeepsMoneyAt.authExpires.money State.authExpires_of_dead) h
      | pauseAckExpiry i =>
          exact ofNext (ofEvent .pauseAckExpires State.KeepsMoneyAt.pauseAckExpires.money
            State.pauseAckExpires_of_dead) h
      | purgeWindowExpiry i =>
          exact ofNext (ofEvent .purgeExpires State.KeepsMoneyAt.purgeExpires.money State.purgeExpires_of_dead) h
      | scrubVisit => exact ofNext scrub h
      | timeBaseTick => exact ofNext secondPasses h
      | periodAlarmDue => exact ofNext alarmFalls h
      | cardFrame i card =>
          exact ofNext (ofEvent (.cardArrives card) (State.KeepsMoneyAt.cardArrives card).money
            fun dead => State.cardArrives_of_dead dead card) h
      | endFrame i =>
          exact ofNext (ofEvent .endArrives State.KeepsMoneyAt.endArrives.money State.endArrives_of_dead) h
      | malformedFrame i =>
          exact ofNext (ofEvent .malformedArrives State.KeepsMoneyAt.malformedArrives.money
            State.malformedArrives_of_dead) h
      | readerGapTimeout i =>
          exact ofNext (ofEvent .readerGap State.KeepsMoneyAt.readerGap.money State.readerGap_of_dead) h
      | indicatorFrameSent i => exact ofNext (indicatorSent i) h
      | pfailAsserted => exact ofNext pfailRises h
      | supplyFailure v => exact ofNext (supplyFails v) h
      | supplyReturn n => exact ofNext (supplyReturns n) h
      | resetPinAsserted => exact ofNext resetAsserts h
      | resetPinDeasserted n => exact ofNext (resetDeasserts n) h
      | hostStartByte => exact ofNext startByte h
      | hostBadLengthByte n => exact ofNext (badLength n) h
      | readerStartByte i => exact ofNext (readerStart i) h
      | readerIdleResume i => exact ofNext (readerIdle i) h
      | _ => exact nomatch code

theorem idle (h : s.idle = .next t) : s.KeepsAccounted t := by
  unfold State.idle at h
  split at h
  · exact ofNext ⟨State.accounted_restartStep⟩ h
  · split at h
    · exact exec h
    · exact ofNext (u := s.tick) (ofStations rfl rfl) h

theorem step (h : Sys2Proof.Machine.step s = .next t) : s.KeepsAccounted t := by
  unfold Sys2Proof.Machine.step at h
  split at h
  · rename_i c rest _
    exact trans (t := { s with pending := rest }) (ofStations rfl rfl) (exec h)
  · exact idle h

end State.KeepsAccounted

/-- Settles O59: every operation at a station keeps its money, a restart settles only sessions whose path it has written
off, and a step is a composition of these. -/
theorem stepKeepsMoney : Obligations.StepKeepsMoney := by
  intro s t money restart h
  obtain ⟨money', restart'⟩ := (State.KeepsAccounted.step h).kept ⟨money, restart⟩
  exact ⟨money', restart'⟩

end Sys2Proof.Machine
end

section
/-! Plans (R75 to R79): their 15 fields, what an amendment makes of each, and the three requests that carry or read
them. -/

namespace Sys2Proof.Machine

/-! ### The fields of a plan (R75) -/

/-- The fields of a plan in the order of R75, written out. -/
theorem Plan.fields_eq (p : Plan) : p.fields =
    [p.base[0], p.base[1], p.base[2], p.base[3], p.base[4], p.base[5], p.base[6], p.base[7],
      p.thresholds[0], p.thresholds[1], p.thresholds[2],
      p.discounts[0], p.discounts[1], p.discounts[2], p.discounts[3]] := by
  have thresholds : p.thresholds.toList = [p.thresholds[0], p.thresholds[1], p.thresholds[2]] := by
    apply List.ext_getElem (by simp)
    intro k hk _
    rw [Vector.length_toList] at hk
    interval_cases k <;> rfl
  have discounts : p.discounts.toList = [p.discounts[0], p.discounts[1], p.discounts[2], p.discounts[3]] := by
    apply List.ext_getElem (by simp)
    intro k hk _
    rw [Vector.length_toList] at hk
    interval_cases k <;> rfl
  rw [Plan.fields, toList_of_eight, thresholds, discounts]
  rfl

theorem Plan.length_fields (p : Plan) : p.fields.length = 15 := by rw [Plan.fields_eq]; rfl

/-- A plan made of 15 fields has these fields. -/
theorem Plan.fields_ofFields {f : List Nat} (h : f.length = 15) : (Plan.ofFields f).fields = f := by
  rw [Plan.fields_eq]
  apply List.ext_getElem (by simp [h])
  intro k _ hk
  rw [List.getElem_eq_getD (l := f) 0]
  rw [h] at hk
  interval_cases k <;> rfl

/-- The discounts are the last four of the 15 fields. -/
theorem Plan.discounts_ofFields {f : List Nat} (h : f.length = 15) :
    (Plan.ofFields f).discounts.toList = f.drop 11 := by
  conv_rhs => rw [← Plan.fields_ofFields h]
  rw [Plan.fields, List.drop_append, List.drop_of_length_le (by simp)]
  simp

/-! ### Amendments (R78) -/

theorem length_amendFields (mask : BitVec 16) : ∀ (old values : List Nat) (j : Nat),
    (amendFields mask j old values).length = old.length
  | [], _, _ => rfl
  | o :: old, values, j => by
      unfold amendFields
      split
      · split <;> rw [List.length_cons, length_amendFields mask old, List.length_cons]
      · rw [List.length_cons, length_amendFields mask old, List.length_cons]

/-- From field `j` on, a named field takes the carried value of its place among the named ones, each other keeps the
stored one. -/
theorem getElem?_amendFields (mask : BitVec 16) : ∀ (old values : List Nat) (j : Nat),
    ((List.range old.length).countP fun m => mask.getLsbD (j + m)) ≤ values.length →
    ∀ k, k < old.length → (amendFields mask j old values)[k]? =
      if mask.getLsbD (j + k) then values[(List.range k).countP fun m => mask.getLsbD (j + m)]? else old[k]?
  | [], _, _, _, k, hk => absurd hk (Nat.not_lt_zero k)
  | o :: old, values, j, enough, k, hk => by
      have next (n : Nat) : ((List.range (n + 1)).countP fun m => mask.getLsbD (j + m)) =
          ((List.range n).countP fun m => mask.getLsbD (j + 1 + m)) + if mask.getLsbD j then 1 else 0 := by
        rw [List.range_succ_eq_map, List.countP_cons, List.countP_map]
        simp only [Nat.add_zero, Function.comp_def, Nat.succ_eq_add_one, Nat.add_assoc, Nat.add_comm 1]
      rw [List.length_cons, next] at enough
      unfold amendFields
      by_cases named : mask.getLsbD j = true
      · rw [if_pos named] at enough ⊢
        cases values with
        | nil => exact absurd enough (Nat.not_succ_le_zero _)
        | cons v more =>
            cases k with
            | zero => simp [named]
            | succ k =>
                have rest := getElem?_amendFields mask old more (j + 1) (Nat.le_of_succ_le_succ enough) k
                  (Nat.lt_of_succ_lt_succ hk)
                rw [next, if_pos named, List.getElem?_cons_succ, List.getElem?_cons_succ, List.getElem?_cons_succ, rest,
                  Nat.add_right_comm, Nat.add_assoc]
      · rw [if_neg named] at enough ⊢
        cases k with
        | zero => simp [named]
        | succ k =>
            have rest := getElem?_amendFields mask old values (j + 1) enough k (Nat.lt_of_succ_lt_succ hk)
            rw [next, if_neg named, List.getElem?_cons_succ, List.getElem?_cons_succ, rest, Nat.add_right_comm,
              Nat.add_assoc]
            rfl

/-- The fields of an amended plan (R78). -/
theorem Plan.getElem?_fields_amend (p : Plan) {mask : BitVec 16} {values : List (BitVec 16)}
    (fits : values.length = namedFields mask) {k : Nat} (hk : k < 15) :
    (p.amend mask (values.map BitVec.toNat)).fields[k]? =
      if mask.getLsbD k then (values[(List.range k).countP fun m => mask.getLsbD m]?).map BitVec.toNat
      else p.fields[k]? := by
  have amended := getElem?_amendFields mask p.fields (values.map BitVec.toNat) 0
    (by simp only [Plan.length_fields, Nat.zero_add, List.length_map, fits]; exact Nat.le_refl _) k
    (by rw [Plan.length_fields]; exact hk)
  rw [Plan.amend, Plan.fields_ofFields (by rw [length_amendFields, Plan.length_fields]), amended]
  simp only [Nat.zero_add, List.getElem?_map]

/-! ### The plan table -/

theorem State.plan_of_lt (s : State) {n : Nat} (hn : n < 8) : s.plan n = s.plans[n] := by
  rw [State.plan, List.getD_eq_getElem _ _ (by simpa using hn), Vector.getElem_toList]

theorem State.setPlan_of_lt (s : State) {n : Nat} (hn : n < 8) (p : Plan) :
    s.setPlan n p = { s with plans := s.plans.set n p } := by
  simp [State.setPlan, Vector.setIfInBounds, Vector.set, Array.setIfInBounds, hn]

/-- A plan replaced leaves the seven others. -/
theorem getElem?_toList_set {v : Vector Plan 8} {n : Nat} (hn : n < 8) (p : Plan) :
    (v.set n p).toList[n]? = some p ∧ ∀ k, k ≠ n → (v.set n p).toList[k]? = v.toList[k]? := by
  rw [Vector.toList_set]
  exact ⟨List.getElem?_set_self (by simpa using hn), fun k ne => List.getElem?_set_ne (Ne.symm ne)⟩

theorem planInRange_of_le {n : Byte} (h : n.toNat ≤ 7) : planInRange n = true := decide_eq_true h

theorem planInRange_of_lt {n : Byte} (h : 7 < n.toNat) : planInRange n = false := decide_eq_false (Nat.not_le.mpr h)

/-! ### What the owning rules answer -/

section Owners

variable {s : State} {n : Byte}

/-- A carried plan's discount is above 900 exactly where one of its last four fields is. -/
theorem anyDiscount_ofFields {f : List (BitVec 16)} (h : f.length = 15) :
    (Plan.ofFields (f.map BitVec.toNat)).discounts.toList.any (fun d => decide (900 < d)) =
      (f.drop 11).any fun d => decide (900 < d.toNat) := by
  rw [Plan.discounts_ofFields (by rw [List.length_map, h]), ← List.map_drop, List.any_map]
  rfl

/-- LOAD-PLAN by its checks in order (R77). -/
theorem State.ownLoadPlan_eq {f : List (BitVec 16)} (h : f.length = 15) : s.ownLoadPlan n f =
    if 7 < n.toNat ∨ ∃ d ∈ f.drop 11, 900 < d.toNat then (s, .refuse .badValue)
    else if (Plan.ofFields (f.map BitVec.toNat)).valid = false then (s, .refuse .badPlan)
    else (s.setPlan n.toNat (Plan.ofFields (f.map BitVec.toNat)), .ok []) := by
  unfold State.ownLoadPlan
  dsimp only
  rw [anyDiscount_ofFields h]
  by_cases out : 7 < n.toNat
  · simp [planInRange_of_lt out, out]
  · by_cases high : ∃ d ∈ f.drop 11, 900 < d.toNat
    · simp [planInRange_of_le (Nat.not_lt.mp out), high]
    · have allowed : ((f.drop 11).any fun d => decide (900 < d.toNat)) = false := by simpa using high
      simp [planInRange_of_le (Nat.not_lt.mp out), out, high, allowed]

/-- AMEND-PLAN by its checks in order (R78). -/
theorem State.ownAmendPlan_eq {mask : BitVec 16} {values : List (BitVec 16)} (hn : n.toNat < 8) :
    s.ownAmendPlan n mask values =
      if mask.getLsbD 15 = true ∨ carriesBadDiscount mask values = true then (s, .refuse .badValue)
      else if ((s.plans[n.toNat]).amend mask (values.map BitVec.toNat)).valid = false then (s, .refuse .badPlan)
      else (s.setPlan n.toNat ((s.plans[n.toNat]).amend mask (values.map BitVec.toNat)), .ok []) := by
  unfold State.ownAmendPlan
  dsimp only
  rw [planInRange_of_le (Nat.le_of_lt_succ hn), State.plan_of_lt s hn]
  cases mask.getLsbD 15 <;> cases carriesBadDiscount mask values <;> simp

end Owners

/-! ### The replies -/

section Replies

variable {s : State}

theorem answered_refuse (kind : Byte) (status : Status) :
    answered kind false (s.taken, .refuse status) = s.replied kind status.code [] := rfl

/-- A plan table replaced, and answered. -/
theorem answered_setPlan {n : Nat} (hn : n < 8) (p : Plan) (kind : Byte) :
    answered kind false (s.taken.setPlan n p, .ok []) =
      ({ s with plans := s.plans.set n p } : State).replied kind 0 [] := by
  rw [State.setPlan_of_lt _ hn]
  rfl

end Replies

theorem exec_loadPlan_eq {s : State} {n : Byte} {f : List (BitVec 16)} (serving : s.Serving) (fits : f.length = 15) :
    exec (.loadPlan n f) s = .next (answered 0xB0 false (
      if 7 < n.toNat ∨ ∃ d ∈ f.drop 11, 900 < d.toNat then (s.taken, .refuse .badValue)
      else if (Plan.ofFields (f.map BitVec.toNat)).valid = false then (s.taken, .refuse .badPlan)
      else (s.taken.setPlan n.toNat (Plan.ofFields (f.map BitVec.toNat)), .ok []))) := by
  rw [exec_loadPlan serving n fits, ← State.taken, State.ownLoadPlan_eq fits]

theorem exec_amendPlan_eq {s : State} {n : Byte} {mask : BitVec 16} {values : List (BitVec 16)} (serving : s.Serving)
    (fits : values.length = namedFields mask) (hn : n.toNat < 8) {p : Plan}
    (amended : p = (s.plans[n.toNat]).amend mask (values.map BitVec.toNat)) :
    exec (.amendPlan n mask values) s = .next (answered 0xB1 false (
      if mask.getLsbD 15 = true ∨ carriesBadDiscount mask values = true then (s.taken, .refuse .badValue)
      else if p.valid = false then (s.taken, .refuse .badPlan)
      else (s.taken.setPlan n.toNat p, .ok []))) := by
  rw [exec_amendPlan serving n fits, ← State.taken, State.ownAmendPlan_eq hn, amended]
  rfl

/-- A plan number above 7 is refused first, and bit 15 of the mask next (R78). -/
theorem exec_amendPlan_of_out {s : State} {n : Byte} {mask : BitVec 16} {values : List (BitVec 16)}
    (serving : s.Serving) (fits : values.length = namedFields mask) (out : 7 < n.toNat ∨ mask.getLsbD 15 = true) :
    exec (.amendPlan n mask values) s = .next (s.replied 0xB1 4 []) := by
  by_cases high : 7 < n.toNat
  · rw [exec_amendPlan serving n fits, State.ownAmendPlan]
    simp only [planInRange_of_lt high, Bool.not_false, if_true]
    rfl
  · rw [exec_amendPlan_eq serving fits (Nat.lt_succ_of_le (Nat.not_lt.mp high)) rfl,
      if_pos (.inl (out.resolve_left high)), answered_refuse]
    rfl

/-- Settles O25: each request is answered by its checks in order, and an accepted one writes its own plan alone. -/
theorem plansReplaced : Obligations.PlansReplaced := by
  refine ⟨fun s n f serving fits => ?_, fun s n mask values serving fits =>
    ⟨exec_amendPlan_of_out serving fits, fun hn p amended => ?_⟩⟩
  · rw [exec_loadPlan_eq serving fits]
    refine ⟨fun out => ?_, fun _ high => ?_, fun le allowed invalid => ?_, fun le allowed valid => ?_⟩
    · rw [if_pos (.inl out)]
      rfl
    · rw [if_pos (.inr high)]
      rfl
    · rw [if_neg (by simpa using ⟨le, allowed⟩), if_pos invalid]
      rfl
    · have hn : n.toNat < 8 := Nat.lt_succ_of_le le
      rw [if_neg (by simpa using ⟨le, allowed⟩), if_neg (by simp [valid]), answered_setPlan hn]
      exact ⟨_, rfl, getElem?_toList_set hn _⟩
  · rw [exec_amendPlan_eq serving fits hn amended]
    refine ⟨fun k hk => ?_, fun inside bad => ?_, fun inside allowed invalid => ?_, fun inside allowed valid => ?_⟩
    · rw [amended]
      exact Plan.getElem?_fields_amend _ fits hk
    · rw [if_pos (.inr bad)]
      rfl
    · rw [if_neg (by rw [inside, allowed]; decide), if_pos invalid]
      rfl
    · rw [if_neg (by rw [inside, allowed]; decide), if_neg (by simp [valid]), answered_setPlan hn]

/-- Settles O26: the reply is the owning rule's, and the bytes of a plan are its fields in the order of R75. -/
theorem readPlanFields : Obligations.ReadPlanFields := by
  intro s n free
  refine ⟨fun down => ?_, fun run out => ?_, fun run hn p stored => ?_⟩
  · rw [exec_request (kind := 0x32) rfl, State.hostRequest_shutdown (r := .readPlan n) free down rfl rfl nofun]
    rfl
  · rw [exec_readPlan ⟨free, run⟩, State.ownReadPlan, planInRange_of_lt out]
    rfl
  · rw [exec_readPlan ⟨free, run⟩, State.ownReadPlan, planInRange_of_le (Nat.le_of_lt_succ hn), State.plan_of_lt _ hn]
    subst stored
    rw [← Plan.fields_eq]
    rfl

end Sys2Proof.Machine
end

section
/-! Prices (R80 to R85): QUOTE, the tier that a covered count reaches, and the ceiling. -/

namespace Sys2Proof.Machine

/-! ### Tiers (R82): the thresholds are tested from the highest down, so valid plan or not -/

/-- The tier reached is 0 or has its threshold present and reached. -/
theorem Plan.threshold_tierFor (p : Plan) (n : Nat) (h : (p.tierFor n).val ≠ 0) :
    p.threshold (p.tierFor n).val ≠ 0 ∧ p.threshold (p.tierFor n).val ≤ n := by
  unfold Plan.tierFor at h ⊢
  split_ifs at h ⊢ with third second first
  · exact third
  · exact second
  · exact first
  · exact absurd rfl h

/-- No tier above the one reached has its threshold present and reached. -/
theorem Plan.le_tierFor (p : Plan) (n k : Nat) (low : 1 ≤ k) (high : k ≤ 3) (present : p.threshold k ≠ 0)
    (reached : p.threshold k ≤ n) : k ≤ (p.tierFor n).val := by
  unfold Plan.tierFor
  split_ifs with third second first
  · exact high
  · have : k ≠ 3 := fun h => third (h ▸ ⟨present, reached⟩)
    show k ≤ 2
    omega
  · have : k ≠ 3 := fun h => third (h ▸ ⟨present, reached⟩)
    have : k ≠ 2 := fun h => second (h ▸ ⟨present, reached⟩)
    show k ≤ 1
    omega
  · have : k ≠ 3 := fun h => third (h ▸ ⟨present, reached⟩)
    have : k ≠ 2 := fun h => second (h ▸ ⟨present, reached⟩)
    have : k ≠ 1 := fun h => first (h ▸ ⟨present, reached⟩)
    omega

/-! ### The ceiling (R85) -/

/-- The largest of a start value and the values of a list bounds each of them. -/
theorem le_foldl_max {α : Type} (f : α → Nat) : ∀ (l : List α) (m : Nat),
    m ≤ l.foldl (fun m k => max m (f k)) m ∧ ∀ k ∈ l, f k ≤ l.foldl (fun m k => max m (f k)) m
  | [], m => ⟨Nat.le_refl m, nofun⟩
  | a :: l, m => by
      obtain ⟨start, rest⟩ := le_foldl_max f l (max m (f a))
      refine ⟨(Nat.le_max_left _ _).trans start, fun k hk => ?_⟩
      rcases List.mem_cons.mp hk with rfl | hk
      · exact (Nat.le_max_right _ _).trans start
      · exact rest k hk

/-- That largest value is the start value or one of the list's. -/
theorem foldl_max_mem {α : Type} (f : α → Nat) : ∀ (l : List α) (m : Nat),
    l.foldl (fun m k => max m (f k)) m = m ∨ ∃ k, f k = l.foldl (fun m k => max m (f k)) m
  | [], _ => .inl rfl
  | a :: l, m => by
      rcases foldl_max_mem f l (max m (f a)) with same | one
      · rcases Nat.le_total m (f a) with le | le
        · exact .inr ⟨a, (Nat.max_eq_right le).symm.trans same.symm⟩
        · exact .inl (same.trans (Nat.max_eq_left le))
      · exact .inr one

theorem mem_allKinds (k : Kind) : k ∈ allKinds := by
  revert k
  decide

theorem Plan.priceAt_le_ceilingAt (p : Plan) (rate : Nat) (tier : Fin 4) (k : Kind) :
    p.priceAt rate tier k ≤ p.ceilingAt rate tier :=
  (le_foldl_max (p.priceAt rate tier) allKinds 0).2 k (mem_allKinds k)

/-- The ceiling is the price of some kind: where it is 0, that of any. -/
theorem Plan.exists_priceAt_eq_ceilingAt (p : Plan) (rate : Nat) (tier : Fin 4) :
    ∃ k, p.priceAt rate tier k = p.ceilingAt rate tier := by
  rcases foldl_max_mem (p.priceAt rate tier) allKinds 0 with zero | one
  · have zero : p.ceilingAt rate tier = 0 := zero
    exact ⟨0, Nat.le_antisymm (p.priceAt_le_ceilingAt rate tier 0) (zero ▸ Nat.zero_le _)⟩
  · exact one

theorem Plan.priceAt_le (p : Plan) (rate : Nat) (tier : Fin 4) (k : Kind) : p.priceAt rate tier k ≤ 65535 :=
  Nat.min_le_left _ _

/-! ### QUOTE (R80) -/

section Quote

variable {s : State} {n rate tier kind : Byte}

theorem exec_quote_of_out (serving : s.Serving)
    (out : 7 < n.toNat ∨ 250 < rate.toNat ∨ 3 < tier.toNat ∨ 7 < kind.toNat) :
    exec (.quote n rate tier kind) s = .next (s.replied 0xB3 4 []) := by
  have refused : (!planInRange n) = true ∨ 250 < rate.toNat ∨ 3 < tier.toNat ∨ 7 < kind.toNat :=
    out.imp_left fun high => by rw [planInRange_of_lt high]; rfl
  rw [exec_quote serving, State.ownQuote, if_pos refused]
  rfl

/-- With its operands in range the tier's threshold decides, and the price is that of R83 at the stored plan. -/
theorem exec_quote_eq (serving : s.Serving) (hn : n.toNat < 8) (ht : tier.toNat < 4) (hk : kind.toNat < 8)
    (hr : rate.toNat ≤ 250) : exec (.quote n rate tier kind) s = .next (
      if 0 < tier.toNat ∧ (s.plans[n.toNat]).threshold tier.toNat = 0 then s.replied 0xB3 4 []
      else s.replied 0xB3 0 (
        leBytes 2 ((s.plans[n.toNat]).priceAt rate.toNat ⟨tier.toNat, ht⟩ ⟨kind.toNat, hk⟩) ++
          [flag ((s.plans[n.toNat]).clampsAt rate.toNat ⟨tier.toNat, ht⟩ ⟨kind.toNat, hk⟩)])) := by
  have accepted : ¬((!planInRange n) = true ∨ 250 < rate.toNat ∨ 3 < tier.toNat ∨ 7 < kind.toNat) := by
    rw [planInRange_of_le (Nat.le_of_lt_succ hn)]
    simp only [Bool.not_true, Bool.false_eq_true, false_or, not_or, Nat.not_lt]
    omega
  have tier' : Fin.ofNat 4 tier.toNat = ⟨tier.toNat, ht⟩ := Fin.ext (Nat.mod_eq_of_lt ht)
  have kind' : (Fin.ofNat 8 kind.toNat : Kind) = ⟨kind.toNat, hk⟩ := Fin.ext (Nat.mod_eq_of_lt hk)
  rw [exec_quote serving, ← State.taken, State.ownQuote, if_neg accepted, State.plan_of_lt _ hn, tier', kind']
  show Host.Outcome.next (answered _ _
    (if 0 < tier.toNat ∧ (s.plans[n.toNat]).threshold tier.toNat = 0 then _ else _)) = _
  split <;> rfl

end Quote

/-- Settles O27: the price of QUOTE is the rounded one, clamped; the tier tests the thresholds from the highest down;
the ceiling is a maximum over the kinds. -/
theorem pricing : Obligations.Pricing := by
  refine ⟨fun s n rate tier kind serving => ⟨exec_quote_of_out serving, fun hn ht hk hr => ?_⟩, fun p n _ => ?_,
    fun p rate tier => ?_⟩
  · rw [exec_quote_eq serving hn ht hk hr]
    refine ⟨fun above absent => by rw [if_pos ⟨above, absent⟩], ?_⟩
    rintro present q rfl
    rw [if_neg fun ⟨above, absent⟩ => present.elim (Nat.ne_of_gt above) fun h => h absent]
    rw [Plan.priceAt, Plan.clampsAt, price, clamps, rawPrice, flag]
    simp only [decide_eq_true_eq]
  · exact ⟨p.le_tierFor n, p.threshold_tierFor n⟩
  · obtain ⟨k, price⟩ := p.exists_priceAt_eq_ceilingAt rate tier
    exact ⟨p.priceAt_le_ceilingAt rate tier, ⟨k, price⟩, price ▸ p.priceAt_le rate tier k⟩

end Sys2Proof.Machine
end

section
/-! The answers to a pause (R98, R99) and the copier outputs (R25). -/

namespace Sys2Proof.Machine

/-! ### A STOPPED rise (R98) -/

section Answers

variable {s : State} {i : StationId}

theorem State.stoppedRose_of_holding {x : Session} (session : (s.station i).session = some x)
    (holding : x.phase = .holding) (here : x.suspended = false) :
    s.stoppedRose i = s.setStation i { s.station i with
      session := some { x with phase := .held }, pauseTimer := none } := by
  simp only [State.stoppedRose, session, here, holding, and_self, if_true]
  rfl

/-- A rise that finds no HOLDING session answers nothing. -/
theorem State.stoppedRose_of_not_holding (unasked : ∀ x, (s.station i).session = some x → x.phase ≠ .holding) :
    s.stoppedRose i = s := by
  unfold State.stoppedRose
  cases session : (s.station i).session with
  | none => rfl
  | some x => exact if_neg fun answers => unasked x session answers.2

/-- An answered pause is no change of the station's state (R26), so no quiet test ends the event (R42). -/
theorem State.state_stoppedRose : ((s.stoppedRose i).station i).state = (s.station i).state := by
  unfold State.stoppedRose
  cases (s.station i).session with
  | none => rfl
  | some x =>
      dsimp only
      split
      · rw [State.modStation, State.station_setStation_self]
      · rfl

/-- A STOPPED rise whose line carries no candidate timing (R3, R98; log 7). -/
theorem exec_stoppedRise (run : s.running = true) (level : (s.station i).lines.stopped.level = false)
    (timing : (s.station i).lines.stopped.timing = none) :
    exec (.stoppedRise i) s =
      .next ((s.setStation i ((s.station i).levelled .stopped true)).stoppedRose i) := by
  have unlike : ((s.station i).lines.get .stopped).level ≠ true := fun h => nomatch level.symm.trans h
  show Host.Outcome.next (s.recognize i .stopped true) = _
  rw [State.recognize_of_untimed run unlike timing, State.setLine_eq_levelled, State.lineEvent,
    State.endEvent_of_same (State.state_stoppedRose.trans (State.station_atStation_self .. ▸ rfl)),
    ← State.setStation_eq_atStation]

theorem exec_stoppedRise_of_holding {x : Session} (run : s.running = true)
    (level : (s.station i).lines.stopped.level = false) (timing : (s.station i).lines.stopped.timing = none)
    (session : (s.station i).session = some x) (holding : x.phase = .holding) (here : x.suspended = false) :
    exec (.stoppedRise i) s = .next (s.setStation i { (s.station i).levelled .stopped true with
      session := some { x with phase := .held }, pauseTimer := none }) := by
  rw [exec_stoppedRise run level timing, State.stoppedRose_of_holding
    (by rw [State.station_setStation_self]; exact session) holding here,
    State.setStation_setStation, State.station_setStation_self]

theorem exec_stoppedRise_of_not_holding (run : s.running = true)
    (level : (s.station i).lines.stopped.level = false) (timing : (s.station i).lines.stopped.timing = none)
    (unasked : ∀ x, (s.station i).session = some x → x.phase ≠ .holding) :
    exec (.stoppedRise i) s = .next (s.setStation i ((s.station i).levelled .stopped true)) := by
  rw [exec_stoppedRise run level timing, State.stoppedRose_of_not_holding
    (by rw [State.station_setStation_self]; exact unasked)]

/-! ### The pause-ack expiry (R99) -/

/-- The expiry for a HOLDING session forces the stop; the interval count reaches the timer's instant (log 5). -/
theorem exec_pauseAckExpiry {x : Session} {expiry : Nat} (run : s.running = true)
    (session : (s.station i).session = some x) (holding : x.phase = .holding) (here : x.suspended = false)
    (timed : (s.station i).pauseTimer = some expiry) (later : s.now ≤ expiry) :
    exec (.pauseAckExpiry i) s = .next (({ s with now := expiry } : State).setStation i { s.station i with
      session := some { x with phase := .held, forced := true }, pauseTimer := none
      forcedStops := min 65535 ((s.station i).forcedStops + 1) }) := by
  show Host.Outcome.next (s.pauseAckExpires i) = _
  simp only [State.pauseAckExpires, timed, session, run, here, holding, and_self, if_true, State.reach_of_le later]
  rfl

end Answers

/-! ### PERMIT, PAUSE and SAVE (R25) -/

/-- With the supply present and the RESET pin deasserted, the device's state decides whether the outputs are driven. -/
theorem State.driven_eq_decide {s : State} (supply : s.mainSupply = true) (pin : s.resetPin = false) :
    s.driven = decide (s.device = .running) := by
  rw [State.driven, supply, pin]
  rfl

theorem State.outputs_of_undriven {s : State} (undriven : s.driven = false) (i : StationId) :
    s.permit i = false ∧ s.pause i = false ∧ s.save i = false := by
  simp only [State.permit, State.pause, State.save, undriven, Bool.false_and, and_self]

/-- Settles O40: a STOPPED rise or the pause-ack expiry makes a HOLDING session HELD, a rise that finds none moves the
line alone, and the outputs follow from whether they are driven and from the session. -/
theorem pauseAndOutputs : Obligations.PauseAndOutputs := by
  refine ⟨?_, ?_, ?_⟩
  · intro s i x expiry run session holding here timed later
    exact ⟨fun level timing => exec_stoppedRise_of_holding run level timing session holding here,
      exec_pauseAckExpiry run session holding here timed later⟩
  · intro s i run level timing unasked
    exact exec_stoppedRise_of_not_holding run level timing unasked
  · intro s i supply pin
    have driven := State.driven_eq_decide supply pin
    refine ⟨fun down => ?_, fun running => ?_, fun _ => State.outputs_of_none, fun x running session here => ?_⟩
    · exact State.outputs_of_undriven (by rw [driven, down]; rfl) i
    · rw [State.save_of_driven (driven.trans (decide_eq_true running)), decide_eq_true_iff]
    · obtain ⟨permit, pause⟩ := State.outputs_of_session (driven.trans (decide_eq_true running)) session here
      rw [permit, pause, decide_eq_true_iff, decide_eq_true_iff]
      exact ⟨Iff.rfl, Iff.rfl⟩

end Sys2Proof.Machine
end

section
/-! The jam record beside the station's state (R108, R111, R118, R29): what leaves an OPEN record open, what closes it. -/

namespace Sys2Proof.Machine

/-- The station states in which a jam record is OPEN. -/
def StationState.inJam : StationState → Bool
  | .jammed => true
  | .recover => true
  | _ => false

theorem StationState.inJam_iff {n : StationState} : n.inJam = true ↔ n = .jammed ∨ n = .recover := by
  cases n <;> simp [StationState.inJam]

theorem Station.jamKept_iff {st : Station} : st.JamKept ↔ st.jamOpen = st.state.inJam := by
  rw [Bool.eq_iff_iff, StationState.inJam_iff]
  exact Iff.rfl

/-- Whether the record is OPEN rests on its lost count alone. -/
theorem Station.jamOpen_of_map {a b : Station} {f : JamRecord → JamRecord} (jam : b.jam = a.jam.map f)
    (lost : ∀ r, (f r).lost = r.lost) : b.jamOpen = a.jamOpen := by
  unfold Station.jamOpen
  rw [jam]
  cases a.jam with
  | none => rfl
  | some r => exact congrArg Option.isNone (lost r)

theorem JamRecord.lost_foldl_absorb : ∀ (path : List Sheet) (r : JamRecord),
    (path.foldl JamRecord.absorb r).lost = r.lost
  | [], _ => rfl
  | e :: path, r => JamRecord.lost_foldl_absorb path (r.absorb e)

theorem Station.jamOpen_handOver (st : Station) : st.handOver.jamOpen = st.jamOpen :=
  Station.jamOpen_of_map rfl (JamRecord.lost_foldl_absorb st.path)

theorem Station.state_closeJam (st : Station) : st.closeJam.state = st.state := by
  unfold Station.closeJam
  split
  · rfl
  · split <;> rfl

theorem Station.jamOpen_closeJam (st : Station) : st.closeJam.jamOpen = false := by
  unfold Station.closeJam
  cases jam : st.jam with
  | none => simp [Station.jamOpen]
  | some r => cases lost : r.lost <;> simp [Station.jamOpen, lost]

/-- A station that leaves service leaves no OPEN record (R29). -/
theorem Station.jamOpen_leaveService {st : Station} (kept : st.JamKept) : st.leaveService.jamOpen = false := by
  unfold Station.leaveService
  split
  · exact st.jamOpen_closeJam
  · rename_i working
    exact Bool.eq_false_iff.mpr fun jam => working (kept.mp jam)

end Sys2Proof.Machine
end

section
/-! The operations at a station that leave its state, and the record OPEN or not as it was. -/

namespace Sys2Proof.Machine

/-- `t` has station `i` in the state of `s`, its jam record OPEN exactly if that of `s` is. -/
structure State.SameJamAt (i : StationId) (s t : State) : Prop where
  state : (t.station i).state = (s.station i).state
  record : (t.station i).jamOpen = (s.station i).jamOpen

namespace State.SameJamAt

variable {i : StationId} {s t u : State}

theorem refl (i : StationId) (s : State) : State.SameJamAt i s s := ⟨rfl, rfl⟩

theorem trans (h : State.SameJamAt i s t) (k : State.SameJamAt i t u) : State.SameJamAt i s u :=
  ⟨k.state.trans h.state, k.record.trans h.record⟩

theorem ofStations (same : t.stations = s.stations) : State.SameJamAt i s t := by
  constructor <;> rw [State.station, same, State.station]

theorem modStation {f : Station → Station} (state : (f (s.station i)).state = (s.station i).state)
    (record : (f (s.station i)).jamOpen = (s.station i).jamOpen) : State.SameJamAt i s (s.modStation i f) := by
  constructor <;> rw [State.station_modStation_self]
  · exact state
  · exact record

theorem indicate (f : Indicator) : State.SameJamAt i s (s.indicate i f) := modStation rfl rfl

theorem setLine (n : Line) (v : LineState) : State.SameJamAt i s (s.setLine i n v) := modStation rfl rfl

theorem setReader (c : ReaderCondition) : State.SameJamAt i s (s.setReader i c) := modStation rfl rfl

theorem setSession (x : Option Session) : State.SameJamAt i s (s.setSession i x) := modStation rfl rfl

theorem modSession (f : Session → Session) : State.SameJamAt i s (s.modSession i f) := modStation rfl rfl

theorem reloadBoth : State.SameJamAt i s (s.reloadBoth i) := modStation rfl rfl

theorem setTimer (k : TimerId) (v : IdleTimer) : State.SameJamAt i s (s.modStation i fun st => st.setTimer k v) := by
  cases k <;> exact modStation rfl rfl

theorem postAt (k : NoticeKind) (j : StationId) : State.SameJamAt i s (s.postAt k j) := ofStations rfl

theorem reach (n : Nat) : State.SameJamAt i s (s.reach n) := ofStations rfl

theorem refuse (r : RefuseReason) (c : CardClass) : State.SameJamAt i s (s.refuse i r c) :=
  (modStation rfl rfl).trans ((indicate _).trans (postAt _ _))

theorem modHandOver : State.SameJamAt i s (s.modStation i Station.handOver) :=
  modStation rfl (Station.jamOpen_handOver _)

theorem joinPath (n : Nat) (k : Kind) (c : Coverage) (x : Option Nat) : State.SameJamAt i s (s.joinPath i n k c x) :=
  modStation rfl rfl

/-! ### Sessions -/

theorem liftPause (x : Session) (b : Bool) : State.SameJamAt i s (s.liftPause i x b) := by
  unfold State.liftPause
  dsimp only
  split
  · exact modStation rfl rfl
  · exact (modStation rfl rfl).trans (indicate _)

theorem evaluatePause (b : Bool) : State.SameJamAt i s (s.evaluatePause i b) := by
  have holding (x : Session) : State.SameJamAt i s (s.enterHolding i x) :=
    (modStation rfl rfl).trans ((postAt _ _).trans (indicate _))
  unfold State.evaluatePause
  split
  · exact refl _ _
  · split
    · split
      · split
        · exact holding _
        · split
          · exact indicate _
          · exact refl _ _
      · split
        · exact refl _ _
        · exact liftPause _ _
    · exact refl _ _

theorem handOver : State.SameJamAt i s (s.handOver i) := by
  unfold State.handOver
  dsimp only
  split
  · exact modHandOver
  · exact modHandOver.trans (evaluatePause _)

theorem createSession (p : Payment) (h r : Nat) (ph : Phase) : State.SameJamAt i s (s.createSession i p h r ph) := by
  rw [State.createSession_eq]
  constructor <;> rw [State.station_setStation_self]
  rfl

theorem endWithoutRecord : State.SameJamAt i s (s.endWithoutRecord i) :=
  trans (t := s.unreserve) (ofStations rfl) (modStation rfl rfl)

theorem settle (x : Session) (r : CloseReason) : State.SameJamAt i s (s.settle i x r) := by
  have paid : State.SameJamAt i s (s.accountStep x x.chargeCents).1 := ofStations (s.stations_accountStep _ _)
  have written (t : State) (r : Nat → SettleRecord) : State.SameJamAt i t (t.writeSettle r) := ofStations rfl
  exact paid.trans ((written _ _).trans ((indicate _).trans ((postAt _ _).trans (setSession _))))

theorem coverSheet (n : Nat) (k : Kind) : State.SameJamAt i s (s.coverSheet i n k) := by
  unfold State.coverSheet
  split
  · exact joinPath _ _ _ _
  · dsimp only
    split
    · split
      · exact (joinPath _ _ _ _).trans ((setSession _).trans (evaluatePause _))
      · exact (joinPath _ _ _ _).trans (setSession _)
    · exact (joinPath _ _ _ _).trans (setSession _)

theorem reportDelivery (e : Sheet) : State.SameJamAt i s (s.reportDelivery i e) := by
  unfold State.reportDelivery
  split
  · exact refl _ _
  · split
    · exact (setSession _).trans (evaluatePause _)
    · exact refl _ _

theorem stoppedRose : State.SameJamAt i s (s.stoppedRose i) := by
  unfold State.stoppedRose
  split
  · exact refl _ _
  · split
    · exact modStation rfl rfl
    · exact refl _ _

theorem authExpires : State.SameJamAt i s (s.authExpires i) := by
  unfold State.authExpires
  split
  · split
    · exact (reach _).trans (endWithoutRecord.trans ((refuse _ _).trans reloadBoth))
    · exact refl _ _
  · exact refl _ _

theorem pauseAckExpires : State.SameJamAt i s (s.pauseAckExpires i) := by
  unfold State.pauseAckExpires
  split
  · split
    · exact (reach _).trans (modStation rfl rfl)
    · exact refl _ _
  · exact refl _ _

/-! ### Cards -/

theorem read {n : Nat} {r : SlotRead} (h : s.testedRead n = (t, r)) : State.SameJamAt i s t :=
  ofStations (State.stations_of_testedRead h)

theorem writeRead {n : Nat} {r : SlotRead} (h : s.testedRead n = (t, r)) (m : Nat) (a : Account) :
    State.SameJamAt i s (t.writeAccount m a) :=
  ofStations (State.stations_writeRead h m a)

theorem admitCampus (n : Nat) : State.SameJamAt i s (s.admitCampus i n) := by
  unfold State.admitCampus
  split
  · exact refuse _ _
  · split <;> rename_i found
    · dsimp only
      split
      · exact (read found).trans (refuse _ _)
      · split
        · exact (read found).trans (refuse _ _)
        · exact (writeRead found _ _).trans ((createSession _ _ _ _).trans ((indicate _).trans (evaluatePause _)))
    · exact (read found).trans (refuse _ _)

theorem admitBank (token : BitVec 128) : State.SameJamAt i s (s.admitBank i token) :=
  trans (t := { s with authRef := nextAuthRef s.authRefs 8 s.authRef }) (ofStations rfl)
    ((createSession _ _ _ _).trans ((modStation rfl rfl).trans ((postAt _ _).trans (indicate _))))

theorem admitCard (c : Card) : State.SameJamAt i s (s.admitCard i c) := by
  unfold State.admitCard
  split
  · exact refuse _ _
  · split
    · exact refuse _ _
    · split
      · exact admitCampus _
      · exact admitBank _

theorem extendSession (n : Nat) : State.SameJamAt i s (s.extendSession i n) := by
  unfold State.extendSession
  split <;> rename_i found
  · dsimp only
    split
    · exact (read found).trans (refuse _ _)
    · split
      · exact (read found).trans (refuse _ _)
      · split
        · exact (writeRead found _ _).trans ((modSession _).trans ((indicate _).trans (evaluatePause _)))
        · exact (writeRead found _ _).trans ((modSession _).trans (evaluatePause _))
  · exact (read found).trans (refuse _ _)

theorem takeCard (c : Card) : State.SameJamAt i s (s.takeCard i c) := by
  unfold State.takeCard
  split
  · exact admitCard _
  · split
    · split
      · exact extendSession _
      · exact refuse _ _
    · exact refuse _ _

/-! ### Authorization results -/

theorem acceptAuth (hold : Nat) : State.SameJamAt i s (s.acceptAuth i hold) :=
  (modStation rfl rfl).trans (reloadBoth.trans ((indicate _).trans (evaluatePause _)))

theorem declineAuth : State.SameJamAt i s (s.declineAuth i) :=
  endWithoutRecord.trans ((refuse _ _).trans reloadBoth)

end State.SameJamAt

end Sys2Proof.Machine
end

section
/-! What the event of a station keeps of its jam record, operation by operation, in the order of `State.Local`. -/

namespace Sys2Proof.Machine

/-- An operation keeps an OPEN record at station `i` exactly while the station is JAMMED or RECOVER. -/
structure State.KeepsJamAt (i : StationId) (s t : State) : Prop where
  jam : (s.station i).JamKept → (t.station i).JamKept

theorem State.SameJamAt.keeps {i : StationId} {s t : State} (h : State.SameJamAt i s t) : State.KeepsJamAt i s t := by
  refine ⟨fun kept => Station.jamKept_iff.mpr ?_⟩
  rw [h.record, h.state]
  exact Station.jamKept_iff.mp kept

/-- A state is entered with the record that the state calls for. -/
theorem State.jamKept_enterState {i : StationId} {s : State} {n : StationState}
    (record : (s.station i).jamOpen = n.inJam) : ((s.enterState i n).station i).JamKept := by
  rw [State.station_enterState_self]
  exact Station.jamKept_iff.mpr record

namespace State.KeepsJamAt

variable {i : StationId} {s t u : State}

theorem refl (i : StationId) (s : State) : State.KeepsJamAt i s s := ⟨id⟩

theorem trans (h : State.KeepsJamAt i s t) (k : State.KeepsJamAt i t u) : State.KeepsJamAt i s u := ⟨k.jam ∘ h.jam⟩

/-- A change between two states that both call for an OPEN record, or both for none. -/
theorem enterState {n : StationState} (same : (s.station i).state.inJam = n.inJam) :
    State.KeepsJamAt i s (s.enterState i n) :=
  ⟨fun kept => State.jamKept_enterState ((Station.jamKept_iff.mp kept).trans same)⟩

theorem enterState_of_eq {m n : StationState} (state : (s.station i).state = m) (same : m.inJam = n.inJam) :
    State.KeepsJamAt i s (s.enterState i n) := enterState (state ▸ same)

theorem enterOffline : State.KeepsJamAt i s (s.enterOffline i) := by
  refine ⟨fun kept => State.jamKept_enterState ?_⟩
  rw [State.station_modStation_self]
  exact Station.jamOpen_leaveService kept

theorem activity (k : TimerId) : State.KeepsJamAt i s (s.activity i k) := by
  unfold State.activity
  split
  · exact refl _ _
  · have woken : State.KeepsJamAt i s (if (s.station i).state = .save then s.enterState i .ready else s) := by
      split
      · exact enterState_of_eq (m := .save) ‹_› rfl
      · exact refl _ _
    dsimp only
    split
    · exact woken
    · exact woken.trans (SameJamAt.setTimer _ _).keeps

/-! ### Sessions -/

theorem settleInService (x : Session) (r : CloseReason) : State.KeepsJamAt i s (s.settleInService i x r) := by
  have settled := (SameJamAt.settle (i := i) (s := s) x r).keeps
  unfold State.settleInService
  dsimp only
  split
  · exact settled.trans enterOffline
  · exact settled.trans SameJamAt.reloadBoth.keeps

theorem closeRequest (r : CloseReason) : State.KeepsJamAt i s (s.closeRequest i r) := by
  unfold State.closeRequest
  split
  · exact refl _ _
  · split
    · dsimp only
      split
      · exact (SameJamAt.modStation rfl rfl).keeps.trans (settleInService _ _)
      · exact (SameJamAt.modStation rfl rfl).keeps
    · exact refl _ _

theorem quietTest : State.KeepsJamAt i s (s.quietTest i) := by
  unfold State.quietTest
  dsimp only
  split
  · rename_i quiet
    obtain ⟨-, ready, -⟩ := quiet
    split
    · exact enterState_of_eq ready rfl
    · split
      · exact closeRequest _
      · exact refl _ _
  · exact refl _ _

theorem endEvent (b : StationState) : State.KeepsJamAt i s (s.endEvent i b) := by
  unfold State.endEvent
  split
  · exact quietTest
  · exact refl _ _

theorem emptyPathReport : State.KeepsJamAt i s (s.emptyPathReport i) := by
  unfold State.emptyPathReport
  dsimp only
  split
  · exact quietTest
  · split
    · exact quietTest
    · split
      · exact quietTest.trans (settleInService _ _)
      · exact quietTest

/-! ### Jams -/

/-- The record closes and READY is entered: whatever was there before, they agree (R118). -/
theorem endRecover : State.KeepsJamAt i s (s.endRecover i) := by
  refine trans (t := (s.modStation i Station.closeJam).enterState i .ready)
    ⟨fun _ => State.jamKept_enterState ?_⟩ SameJamAt.reloadBoth.keeps
  rw [State.station_modStation_self]
  exact Station.jamOpen_closeJam _

/-- RECOVER is entered from JAMMED, with the record OPEN (R34, R116). -/
theorem exitTest : State.KeepsJamAt i s (s.exitTest i) := by
  unfold State.exitTest State.enterRecover
  dsimp only
  split
  · rename_i passes
    obtain ⟨jammed, -, -⟩ := passes
    have entered : State.KeepsJamAt i s (s.enterState i .recover) := enterState_of_eq jammed rfl
    split
    · exact entered.trans ((SameJamAt.modStation rfl rfl).keeps.trans endRecover)
    · exact entered.trans (SameJamAt.modStation rfl rfl).keeps
  · exact refl _ _

theorem reportIfEmptied (b : List Sheet) : State.KeepsJamAt i s (s.reportIfEmptied i b) := by
  unfold State.reportIfEmptied
  split
  · exact refl _ _
  · exact emptyPathReport

/-- JAMMED is entered with the record newly opened, whatever was there before (R111). -/
theorem declareNew (c : JamCause) : State.KeepsJamAt i s (s.declareNew i c) := by
  refine trans (t := ((s.openJam i c).handOver i).enterState i .jammed)
    ⟨fun _ => State.jamKept_enterState ?_⟩ (exitTest.trans (reportIfEmptied _))
  rw [SameJamAt.handOver.record, State.openJam, State.station_modStation_self]
  rfl

/-- A fold leaves the OPEN record open (R114). -/
theorem foldJam (inJam : (s.station i).state.inJam = true) : State.KeepsJamAt i s (s.foldJam i) := by
  have folded : State.SameJamAt i s ((s.handOver i).modStation i fun st =>
      { st with
        jam := st.jam.map fun r => { r with repeats := satAdd 255 r.repeats 1 }
        purgeTimer := none }) :=
    SameJamAt.handOver.trans (.modStation rfl (Station.jamOpen_of_map rfl fun _ => rfl))
  exact folded.keeps.trans ((enterState (by rw [folded.state]; exact inJam)).trans (exitTest.trans (reportIfEmptied _)))

/-- The record of an OFFLINE jam is closed in the event that opens it (R30). -/
theorem offlineJam (offline : (s.station i).state = .offline) (c : JamCause) :
    State.KeepsJamAt i s (s.offlineJam i c) := by
  refine trans (t := ((s.openJam i c).handOver i).modStation i Station.closeJam) ⟨fun _ => Station.jamKept_iff.mpr ?_⟩
    ((SameJamAt.postAt _ _).keeps.trans (reportIfEmptied _))
  rw [State.station_modStation_self, Station.jamOpen_closeJam, Station.state_closeJam, SameJamAt.handOver.state,
    State.openJam, State.station_modStation_self]
  exact congrArg StationState.inJam offline.symm

theorem declareJam (c : JamCause) : State.KeepsJamAt i s (s.declareJam i c) := by
  unfold State.declareJam
  split <;> rename_i state
  · exact offlineJam state c
  · exact foldJam (by rw [state]; rfl)
  · exact foldJam (by rw [state]; rfl)
  · exact declareNew c
  · exact declareNew c
  · exact declareNew c

theorem startStation (offline : (s.station i).state = .offline) : State.KeepsJamAt i s (s.startStation i) := by
  have started : State.KeepsJamAt i s
      (s.enterState i (if (s.station i).lines.ready.level then .ready else .notReady)) := by
    split <;> exact enterState_of_eq offline rfl
  unfold State.startStation
  dsimp only
  split
  · exact started.trans (SameJamAt.reloadBoth.keeps.trans ((declareJam _).trans (endEvent _)))
  · exact started.trans (SameJamAt.reloadBoth.keeps.trans (endEvent _))

/-- The write-off of a path at a restart opens a record and closes it at once, at a station that is neither JAMMED nor
RECOVER (R183). -/
theorem writeOff : State.KeepsJamAt i s (s.writeOff i) := by
  have written {t : State} (left : State.KeepsJamAt i s t) (service : (t.station i).state.inJam = false) :
      State.KeepsJamAt i s (if (t.station i).path = [] then t
        else ((t.openJam i .restart).modStation i Station.handOver).modStation i Station.closeJam) := by
    split
    · exact left
    · refine ⟨fun _ => Station.jamKept_iff.mpr ?_⟩
      rw [State.station_modStation_self, Station.jamOpen_closeJam, Station.state_closeJam, SameJamAt.modHandOver.state,
        State.openJam, State.station_modStation_self]
      exact service.symm
  unfold State.writeOff
  dsimp only
  by_cases jam : (s.station i).state = .jammed ∨ (s.station i).state = .recover
  · rw [if_pos jam]
    refine written enterOffline ?_
    rw [State.enterOffline, State.station_enterState_self]
    rfl
  · rw [if_neg jam]
    exact written (refl _ _) (Bool.eq_false_iff.mpr (jam ∘ StationState.inJam_iff.mp))

/-! ### Sheets -/

theorem feedSheet : State.KeepsJamAt i s (s.feedSheet i) := by
  have covered : State.KeepsJamAt i s ((s.modStation i fun st => { st with
      lastSheet := wrapInc Config.wrap16 (s.station i).lastSheet }).coverSheet i
        (wrapInc Config.wrap16 (s.station i).lastSheet) (s.station i).lines.kind) :=
    ((SameJamAt.modStation rfl rfl).trans (.coverSheet _ _)).keeps
  unfold State.feedSheet
  dsimp only
  split
  · exact covered
  · exact covered.trans (declareJam _)

theorem popSheet (e : Sheet) (rest : List Sheet) : State.KeepsJamAt i s (s.popSheet i e rest) := by
  have popped : State.KeepsJamAt i s
      ((s.modStation i fun st => { st with path := rest, meters := st.meters.deliver e }).reportDelivery i e) :=
    ((SameJamAt.modStation rfl rfl).trans (.reportDelivery e)).keeps
  unfold State.popSheet
  dsimp only
  split
  · exact popped.trans emptyPathReport
  · split
    · exact popped.trans (declareJam _)
    · exact popped

theorem strayDelivery : State.KeepsJamAt i s (s.strayDelivery i) := by
  have purged : State.KeepsJamAt i s (s.modStation i fun st =>
      { st with jam := st.jam.map fun r => { r with purged := r.purged + 1 } }) :=
    (SameJamAt.modStation rfl
      (Station.jamOpen_of_map (f := fun r => { r with purged := r.purged + 1 }) rfl fun _ => rfl)).keeps
  unfold State.strayDelivery
  dsimp only
  split
  · split
    · exact purged.trans endRecover
    · exact purged
  · exact (SameJamAt.modStation rfl rfl).keeps

theorem deliverSheet : State.KeepsJamAt i s (s.deliverSheet i) := by
  unfold State.deliverSheet
  split
  · exact popSheet _ _
  · exact strayDelivery

/-! ### Line events and expiries -/

theorem readyFell : State.KeepsJamAt i s (s.readyFell i) := by
  unfold State.readyFell
  dsimp only
  split <;> rename_i state
  · exact refl _ _
  · exact refl _ _
  · exact refl _ _
  · exact enterState_of_eq state rfl
  · split
    · exact enterState_of_eq state rfl
    · exact declareJam _
  · split
    · have stopped : State.SameJamAt i s (s.modStation i fun st => { st with purgeTimer := none }) := .modStation rfl rfl
      exact stopped.keeps.trans (enterState_of_eq (stopped.state.trans state) rfl)
    · exact declareJam _

theorem readyRose : State.KeepsJamAt i s (s.readyRose i) := by
  unfold State.readyRose
  dsimp only
  split
  · exact (activity _).trans (enterState_of_eq (m := .notReady) ‹_› rfl)
  · exact (activity _).trans exitTest

theorem jamRose : State.KeepsJamAt i s (s.jamRose i) := by
  unfold State.jamRose
  split
  · exact refl _ _
  · exact declareJam _

theorem lineEvent (n : Line) (l : Bool) : State.KeepsJamAt i s (s.lineEvent i n l) := by
  unfold State.lineEvent
  split
  · exact (activity _).trans feedSheet
  · exact (activity _).trans deliverSheet
  · exact jamRose
  · exact exitTest
  · exact readyRose
  · exact readyFell
  · exact SameJamAt.stoppedRose.keeps
  · exact refl _ _

theorem recognize (n : Line) (l : Bool) : State.KeepsJamAt i s (s.recognize i n l) := by
  have moved (k : Nat) (m : Line) (v : LineState) : State.KeepsJamAt i s ((s.reach k).setLine i m v) :=
    ((SameJamAt.reach k).trans (.setLine m v)).keeps
  unfold State.recognize
  dsimp only
  split
  · exact refl _ _
  · split
    · exact moved _ _ _
    · exact (moved _ _ _).trans ((lineEvent _ _).trans (endEvent _))

theorem transitExpires : State.KeepsJamAt i s (s.transitExpires i) := by
  unfold State.transitExpires
  split
  · exact refl _ _
  · split
    · exact (SameJamAt.reach _).keeps.trans ((declareJam _).trans (endEvent _))
    · exact refl _ _

theorem idleExpires (k : TimerId) : State.KeepsJamAt i s (s.idleExpires i k) := by
  unfold State.idleExpires
  split
  · split
    · exact ((SameJamAt.reach _).trans (.setTimer _ _)).keeps.trans quietTest
    · exact refl _ _
  · exact refl _ _

theorem purgeExpires : State.KeepsJamAt i s (s.purgeExpires i) := by
  unfold State.purgeExpires
  split
  · exact refl _ _
  · split
    · exact (SameJamAt.reach _).keeps.trans (endRecover.trans (endEvent _))
    · exact refl _ _

/-! ### Readers -/

theorem takeEnd : State.KeepsJamAt i s (s.takeEnd i) := by
  unfold State.takeEnd
  split
  · exact (SameJamAt.refuse _ _).keeps
  · split
    · exact closeRequest _
    · split
      · exact (SameJamAt.endWithoutRecord.trans ((SameJamAt.indicate _).trans .reloadBoth)).keeps
      · exact (SameJamAt.refuse _ _).keeps

theorem readerFrame (c : ReaderCondition) {f g : State → State} (hf : ∀ s, State.KeepsJamAt i s (f s))
    (hg : ∀ s, State.KeepsJamAt i s (g s)) : State.KeepsJamAt i s (s.readerFrame i c f g) := by
  have noted : State.KeepsJamAt i s (s.setReader i c) := (SameJamAt.setReader c).keeps
  unfold State.readerFrame
  dsimp only
  split
  · split
    · exact noted.trans ((activity _).trans ((hf _).trans (endEvent _)))
    · exact noted.trans (hg _)
  · exact refl _ _

theorem discardFrame (c : ReaderCondition) : State.KeepsJamAt i s (s.discardFrame i c) :=
  readerFrame c (fun _ => (SameJamAt.refuse _ _).keeps) fun _ => (SameJamAt.refuse _ _).keeps

theorem cardArrives (c : Card) : State.KeepsJamAt i s (s.cardArrives i c) := by
  unfold State.cardArrives
  split
  · split
    · exact readerFrame _ (fun _ => (SameJamAt.takeCard c).keeps) fun _ => (SameJamAt.refuse _ _).keeps
    · exact discardFrame _
  · exact refl _ _

theorem endArrives : State.KeepsJamAt i s (s.endArrives i) := by
  unfold State.endArrives
  split
  · exact readerFrame _ (fun _ => takeEnd) fun _ => (SameJamAt.refuse _ _).keeps
  · exact refl _ _

theorem malformedArrives : State.KeepsJamAt i s (s.malformedArrives i) := by
  unfold State.malformedArrives
  split
  · exact discardFrame _
  · exact refl _ _

theorem readerGap : State.KeepsJamAt i s (s.readerGap i) := by
  unfold State.readerGap
  split
  · exact discardFrame _
  · exact refl _ _

theorem readerStart : State.KeepsJamAt i s (s.readerStart i) := by
  unfold State.readerStart
  split
  · exact (SameJamAt.setReader _).keeps
  · exact refl _ _

theorem readerIdle : State.KeepsJamAt i s (s.readerIdle i) := by
  unfold State.readerIdle
  split
  · exact (SameJamAt.setReader _).keeps
  · exact refl _ _

theorem indicatorSent : State.KeepsJamAt i s (s.indicatorSent i) := by
  unfold State.indicatorSent
  split
  · exact (SameJamAt.modStation rfl rfl).keeps
  · exact refl _ _

/-! ### Requests at a station -/

theorem stopStation : State.KeepsJamAt i s (s.stopStation i) := by
  unfold State.stopStation
  split
  · exact enterOffline
  · split
    · exact (SameJamAt.endWithoutRecord.trans (.indicate _)).keeps.trans enterOffline
    · exact (SameJamAt.modSession _).keeps.trans (closeRequest _)

theorem wakeStation : State.KeepsJamAt i s (s.wakeStation i) := (activity _).trans (endEvent _)

theorem openCounter (hold ref : Nat) : State.KeepsJamAt i s (s.openCounter i hold ref) := by
  have created (t : State) (rate : Nat) (b : StationState) : State.KeepsJamAt i t
      ((((t.createSession i (.counter ref) hold rate .active).indicate i (.accept hold)).evaluatePause i
        false).endEvent i b) :=
    ((SameJamAt.createSession _ _ _ _).trans ((SameJamAt.indicate _).trans (.evaluatePause _))).keeps.trans (endEvent _)
  unfold State.openCounter
  dsimp only
  split
  · exact (enterState_of_eq (m := .save) (n := .ready) ‹_› rfl).trans (created _ _ _)
  · exact created _ _ _

end State.KeepsJamAt

end Sys2Proof.Machine
end

section
/-! What requests, the restart and every command keep of every station's jam record (O57). -/

namespace Sys2Proof.Machine

/-- An operation that keeps every station's jam record. -/
structure State.KeepsJams (s t : State) : Prop where
  jams : s.JamsKept → t.JamsKept

namespace State.KeepsJams

variable {s t u : State}

theorem refl (s : State) : s.KeepsJams s := ⟨id⟩

theorem trans (h : s.KeepsJams t) (k : t.KeepsJams u) : s.KeepsJams u := ⟨k.jams ∘ h.jams⟩

theorem ofStations (same : t.stations = s.stations) : s.KeepsJams t :=
  ⟨fun kept i => (State.SameJamAt.ofStations same).keeps.jam (kept i)⟩

/-- An event at one station. -/
theorem ofLocal {i : StationId} (alone : State.Local i s t) (here : State.KeepsJamAt i s t) : s.KeepsJams t := by
  refine ⟨fun kept j => ?_⟩
  by_cases same : j = i
  · exact same ▸ here.jam (kept i)
  · rw [alone.others j same]
    exact kept j

/-- A change of every station that leaves each one's state and record. -/
theorem modStations {f : Station → Station} (state : ∀ st : Station, (f st).state = st.state)
    (record : ∀ st : Station, (f st).jamOpen = st.jamOpen) : s.KeepsJams (s.modStations f) := by
  refine ⟨fun kept i => (State.SameJamAt.keeps (i := i) ⟨?_, ?_⟩).jam (kept i)⟩ <;> rw [State.station_modStations]
  · exact state _
  · exact record _

/-! ### Requests -/

theorem ownClearAll : s.KeepsJams (s.ownClearAll).1 := by
  unfold State.ownClearAll
  split
  · exact trans (t := { s with slots := [], lastCorrected := none, lastFault := none }) (ofStations rfl)
      (modStations (fun _ => rfl) fun _ => rfl)
  · exact refl s

theorem ownSetProfile (n : Byte) (p : ProfileFields) : s.KeepsJams (s.ownSetProfile n p).1 := by
  unfold State.ownSetProfile
  split
  · exact refl s
  · dsimp only
    split
    · exact refl s
    · split
      · exact refl s
      · split
        · exact ofLocal (.trans (.modStation _) (.declareJam _))
            (.trans (State.SameJamAt.modStation rfl rfl).keeps (.declareJam _))
        · dsimp only
          exact ofLocal (.modStation _) (State.SameJamAt.modStation rfl rfl).keeps

theorem ownStartStation (n : Byte) : s.KeepsJams (s.ownStartStation n).1 := by
  unfold State.ownStartStation
  split
  · exact refl s
  · split
    · exact refl s
    · rename_i offline
      exact ofLocal .startStation (.startStation (not_not.mp offline))

theorem ownStopStation (n : Byte) : s.KeepsJams (s.ownStopStation n).1 := by
  unfold State.ownStopStation
  split
  · exact refl s
  · split
    · exact refl s
    · exact ofLocal (s.local_stopStation _) .stopStation

theorem ownWakeStation (n : Byte) : s.KeepsJams (s.ownWakeStation n).1 := by
  unfold State.ownWakeStation
  split
  · exact refl s
  · split
    · exact refl s
    · exact ofLocal (.trans (.activity _) (.endEvent _)) .wakeStation

theorem ownOpenSession (n : Byte) (a h : BitVec 32) : s.KeepsJams (s.ownOpenSession n a h).1 := by
  unfold State.ownOpenSession
  split
  · exact refl s
  · dsimp only
    split
    · exact refl s
    · split
      · exact refl s
      · split
        · exact refl s
        · exact ofLocal (s.local_openCounter _ _ _) (.openCounter _ _)

theorem ownEndSession (n : Byte) : s.KeepsJams (s.ownEndSession n).1 := by
  unfold State.ownEndSession
  split
  · exact refl s
  · split
    · exact refl s
    · split
      · exact ofLocal (.closeRequest _) (.closeRequest _)
      · split <;> exact refl s

theorem ownAuthResult (n : Byte) (r : BitVec 16) (a : BitVec 32) : s.KeepsJams (s.ownAuthResult n r a).1 := by
  unfold State.ownAuthResult
  split
  · exact refl s
  · split
    · exact refl s
    · dsimp only
      split
      · exact refl s
      · split
        · split
          · exact ofLocal (.trans .endWithoutRecord (.trans (.refuse _ _) .reloadBoth))
              State.SameJamAt.declineAuth.keeps
          · exact ofLocal (.trans (.modStation _) (.trans .reloadBoth (.trans (.indicate _) (.evaluatePause _))))
              (State.SameJamAt.acceptAuth _).keeps
        · exact refl s

/-- What an owning block keeps while it answers a request (R164, step 5). -/
theorem serve (r : Instr) : s.KeepsJams (s.serve r).1 := by
  have still {u : State} (same : u.stations = s.stations) : s.KeepsJams u := ofStations same
  cases r with
  | getStatus => exact still rfl
  | turnPeriod => exact still rfl
  | setTime x => exact still (State.stations_testAlarm _)
  | setPeriodAlarm p x => exact still (State.stations_ownSetPeriodAlarm p x)
  | setDevice mask => exact still (State.stations_ownSetDevice mask)
  | clearAll => exact ownClearAll
  | takeNotice => exact still State.stations_ownTakeNotice
  | setProfile n p => exact ownSetProfile n p
  | readProfile n => exact still (State.stations_ownReadProfile n)
  | startStation n => exact ownStartStation n
  | stopStation n => exact ownStopStation n
  | wakeStation n => exact ownWakeStation n
  | readStation n => exact still (State.stations_ownReadStation n)
  | readJam n => exact still (State.stations_ownReadJam n)
  | readMeters n => exact still (State.stations_ownReadMeters n)
  | openSession n a h => exact ownOpenSession n a h
  | endSession n => exact ownEndSession n
  | readSession n => exact still (State.stations_ownReadSession n)
  | readAuth n => exact still (State.stations_ownReadAuth n)
  | authResult n r a => exact ownAuthResult n r a
  | loadPlan n f => exact still (State.stations_ownLoadPlan n f)
  | amendPlan n m v => exact still (State.stations_ownAmendPlan n m v)
  | readPlan n => exact still (State.stations_ownReadPlan n)
  | quote n r k t => exact still (State.stations_ownQuote n r k t)
  | loadAccount sl id k st rt fg => exact still (State.stations_ownLoadAccount sl id k st rt fg)
  | readAccount n => exact still (State.stations_ownReadAccount n)
  | findAccount n => exact still (State.stations_ownFindAccount n)
  | topup n a => exact still (State.stations_ownTopup n a)
  | setLimit n a => exact still (State.stations_ownSetLimit n a)
  | setAccountState n a => exact still (State.stations_ownSetAccountState n a)
  | deleteAccount n => exact still (State.stations_ownDeleteAccount n)
  | readJournal => exact still State.stations_ownReadJournal
  | releaseJournal n => exact still (State.stations_ownReleaseJournal n)
  | _ => exact refl s

/-! ### The host line -/

theorem answer (kind : Byte) (r : Instr) : s.KeepsJams (s.answer kind r) := by
  refine trans (t := (s.perform r).1) ?_ (ofStations rfl)
  unfold State.perform
  split
  · exact refl s
  · exact serve r

theorem takeFrame (f : HostFrame) : s.KeepsJams (s.takeFrame f) := by
  unfold State.takeFrame
  split
  · exact ofStations rfl
  · split
    · exact ofStations rfl
    · exact ofStations rfl
    · exact answer _ _

theorem takeRequest : s.KeepsJams s.takeRequest := by
  unfold State.takeRequest
  split
  · split
    · exact refl s
    · rename_i f rest _
      exact trans (t := { s with receiveQueue := rest }) (ofStations rfl) (takeFrame f)
  · exact refl s

theorem enqueue (f : HostFrame) : s.KeepsJams (s.enqueue f) := by
  unfold State.enqueue
  split <;> exact ofStations rfl

theorem frameCompletes (kind : Byte) (body : List Byte) (check : BitVec 16) :
    s.KeepsJams (s.frameCompletes kind body check) := by
  have hunting : s.KeepsJams { s with hostCondition := .hunting } := ofStations rfl
  unfold State.frameCompletes
  split
  · dsimp only
    split
    · exact hunting.trans (enqueue _)
    · exact hunting
  · exact refl s

theorem hostRequest (kind : Byte) (r : Instr) : s.KeepsJams (s.hostRequest kind r) := by
  have hunting : s.KeepsJams { s with hostCondition := .hunting } := ofStations rfl
  unfold State.hostRequest
  split
  · dsimp only
    split
    · split
      · exact hunting.trans (answer _ _)
      · exact hunting.trans (ofStations rfl)
    · exact hunting.trans (enqueue _)
  · exact refl s

theorem gapPasses : s.KeepsJams s.gapPasses := by
  unfold State.gapPasses
  split <;> exact ofStations rfl

theorem startByte : s.KeepsJams s.startByte := by
  unfold State.startByte
  split <;> exact ofStations rfl

theorem badLength (length : Byte) : s.KeepsJams (s.badLength length) := by
  have hunting : s.KeepsJams { s with hostCondition := .hunting } := ofStations rfl
  unfold State.badLength
  split
  · dsimp only
    split
    · exact hunting.trans startByte
    · exact hunting
  · exact refl s

/-! ### SHUTDOWN and the start of a restart -/

theorem enterShutdown : s.KeepsJams s.enterShutdown :=
  trans (t := { s with device := .shutdown, scrubDue := none }) (ofStations rfl)
    ((modStations (f := Station.shutDown) (fun _ => rfl) fun _ => rfl).trans (ofStations rfl))

theorem loseVolatile : s.KeepsJams s.loseVolatile := by
  unfold State.loseVolatile
  refine trans ?_ (modStations (fun _ => rfl) fun _ => rfl)
  exact ofStations rfl

theorem beginRestart (c : RestartCause) : s.KeepsJams (s.beginRestart c) := by
  unfold State.beginRestart
  refine trans ?_ (modStations (fun _ => rfl) fun _ => rfl)
  exact ofStations rfl

end State.KeepsJams

/-! ### Work at every station in turn -/

section Turns

variable {f : State → StationId → State}

/-- Work at other stations leaves station `i`. -/
theorem State.station_foldl_of_not_mem (alone : ∀ s j, State.Local j s (f s j)) {i : StationId} :
    ∀ {l : List StationId}, i ∉ l → ∀ s : State, (l.foldl f s).station i = s.station i
  | [], _, _ => rfl
  | j :: l, absent, s => by
      obtain ⟨other, later⟩ := List.ne_and_not_mem_of_not_mem_cons absent
      exact (State.station_foldl_of_not_mem alone later (f s j)).trans ((alone s j).others i other)

/-- Each station of the list is worked at once, and until then it is as it was. -/
theorem State.station_foldl_of_mem (alone : ∀ s j, State.Local j s (f s j)) {i : StationId} :
    ∀ {l : List StationId}, l.Nodup → i ∈ l → ∀ s : State,
      ∃ u : State, u.station i = s.station i ∧ (l.foldl f s).station i = (f u i).station i
  | j :: l, once, mem, s => by
      obtain ⟨absent, once⟩ := List.nodup_cons.mp once
      by_cases now : i = j
      · subst now
        exact ⟨s, rfl, State.station_foldl_of_not_mem alone absent (f s i)⟩
      · obtain ⟨u, same, worked⟩ :=
          State.station_foldl_of_mem alone once (List.mem_of_ne_of_mem now mem) (f s j)
        exact ⟨u, same.trans ((alone s j).others i now), worked⟩

theorem State.station_foldl_allStations (alone : ∀ s j, State.Local j s (f s j)) (s : State) (i : StationId) :
    ∃ u : State, u.station i = s.station i ∧ (allStations.foldl f s).station i = (f u i).station i :=
  State.station_foldl_of_mem alone (by decide) (by revert i; decide) s

end Turns

/-- Step 7 takes every station OFFLINE with no OPEN record (R186). -/
theorem State.offline_foldl_restartOffline {s : State} (kept : s.JamsKept) (i : StationId) :
    ((allStations.foldl State.restartOffline s).station i).state = .offline ∧
      ((allStations.foldl State.restartOffline s).station i).JamKept := by
  obtain ⟨u, same, worked⟩ := State.station_foldl_allStations (f := State.restartOffline)
    (fun _ _ => .trans (.modStation _) (.postAt _ _)) s i
  rw [worked, State.restartOffline, State.station_postAt, State.station_modStation_self, same]
  exact ⟨rfl, Station.jamKept_iff.mpr (Station.jamOpen_leaveService (kept i))⟩

/-- The auto-start stations are started in turn, each from OFFLINE (R186). -/
theorem State.jamsKept_foldl_startStation {s : State} (kept : s.JamsKept)
    (offline : ∀ i, (s.station i).state = .offline) :
    (allStations.foldl (fun acc i => if (acc.station i).profile.autoStart then acc.startStation i else acc)
      s).JamsKept := by
  intro i
  obtain ⟨u, same, worked⟩ := State.station_foldl_allStations
    (f := fun acc i => if (acc.station i).profile.autoStart then acc.startStation i else acc) (fun s j => by
      split
      · exact .startStation
      · exact .refl _ _) s i
  have here : (u.station i).JamKept := by
    rw [same]
    exact kept i
  rw [worked]
  split
  · exact (State.KeepsJamAt.startStation (same ▸ offline i)).jam here
  · exact here

namespace State.KeepsJams

variable {s t u : State}

/-! ### The pieces of a restart -/

theorem restartStations : s.KeepsJams s.restartStations := by
  have served (t : State) : t.KeepsJams { t with
      device := .running, restart := none, scrubDue := some (t.now + Config.scrubPeriod) } := ofStations rfl
  have watching (t : State) (now : Nat) : t.KeepsJams (t.modStations fun st =>
      { st with lines := st.lines.map (LineState.restart now) }) := modStations (fun _ => rfl) fun _ => rfl
  have low (t : State) : t.KeepsJams (if t.freeRecords ≤ Config.journalLow then t.post .journalLow 0 else t) := by
    split <;> exact ofStations rfl
  have shut (t : State) : t.KeepsJams (if t.pfail then t.enterShutdown else t) := by
    split
    · exact enterShutdown
    · exact refl t
  unfold State.restartStations
  extract_lets off begun running watched tested posted
  have started : s.KeepsJams begun := ⟨fun kept =>
    State.jamsKept_foldl_startStation (fun i => (State.offline_foldl_restartOffline kept i).2)
      fun i => (State.offline_foldl_restartOffline kept i).1⟩
  exact started.trans ((served begun).trans ((watching running running.now).trans
    ((ofStations watched.stations_testAlarm).trans ((low tested).trans (shut posted)))))

theorem restartAuthorization (i : StationId) : s.KeepsJams (s.restartAuthorization i) := by
  unfold State.restartAuthorization
  split
  · split
    · exact ofLocal .endWithoutRecord State.SameJamAt.endWithoutRecord.keeps
    · exact refl s
  · exact refl s

theorem writeOff (i : StationId) : s.KeepsJams (s.writeOff i) := by
  refine ofLocal ?_ .writeOff
  have written {t : State} (left : State.Local i s t) : State.Local i s (if (t.station i).path = [] then t
      else ((t.openJam i .restart).modStation i Station.handOver).modStation i Station.closeJam) := by
    split
    · exact left
    · exact left.trans (.trans (.openJam _) (.trans (.modStation _) (.modStation _)))
  refine written ?_
  split
  · exact .enterOffline
  · exact .refl _ _

theorem restartSettle (r : Restart) (i : StationId) : s.KeepsJams (s.restartSettle r i).1 := by
  unfold State.restartSettle
  split
  · exact refl s
  · exact ofLocal (.settle _ _) (State.SameJamAt.settle _ _).keeps

/-- After loss of the retained domain every station is OFFLINE and holds no record (R181). -/
theorem loseRetained : s.KeepsJams s.loseRetained := by
  refine ⟨fun _ i => ?_⟩
  rw [show s.loseRetained.station i = (s.station i).loseRetained from State.station_modStations _ _ _]
  exact Station.jamKept_iff.mpr rfl

theorem makePiece (r : Restart) (p : Piece) : s.KeepsJams (s.makePiece r p) := by
  have noted (t : State) (q : Option Restart) : t.KeepsJams { t with restart := q } := ofStations rfl
  cases p with
  | validity =>
      show s.KeepsJams (if s.marker then _ else _)
      split
      · exact noted _ _
      · exact loseRetained.trans (noted _ _)
  | endAuthorization i => exact (restartAuthorization i).trans (noted _ _)
  | writeOff i => exact (writeOff i).trans (noted _ _)
  | settle i => exact (restartSettle r i).trans (noted _ _)
  | record => exact ofStations (State.stations_writeRestart _ _)
  | notices => exact ofStations (State.stations_restartNotices r)
  | stations => exact restartStations

theorem restartStep : s.KeepsJams s.restartStep := by
  unfold State.restartStep
  split
  · exact refl s
  · split
    · exact ofStations rfl
    · exact makePiece _ _

theorem restartSteps : ∀ (n : Nat) (s : State), s.KeepsJams (State.restartSteps n s)
  | 0, s => refl s
  | n + 1, s => restartStep.trans (restartSteps n s.restartStep)

theorem doRestart (c : RestartCause) (n : Option Nat) : s.KeepsJams (s.doRestart c n) :=
  (beginRestart c).trans (restartSteps _ _)

theorem replyEnds (n : Option Nat) : s.KeepsJams (s.replyEnds n) := by
  have ended : s.KeepsJams { s with reply := none } := ofStations rfl
  unfold State.replyEnds
  split
  · exact refl s
  · split
    · dsimp only
      split
      · exact ended.trans (doRestart _ _)
      · exact ended
    · exact refl s

/-! ### The supply and the time base -/

theorem pfailRises : s.KeepsJams s.pfailRises := by
  have recognized : s.KeepsJams { s with pfail := true } := ofStations rfl
  unfold State.pfailRises
  split
  · dsimp only
    split
    · exact recognized.trans enterShutdown
    · exact recognized
  · exact refl s

theorem supplyFails (v : Bool) : s.KeepsJams (s.supplyFails v) := loseVolatile.trans (ofStations rfl)

theorem supplyReturns (n : Option Nat) : s.KeepsJams (s.supplyReturns n) := by
  have supplied : s.KeepsJams { s with
      mainSupply := true, pfail := false, cameUp := s.cameUp || !s.mainSupply } := ofStations rfl
  unfold State.supplyReturns
  dsimp only
  split
  · exact supplied
  · split
    · exact supplied
    · split
      · exact supplied.trans (doRestart _ _)
      · exact supplied

theorem resetAsserts : s.KeepsJams s.resetAsserts := loseVolatile.trans (ofStations rfl)

theorem resetDeasserts (n : Option Nat) : s.KeepsJams (s.resetDeasserts n) := by
  have released : s.KeepsJams { s with resetPin := false } := ofStations rfl
  unfold State.resetDeasserts
  dsimp only
  split
  · exact released
  · split
    · split
      · exact released
      · exact released.trans (doRestart _ _)
    · exact released.trans (doRestart _ _)

theorem secondPasses : s.KeepsJams s.secondPasses := by
  unfold State.secondPasses
  split
  · dsimp only
    split
    · exact ofStations (State.stations_testAlarm _)
    · exact ofStations rfl
  · exact refl s

theorem alarmFalls : s.KeepsJams s.alarmFalls := by
  unfold State.alarmFalls
  split
  · exact ofStations s.stations_testAlarm
  · exact refl s

theorem scrub : s.KeepsJams s.scrub := by
  unfold State.scrub
  split
  · exact ofStations (State.stations_testedRead _ _)
  · exact refl s

/-! ### Every command and every step -/

/-- A command whose meaning is the part `u`. -/
theorem ofNext (k : s.KeepsJams u) (h : (.next u : Host.Outcome State Fault Refusal) = .next t) : s.KeepsJams t := by
  cases h
  exact k

theorem recognize (i : StationId) (n : Line) (l : Bool) : s.KeepsJams (s.recognize i n l) :=
  ofLocal (.recognize n l) (.recognize n l)

/-- A request reaches the host line; every other command is an event of the lines, timers, readers or supply. -/
theorem exec {c : Instr} (h : Sys2Proof.Machine.exec c s = .next t) : s.KeepsJams t := by
  cases code : requestCode c with
  | some kind =>
      rw [exec_request code] at h
      exact ofNext (hostRequest _ _) h
  | none =>
      cases c with
      | hostFrameComplete kind body check => exact ofNext (frameCompletes kind body check) h
      | hostFrameGapTimeout => exact ofNext gapPasses h
      | requestTaken => exact ofNext takeRequest h
      | replySent n => exact ofNext (replyEnds n) h
      | rawLevelChange i m v => exact ofNext (ofLocal (i := i) (.rawChange m v) (SameJamAt.setLine _ _).keeps) h
      | lineLevelRecognized i m v => exact ofNext (recognize i m v) h
      | feed i => exact ofNext (recognize i .feed true) h
      | delivery i => exact ofNext (recognize i .deliver true) h
      | jamRise i => exact ofNext (recognize i .jam true) h
      | jamFall i => exact ofNext (recognize i .jam false) h
      | readyRise i => exact ofNext (recognize i .ready true) h
      | readyFall i => exact ofNext (recognize i .ready false) h
      | stoppedRise i => exact ofNext (recognize i .stopped true) h
      | transitExpiry i => exact ofNext (ofLocal (i := i) .transitExpires .transitExpires) h
      | idleTimerExpiry i k => exact ofNext (ofLocal (i := i) (.idleExpires k) (.idleExpires k)) h
      | authTimerExpiry i => exact ofNext (ofLocal (i := i) .authExpires SameJamAt.authExpires.keeps) h
      | pauseAckExpiry i => exact ofNext (ofLocal (i := i) .pauseAckExpires SameJamAt.pauseAckExpires.keeps) h
      | purgeWindowExpiry i => exact ofNext (ofLocal (i := i) .purgeExpires .purgeExpires) h
      | scrubVisit => exact ofNext scrub h
      | timeBaseTick => exact ofNext secondPasses h
      | periodAlarmDue => exact ofNext alarmFalls h
      | cardFrame i card => exact ofNext (ofLocal (i := i) (.cardArrives card) (.cardArrives card)) h
      | endFrame i => exact ofNext (ofLocal (i := i) .endArrives .endArrives) h
      | malformedFrame i => exact ofNext (ofLocal (i := i) .malformedArrives .malformedArrives) h
      | readerGapTimeout i => exact ofNext (ofLocal (i := i) .readerGap .readerGap) h
      | indicatorFrameSent i => exact ofNext (ofLocal (i := i) .indicatorSent .indicatorSent) h
      | pfailAsserted => exact ofNext pfailRises h
      | supplyFailure v => exact ofNext (supplyFails v) h
      | supplyReturn n => exact ofNext (supplyReturns n) h
      | resetPinAsserted => exact ofNext resetAsserts h
      | resetPinDeasserted n => exact ofNext (resetDeasserts n) h
      | hostStartByte => exact ofNext startByte h
      | hostBadLengthByte n => exact ofNext (badLength n) h
      | readerStartByte i => exact ofNext (ofLocal (i := i) .readerStart .readerStart) h
      | readerIdleResume i => exact ofNext (ofLocal (i := i) .readerIdle .readerIdle) h
      | _ => exact nomatch code

theorem idle (h : s.idle = .next t) : s.KeepsJams t := by
  unfold State.idle at h
  split at h
  · exact ofNext restartStep h
  · split at h
    · exact exec h
    · exact ofNext (u := s.tick) (ofStations rfl) h

theorem step (h : Sys2Proof.Machine.step s = .next t) : s.KeepsJams t := by
  unfold Sys2Proof.Machine.step at h
  split at h
  · rename_i c rest _
    exact trans (t := { s with pending := rest }) (ofStations rfl) (exec h)
  · exact idle h

end State.KeepsJams

/-- Settles O57: JAMMED is entered with a record OPEN, RECOVER only from JAMMED, and both are left through a closed record;
every other operation at a station leaves its state and record, and a step is a composition of these. -/
theorem stepKeepsJamRecords : Obligations.StepKeepsJamRecords := fun _ _ kept h => (State.KeepsJams.step h).jams kept

end Sys2Proof.Machine
end

section
/-! The account table read by slot number (R124, R125): what the directory finds, and the two invariants of O56 under
each way to write the table. -/

namespace Sys2Proof.Machine

/-! ### Slots and the directory -/

/-- In a table in its canonical form a slot is listed exactly as it reads. -/
theorem getSlot_eq_some_iff {n : Nat} {x : Slot} : ∀ {l : List (Nat × Slot)}, (l.map Prod.fst).Pairwise (· < ·) →
    (getSlot n l = some x ↔ (n, x) ∈ l)
  | [], _ => by simp [getSlot]
  | (m, y) :: rest, rising => by
      obtain ⟨above, rising⟩ := List.pairwise_cons.mp rising
      by_cases here : m = n
      · subst here
        have absent : (m, x) ∉ rest := fun listed =>
          Nat.lt_irrefl m (above m (List.mem_map_of_mem (f := Prod.fst) listed))
        simp [getSlot, absent, eq_comm]
      · simp [getSlot, here, Ne.symm here, getSlot_eq_some_iff (x := x) rising]

/-- The directory gives a slot that holds the identity. -/
theorem mem_of_findIdentity {identity n : Nat} : ∀ {l : List (Nat × Slot)}, findIdentity identity l = some n →
    ∃ x, (n, x) ∈ l ∧ x.identity = identity
  | (m, y) :: rest, found => by
      unfold findIdentity at found
      split at found
      · cases found
        exact ⟨y, List.mem_cons_self, ‹_›⟩
      · obtain ⟨x, listed, holds⟩ := mem_of_findIdentity found
        exact ⟨x, List.mem_cons_of_mem _ listed, holds⟩

theorem findIdentity_eq_none_iff {identity : Nat} : ∀ {l : List (Nat × Slot)},
    findIdentity identity l = none ↔ ∀ p ∈ l, p.2.identity ≠ identity
  | [] => by simp [findIdentity]
  | (m, y) :: rest => by
      unfold findIdentity
      split
      · simp_all
      · simp_all [findIdentity_eq_none_iff (l := rest)]

theorem freeSlot_sublist (n : Nat) : ∀ l : List (Nat × Slot), (freeSlot n l).Sublist l
  | [] => .refl _
  | (m, y) :: rest => by
      unfold freeSlot
      split
      · exact List.sublist_cons_self _ _
      · exact (freeSlot_sublist n rest).cons_cons _

/-- What a slot reads as after damage it was before, but for the damage (R132). -/
theorem getSlot_harmSlots {d : Option (Nat × Bool)} {n : Nat} {y : Slot} : ∀ {l : List (Nat × Slot)},
    getSlot n (harmSlots d l) = some y → ∃ x, getSlot n l = some x ∧ ∃ e, y = { x with damage := e }
  | (m, x) :: rest, read => by
      unfold harmSlots getSlot at read
      split at read
      · refine ⟨x, by simp [getSlot, *], ?_⟩
        split at read
        · exact ⟨x.damage, (Option.some.inj read).symm⟩
        · split at read
          · exact ⟨_, (Option.some.inj read).symm⟩
          · exact ⟨x.damage, (Option.some.inj read).symm⟩
      · rename_i other
        obtain ⟨x', before, after⟩ := getSlot_harmSlots read
        exact ⟨x', by rw [getSlot, if_neg other, before], after⟩

/-- The table `l` is in its canonical form, with no identity in two slots. -/
structure TableKept (l : List (Nat × Slot)) : Prop where
  wf : slotsWf l = true
  distinct : l.Pairwise fun p q => p.2.identity ≠ q.2.identity

namespace TableKept

variable {l : List (Nat × Slot)} {n m : Nat} {x y : Slot}

theorem listed_iff (h : TableKept l) : getSlot n l = some x ↔ (n, x) ∈ l := getSlot_eq_some_iff (slotsWf_iff.mp h.wf).1

/-- Two slots that hold one identity are one slot. -/
theorem number_eq (h : TableKept l) (hx : getSlot m l = some x) (hy : getSlot n l = some y)
    (same : x.identity = y.identity) : m = n := by
  by_contra ne
  have : Std.Symm fun p q : Nat × Slot => p.2.identity ≠ q.2.identity := ⟨fun _ _ => Ne.symm⟩
  exact h.distinct.forall (h.listed_iff.mp hx) (h.listed_iff.mp hy) (fun eq => ne (congrArg Prod.fst eq)) same

/-- A canonical table whose slots are told apart by their identities. -/
theorem of_number_eq (wf : slotsWf l = true)
    (once : ∀ m n x y, getSlot m l = some x → getSlot n l = some y → x.identity = y.identity → m = n) :
    TableKept l := by
  have rising := (slotsWf_iff.mp wf).1
  have nodup : l.Nodup := List.Nodup.of_map Prod.fst (rising.imp Nat.ne_of_lt)
  refine ⟨wf, nodup.pairwise_of_forall_ne fun p hp q hq ne same => ne ?_⟩
  have number := once p.1 q.1 p.2 q.2 ((getSlot_eq_some_iff rising).mpr hp) ((getSlot_eq_some_iff rising).mpr hq) same
  have read := (getSlot_eq_some_iff rising).mpr hq
  rw [← number, (getSlot_eq_some_iff rising).mpr hp] at read
  exact Prod.ext number (Option.some.inj read)

/-- The directory gives the slot that holds the identity. -/
theorem findIdentity_eq_some_iff (h : TableKept l) {identity : Nat} :
    findIdentity identity l = some n ↔ ∃ x, getSlot n l = some x ∧ x.identity = identity := by
  constructor
  · intro found
    obtain ⟨x, listed, holds⟩ := mem_of_findIdentity found
    exact ⟨x, h.listed_iff.mpr listed, holds⟩
  · rintro ⟨x, read, holds⟩
    cases found : findIdentity identity l with
    | none => exact absurd holds (findIdentity_eq_none_iff.mp found _ (h.listed_iff.mp read))
    | some m =>
        obtain ⟨y, listed, holds'⟩ := mem_of_findIdentity found
        rw [h.number_eq (h.listed_iff.mpr listed) read (holds'.trans holds.symm)]

/-! ### Writes of the table -/

/-- A slot may be written with an identity that no other slot holds. -/
theorem put (h : TableKept l) (valid : n < Config.slotCount)
    (fresh : ∀ m x, getSlot m l = some x → x.identity = y.identity → m = n) : TableKept (putSlot n y l) := by
  refine of_number_eq (slotsWf_putSlot valid h.wf) fun m k x z hx hz same => ?_
  by_cases first : m = n <;> by_cases second : k = n
  · rw [first, second]
  · rw [first, getSlot_putSlot_self] at hx
    cases hx
    rw [getSlot_putSlot_of_ne second] at hz
    exact absurd (fresh k z hz same.symm) second
  · rw [second, getSlot_putSlot_self] at hz
    cases hz
    rw [getSlot_putSlot_of_ne first] at hx
    exact absurd (fresh m x hx same) first
  · rw [getSlot_putSlot_of_ne first] at hx
    rw [getSlot_putSlot_of_ne second] at hz
    exact h.number_eq hx hz same

/-- A slot may be written again with the identity it holds. -/
theorem rewrite (h : TableKept l) (found : getSlot n l = some x) (same : y.identity = x.identity) :
    TableKept (putSlot n y l) :=
  h.put (lt_of_getSlot h.wf found) fun _ _ hz holds => h.number_eq hz found (holds.trans same)

theorem free (h : TableKept l) (n : Nat) : TableKept (freeSlot n l) := by
  refine ⟨slotsWf_freeSlot h.wf, h.distinct.sublist ?_⟩
  exact freeSlot_sublist n l

theorem harm (h : TableKept l) (d : Option (Nat × Bool)) : TableKept (harmSlots d l) := by
  refine of_number_eq (slotsWf_harmSlots d h.wf) fun m k x y hx hy same => ?_
  obtain ⟨x', hx', d', rfl⟩ := getSlot_harmSlots hx
  obtain ⟨y', hy', e', rfl⟩ := getSlot_harmSlots hy
  exact h.number_eq hx' hy' same

theorem nil : TableKept [] := ⟨rfl, .nil⟩

/-- A freed slot reads as FREE (R141). -/
theorem getSlot_free (h : TableKept l) (n : Nat) : getSlot n (freeSlot n l) = none := by
  cases l with
  | nil => rfl
  | cons p rest =>
      have above : slotsAbove p.1 rest := slotsAbove_of_pairwise (slotsWf_iff.mp h.wf).1
      unfold freeSlot
      split
      · rename_i here
        exact getSlot_of_above (Nat.le_of_eq here) above
      · rename_i other
        rw [getSlot, if_neg (Ne.symm other)]
        exact getSlot_freeSlot_self n above

end TableKept

end Sys2Proof.Machine
end

section
/-! The books (R126, R153): what the account table and the journal have to agree with, and the ways in which a command
posts to them. Everything else of the part is left out, so that an invariant of the books is proved once for each
posting. -/

namespace Sys2Proof.Machine

/-! ### The books of a part -/

/-- What a session has at stake: its payment, its hold, and whether it is AUTHORIZING or SUSPENDED from it. -/
structure Stake where
  payment : Payment
  hold : Nat
  waits : Bool

def Session.stake (x : Session) : Stake where
  payment := x.payment
  hold := x.hold
  waits := decide (x.phase = .authorizing)

/-- The stakes of the stations' sessions, the account table, the journal and its reservations. -/
structure Books where
  stakes : StationId → Option Stake
  slots : List (Nat × Slot)
  journal : List Record
  reservations : Nat

def State.books (s : State) : Books where
  stakes := fun i => (s.station i).session.map Session.stake
  slots := s.slots
  journal := s.journal
  reservations := s.reservations

/-- The weight `w` summed over the sessions. -/
def Books.total (b : Books) (w : Stake → Nat) : Nat := ∑ i, (b.stakes i).elim 0 w

/-- The weight `w`, counted for the sessions bound to slot `n` only. -/
def Stake.on (n : Nat) (w : Stake → Nat) (k : Stake) : Nat := if k.payment = .campus n then w k else 0

/-- The sum of the holds of the sessions bound to slot `n`. -/
def Books.held (b : Books) (n : Nat) : Nat := b.total (Stake.on n Stake.hold)

/-- The number of the sessions bound to slot `n`. -/
def Books.bound (b : Books) (n : Nat) : Nat := b.total (Stake.on n fun _ => 1)

/-- The books with another stake at station `i`. -/
def Books.assign (b : Books) (i : StationId) (k : Option Stake) : Books :=
  { b with stakes := Function.update b.stakes i k }

/-! ### The books and the part -/

/-- A sum over sessions of the table, station by station. -/
theorem State.sum_sessions (s : State) (p : Session → Bool) (w : Session → Nat) :
    (((s.sessions.map Prod.snd).filter p).map w).sum =
      ∑ i, (s.station i).session.elim 0 fun x => if p x then w x else 0 := by
  have each (l : List StationId) :
      ((((l.filterMap fun i => (s.station i).session.map fun x => (i, x)).map Prod.snd).filter p).map w).sum =
        (l.map fun i => (s.station i).session.elim 0 fun x => if p x then w x else 0).sum := by
    induction l with
    | nil => rfl
    | cons i l ih =>
        rw [List.map_cons, List.sum_cons, ← ih]
        cases present : (s.station i).session with
        | none => simp [present]
        | some x => by_cases here : p x = true <;> simp [present, here]
  exact (each allStations).trans (Fin.sum_univ_def _).symm

theorem State.held_books (s : State) (n : Nat) : s.books.held n = s.boundHold n := by
  rw [State.boundHold, State.bound, State.sum_sessions, Books.held, Books.total]
  refine Finset.sum_congr rfl fun i _ => ?_
  cases present : (s.station i).session <;> simp [State.books, present, Stake.on, Session.stake, Session.boundTo]

/-- The number of sessions of one kind, station by station. -/
theorem State.length_sessions (s : State) (p : Session → Bool) :
    ((s.sessions.map Prod.snd).filter p).length = ∑ i, (s.station i).session.elim 0 fun x => if p x then 1 else 0 := by
  rw [← State.sum_sessions]
  simp

theorem State.bound_books (s : State) (n : Nat) : s.books.bound n = (s.bound n).length := by
  rw [State.bound, State.length_sessions, Books.bound, Books.total]
  refine Finset.sum_congr rfl fun i _ => ?_
  cases present : (s.station i).session <;> simp [State.books, present, Stake.on, Session.stake, Session.boundTo]

theorem State.total_books (s : State) : s.books.total (fun _ => 1) = s.sessions.length := by
  rw [← List.length_map (f := Prod.snd), ← List.filter_true (s.sessions.map Prod.snd), State.length_sessions]
  refine Finset.sum_congr rfl fun i _ => ?_
  cases present : (s.station i).session <;> simp [State.books, present]

/-! ### One stake changed -/

/-- A total after the stake at station `i` has changed. -/
theorem Books.total_assign (b : Books) (i : StationId) (k : Option Stake) (w : Stake → Nat) :
    (b.assign i k).total w + (b.stakes i).elim 0 w = b.total w + k.elim 0 w := by
  have after : (fun j => ((b.assign i k).stakes j).elim 0 w) =
      Function.update (fun j => (b.stakes j).elim 0 w) i (k.elim 0 w) := by
    funext j
    by_cases here : j = i
    · subst here
      simp [Books.assign]
    · simp [Books.assign, here]
  rw [Books.total, Books.total, after, Finset.sum_update_of_mem (Finset.mem_univ i),
    ← Finset.add_sum_erase _ _ (Finset.mem_univ i), ← Finset.erase_eq]
  omega

/-- A change between stakes that are not bound to slot `n` leaves what slot `n` is counted for. -/
theorem Books.total_assign_of_off {b : Books} {i : StationId} {k : Option Stake} {n : Nat} (w : Stake → Nat)
    (before : ∀ l ∈ b.stakes i, l.payment ≠ .campus n) (after : ∀ l ∈ k, l.payment ≠ .campus n) :
    (b.assign i k).total (Stake.on n w) = b.total (Stake.on n w) := by
  have off (l : Option Stake) (h : ∀ m ∈ l, m.payment ≠ .campus n) : l.elim 0 (Stake.on n w) = 0 := by
    cases l with
    | none => rfl
    | some m => exact if_neg (h m rfl)
  have total := b.total_assign i k (Stake.on n w)
  rwa [off _ before, off _ after] at total

/-! ### What the books keep -/

/-- The slot bears what its bound sessions hold, unless it is SUSPECT (R126). -/
def Slot.Bears (x : Slot) (held bound : Nat) : Prop :=
  x.suspect = false → x.account.held = held ∧ x.account.openCount = bound ∧ x.account.Solvent

/-- The invariants of `State.Sound` that speak of the books alone. -/
structure Books.Kept (b : Books) : Prop where
  table : TableKept b.slots
  holds : ∀ n x, getSlot n b.slots = some x → x.Bears (b.held n) (b.bound n)
  boundSlots : ∀ i n, ∀ k ∈ b.stakes i, k.payment = .campus n → (getSlot n b.slots).isSome
  authorizations : ∀ i, ∀ k ∈ b.stakes i, k.waits = true → ∃ r token, k.payment = .bank r token
  reserved : b.reservations = b.total fun _ => 1
  room : b.journal.length + b.reservations ≤ Config.journalCapacity
  spare : b.reservations ≠ 0 → b.journal.length + b.reservations < Config.journalCapacity
  newest : b.journal.length = Config.journalCapacity → ∃ r, b.journal.getLast? = some (.restart r)

theorem State.tableKept_books {s : State} : TableKept s.books.slots ↔ s.SlotsKept ∧ s.IdentitiesDistinct :=
  ⟨fun ⟨wf, distinct⟩ => ⟨wf, distinct⟩, fun ⟨wf, distinct⟩ => ⟨wf, distinct⟩⟩

theorem State.kept_books {s : State} : s.books.Kept ↔
    s.SlotsKept ∧ s.IdentitiesDistinct ∧ s.HoldsMatch ∧ s.BoundSlotsHeld ∧ s.AuthorizationsKept ∧ s.JournalKept := by
  have stakes (i : StationId) (k : Stake) :
      k ∈ s.books.stakes i ↔ ∃ x, (s.station i).session = some x ∧ x.stake = k := by
    rw [Option.mem_def, State.books, Option.map_eq_some_iff]
  constructor
  · rintro ⟨table, holds, boundSlots, authorizations, reserved, room, spare, newest⟩
    obtain ⟨wf, distinct⟩ := State.tableKept_books.mp table
    refine ⟨wf, distinct, fun n x read known => ?_, fun i x n present paid => ?_, fun i x present waits => ?_,
      reserved.trans s.total_books, room, spare, newest⟩
    · rw [← State.held_books, ← State.bound_books]
      exact holds n x read known
    · exact boundSlots i n _ ((stakes i _).mpr ⟨x, present, rfl⟩) paid
    · exact authorizations i _ ((stakes i _).mpr ⟨x, present, rfl⟩) (decide_eq_true waits)
  · rintro ⟨wf, distinct, holds, boundSlots, authorizations, reserved, room, spare, newest⟩
    refine ⟨State.tableKept_books.mpr ⟨wf, distinct⟩, fun n x read known => ?_, fun i n k staked paid => ?_,
      fun i k staked waits => ?_, reserved.trans s.total_books.symm, room, spare, newest⟩
    · rw [State.held_books, State.bound_books]
      exact holds n x read known
    · obtain ⟨x, present, rfl⟩ := (stakes i k).mp staked
      exact boundSlots i x n present paid
    · obtain ⟨x, present, rfl⟩ := (stakes i k).mp staked
      exact authorizations i x present (of_decide_eq_true waits)

end Sys2Proof.Machine
end

section
/-! The postings to the books: each way in which a command changes the account table, the stakes of the sessions and the
journal together, and what each keeps. -/

namespace Sys2Proof.Machine

/-! ### Slots written with their hold as it was -/

/-- Slot `y` is slot `x` after a write that leaves its identity, what it bears and that it can bear it; or it is
SUSPECT. -/
structure Slot.AmendedTo (x y : Slot) : Prop where
  identity : y.identity = x.identity
  known : y.suspect = false → x.suspect = false ∧ y.account.held = x.account.held ∧
    y.account.openCount = x.account.openCount ∧ (x.account.Solvent → y.account.Solvent)

/-- What a settlement of stake `k` does to the account table (R71). The charge is within the hold where `P` holds. -/
inductive Books.Paid (P : Prop) (b : Books) (k : Stake) : List (Nat × Slot) → Prop where
  | charged {n : Nat} {x y : Slot} (paid : k.payment = .campus n) (found : getSlot n b.slots = some x)
      (known : x.suspect = false) (identity : y.identity = x.identity)
      (held : y.account.held = x.account.held - k.hold) (count : y.account.openCount = x.account.openCount - 1)
      (solvent : P → x.account.Solvent → k.hold ≤ x.account.held → y.account.Solvent) : b.Paid P k (putSlot n y b.slots)
  | parked {n : Nat} (paid : k.payment = .campus n)
      (unread : ∀ x, getSlot n b.slots = some x → x.suspect = true) : b.Paid P k b.slots
  | elsewhere (paid : ∀ n, k.payment ≠ .campus n) : b.Paid P k b.slots

/-- One posting. `P` is what the part is known to keep where the posting rests on it: a charge within its hold (R90),
and no session left when a restart is recorded (R184). -/
inductive Books.Move (P : Prop) (b : Books) : Books → Prop where
  /-- A slot is corrected, marked SUSPECT or amended (R129, R130, R138 to R140). -/
  | amend {n : Nat} {x y : Slot} (found : getSlot n b.slots = some x) (amended : x.AmendedTo y) :
      b.Move P { b with slots := putSlot n y b.slots }
  /-- Time damages the content of the account memory (R132). -/
  | damage (d : Option (Nat × Bool)) : b.Move P { b with slots := harmSlots d b.slots }
  /-- LOAD-ACCOUNT writes a slot whole (R134, R135). -/
  | load {n : Nat} {y : Slot} (valid : n < Config.slotCount)
      (fresh : ∀ m, findIdentity y.identity b.slots = some m → m = n) (bears : y.Bears (b.held n) (b.bound n)) :
      b.Move P { b with slots := putSlot n y b.slots }
  /-- DELETE-ACCOUNT frees a slot (R141). -/
  | free {n : Nat} (unbound : b.bound n = 0) : b.Move P { b with slots := freeSlot n b.slots }
  /-- CLEAR-ALL empties the table (R170). -/
  | clear (idle : ∀ i, b.stakes i = none) : b.Move P { b with slots := [] }
  /-- A CAMPUS session is granted its hold (R56). -/
  | grant {i : StationId} {n hold : Nat} {x y : Slot} (idle : b.stakes i = none) (found : getSlot n b.slots = some x)
      (known : x.suspect = false) (identity : y.identity = x.identity)
      (held : y.account.held = x.account.held + hold) (count : y.account.openCount = x.account.openCount + 1)
      (solvent : x.account.Solvent → y.account.Solvent)
      (guard : b.journal.length + b.reservations ≤ Config.journalGuard) :
      b.Move P { b.assign i (some ⟨.campus n, hold, false⟩) with
        slots := putSlot n y b.slots, reservations := b.reservations + 1 }
  /-- A session without an account is created (R57, R64). -/
  | start {i : StationId} {k : Stake} (idle : b.stakes i = none) (paid : ∀ n, k.payment ≠ .campus n)
      (waits : k.waits = true → ∃ r token, k.payment = .bank r token)
      (guard : b.journal.length + b.reservations ≤ Config.journalGuard) :
      b.Move P { b.assign i (some k) with reservations := b.reservations + 1 }
  /-- A CAMPUS session's hold is extended (R65). -/
  | extend {i : StationId} {n extension : Nat} {k : Stake} {x y : Slot} (present : b.stakes i = some k)
      (paid : k.payment = .campus n) (found : getSlot n b.slots = some x) (known : x.suspect = false)
      (identity : y.identity = x.identity) (held : y.account.held = x.account.held + extension)
      (count : y.account.openCount = x.account.openCount) (solvent : x.account.Solvent → y.account.Solvent) :
      b.Move P { b.assign i (some { k with hold := k.hold + extension }) with slots := putSlot n y b.slots }
  /-- An authorization is accepted with its hold (R61). -/
  | accept {i : StationId} {k : Stake} (hold : Nat) (present : b.stakes i = some k) (waits : k.waits = true) :
      b.Move P (b.assign i (some { k with hold := hold, waits := false }))
  /-- An authorization ends without a record (R58). -/
  | drop {i : StationId} {k : Stake} (present : b.stakes i = some k) (waits : k.waits = true) :
      b.Move P { b.assign i none with reservations := b.reservations - 1 }
  /-- A session is settled (R70 to R72). -/
  | settle {i : StationId} {k : Stake} {slots : List (Nat × Slot)} (r : SettleRecord) (present : b.stakes i = some k)
      (paid : b.Paid P k slots) :
      b.Move P { b.assign i none with
        slots := slots, journal := b.journal ++ [.settle r], reservations := b.reservations - 1 }
  /-- A restart is recorded (R156). -/
  | record (r : RestartRecord) (idle : P → ∀ i, b.stakes i = none)
      (fits : b.journal.length < Config.journalCapacity) : b.Move P { b with journal := b.journal ++ [.restart r] }
  /-- A restart is recorded in a full journal (R156). -/
  | coalesce (stamp : Nat) (cause : RestartCause) (settled : Nat) :
      b.Move P { b with journal := coalesceNewest stamp cause settled b.journal }
  /-- RELEASE-JOURNAL takes the oldest record away (R159). -/
  | release {r : Record} {rest : List Record} (oldest : b.journal = r :: rest) : b.Move P { b with journal := rest }
  /-- The retained domain is lost (R181). -/
  | lose : b.Move P { stakes := fun _ => none, slots := [], journal := [], reservations := 0 }

namespace Books.Move

variable {P : Prop} {b c : Books}

/-! ### The account table (R124, R125) -/

theorem table (move : b.Move P c) (h : TableKept b.slots) : TableKept c.slots := by
  cases move with
  | amend found amended => exact h.rewrite found amended.identity
  | damage d => exact h.harm d
  | load valid fresh _ =>
      exact h.put valid fun m x read holds => fresh m (h.findIdentity_eq_some_iff.mpr ⟨x, read, holds⟩)
  | free _ => exact h.free _
  | clear _ => exact .nil
  | grant _ found _ identity => exact h.rewrite found identity
  | extend _ _ found _ identity => exact h.rewrite found identity
  | settle _ _ paid =>
      cases paid with
      | charged _ found _ identity => exact h.rewrite found identity
      | parked _ _ => exact h
      | elsewhere _ => exact h
  | lose => exact .nil
  | start => exact h
  | accept => exact h
  | drop => exact h
  | record => exact h
  | coalesce => exact h
  | release => exact h

end Books.Move

/-! ### Slots that bear what is held (R126) -/

theorem Slot.AmendedTo.bears {x y : Slot} (amended : x.AmendedTo y) {held bound : Nat} (h : x.Bears held bound) :
    y.Bears held bound := by
  intro known
  obtain ⟨before, sameHeld, sameCount, solvent⟩ := amended.known known
  obtain ⟨isHeld, isCount, isSolvent⟩ := h before
  exact ⟨sameHeld.trans isHeld, sameCount.trans isCount, solvent isSolvent⟩

/-- A slot written, where what the other slots bear stands. -/
theorem Books.Kept.bears_put {b c : Books} (h : b.Kept) {n : Nat} {y : Slot} (slots : c.slots = putSlot n y b.slots)
    (others : ∀ m, m ≠ n → c.held m = b.held m ∧ c.bound m = b.bound m) (here : y.Bears (c.held n) (c.bound n)) :
    ∀ m x, getSlot m c.slots = some x → x.Bears (c.held m) (c.bound m) := by
  intro m x read
  rw [slots] at read
  by_cases same : m = n
  · subst same
    rw [getSlot_putSlot_self] at read
    cases read
    exact here
  · rw [getSlot_putSlot_of_ne same] at read
    obtain ⟨held, bound⟩ := others m same
    rw [held, bound]
    exact h.holds m x read

/-- A changed stake of one slot leaves what the other slots are counted for. -/
theorem Books.assign_of_ne {b : Books} {i : StationId} {k : Option Stake} {n : Nat}
    (before : ∀ l ∈ b.stakes i, ∀ m, l.payment = .campus m → m = n)
    (after : ∀ l ∈ k, ∀ m, l.payment = .campus m → m = n)
    {m : Nat} (other : m ≠ n) : (b.assign i k).held m = b.held m ∧ (b.assign i k).bound m = b.bound m :=
  ⟨total_assign_of_off _ (fun l hl paid => other (before l hl m paid)) fun l hl paid => other (after l hl m paid),
    total_assign_of_off _ (fun l hl paid => other (before l hl m paid)) fun l hl paid => other (after l hl m paid)⟩

/-- Where a stake bound to slot `n` becomes another one, the counts of slot `n` follow. -/
theorem Books.assign_same {b : Books} {i : StationId} {k l : Stake} {n : Nat} (present : b.stakes i = some k)
    (before : k.payment = .campus n) (after : l.payment = .campus n) :
    (b.assign i (some l)).held n + k.hold = b.held n + l.hold ∧ (b.assign i (some l)).bound n = b.bound n := by
  have held := b.total_assign i (some l) (Stake.on n Stake.hold)
  have bound := b.total_assign i (some l) (Stake.on n fun _ => 1)
  simp only [present, Option.elim, Stake.on, before, after, if_true] at held bound
  exact ⟨held, Nat.add_right_cancel bound⟩

theorem Books.assign_new {b : Books} {i : StationId} {l : Stake} {n : Nat} (idle : b.stakes i = none)
    (after : l.payment = .campus n) :
    (b.assign i (some l)).held n = b.held n + l.hold ∧ (b.assign i (some l)).bound n = b.bound n + 1 := by
  have held := b.total_assign i (some l) (Stake.on n Stake.hold)
  have bound := b.total_assign i (some l) (Stake.on n fun _ => 1)
  simp only [idle, Option.elim, Stake.on, after, if_true] at held bound
  exact ⟨held, bound⟩

theorem Books.assign_gone {b : Books} {i : StationId} {k : Stake} {n : Nat} (present : b.stakes i = some k)
    (before : k.payment = .campus n) :
    (b.assign i none).held n + k.hold = b.held n ∧ (b.assign i none).bound n + 1 = b.bound n := by
  have held := b.total_assign i none (Stake.on n Stake.hold)
  have bound := b.total_assign i none (Stake.on n fun _ => 1)
  simp only [present, Option.elim, Stake.on, before, if_true] at held bound
  exact ⟨held, bound⟩

/-- A stake without an account is counted for no slot. -/
theorem Books.assign_off {b : Books} {i : StationId} {k : Option Stake}
    (before : ∀ l ∈ b.stakes i, ∀ m, l.payment ≠ .campus m) (after : ∀ l ∈ k, ∀ m, l.payment ≠ .campus m) (m : Nat) :
    (b.assign i k).held m = b.held m ∧ (b.assign i k).bound m = b.bound m :=
  ⟨total_assign_of_off _ (fun l hl => before l hl m) fun l hl => after l hl m,
    total_assign_of_off _ (fun l hl => before l hl m) fun l hl => after l hl m⟩

/-- A stake that waits has no account (R57). -/
theorem Books.Kept.unbound_of_waits {b : Books} (h : b.Kept) {i : StationId} {k : Stake} (present : b.stakes i = some k)
    (waits : k.waits = true) : ∀ m, k.payment ≠ .campus m := by
  intro m paid
  obtain ⟨r, token, bank⟩ := h.authorizations i k present waits
  exact nomatch paid.symm.trans bank

theorem Books.mem_stakes {b : Books} {i : StationId} {k : Stake} (present : b.stakes i = some k) {p : Stake → Prop}
    (h : p k) : ∀ l ∈ b.stakes i, p l := fun _ hl => Option.some.inj (present.symm.trans hl) ▸ h

theorem Books.mem_idle {b : Books} {i : StationId} (idle : b.stakes i = none) {p : Stake → Prop} :
    ∀ l ∈ b.stakes i, p l := fun _ hl => nomatch idle.symm.trans hl

/-- Stakes without an account come and go: the table bears what it bore. -/
theorem Books.Kept.bears_off {b c : Books} (h : b.Kept) (slots : c.slots = b.slots)
    (off : ∀ m, c.held m = b.held m ∧ c.bound m = b.bound m) :
    ∀ m x, getSlot m c.slots = some x → x.Bears (c.held m) (c.bound m) := by
  intro m x read
  rw [slots] at read
  rw [(off m).1, (off m).2]
  exact h.holds m x read

/-- A settlement takes the session's hold and its place from the slot that it charges; a SUSPECT slot bears nothing. -/
theorem Books.Paid.bears {P : Prop} {b : Books} {i : StationId} {k : Stake} {slots : List (Nat × Slot)}
    (paid : b.Paid P k slots) (p : P) (h : b.Kept) (present : b.stakes i = some k) :
    ∀ m x, getSlot m slots = some x → x.Bears ((b.assign i none).held m) ((b.assign i none).bound m) := by
  have others {n : Nat} (bound : k.payment = .campus n) {m : Nat} (other : m ≠ n) :=
    Books.assign_of_ne (b := b) (i := i) (k := none)
      (mem_stakes present fun _ paid => by cases bound.symm.trans paid; rfl) nofun other
  cases paid with
  | @charged n x y bound found known identity held count solvent =>
      obtain ⟨gone, left⟩ := assign_gone present bound
      obtain ⟨isHeld, isCount, isSolvent⟩ := h.holds n x found known
      refine h.bears_put (c := { b.assign i none with slots := putSlot n y b.slots }) rfl
        (fun m other => others bound other)
        fun _ => ⟨?_, ?_, solvent p isSolvent ?_⟩
      · show _ = (b.assign i none).held n
        omega
      · show _ = (b.assign i none).bound n
        omega
      · omega
  | @parked n bound unread =>
      intro m x read
      by_cases same : m = n
      · subst same
        exact fun known => nomatch known.symm.trans (unread x read)
      · rw [(others bound same).1, (others bound same).2]
        exact h.holds m x read
  | elsewhere off =>
      exact h.bears_off (c := b.assign i none) rfl (Books.assign_off (mem_stakes present off) nofun)

namespace Books.Move

variable {P : Prop} {b c : Books}

theorem holds (move : b.Move P c) (p : P) (h : b.Kept) :
    ∀ n x, getSlot n c.slots = some x → x.Bears (c.held n) (c.bound n) := by
  cases move with
  | amend found amended => exact h.bears_put rfl (fun _ _ => ⟨rfl, rfl⟩) (amended.bears (h.holds _ _ found))
  | damage d =>
      intro m y read
      obtain ⟨x, before, e, rfl⟩ := getSlot_harmSlots read
      exact h.holds m x before
  | load _ _ bears => exact h.bears_put rfl (fun _ _ => ⟨rfl, rfl⟩) bears
  | @free n unbound =>
      intro m x read
      by_cases same : m = n
      · subst same
        exact nomatch (h.table.getSlot_free m).symm.trans read
      · exact h.holds m x (by rwa [← getSlot_freeSlot_of_ne same])
  | clear _ => exact nofun
  | @grant i n hold x y idle found known identity held count solvent _ =>
      obtain ⟨isHeld, isCount, isSolvent⟩ := h.holds n x found known
      obtain ⟨newHeld, newCount⟩ := assign_new (b := b) (l := ⟨.campus n, hold, false⟩) idle rfl
      refine h.bears_put rfl (fun m other => assign_of_ne (mem_idle idle) ?_ other) fun _ =>
        ⟨held.trans (isHeld ▸ newHeld.symm), count.trans (isCount ▸ newCount.symm), solvent isSolvent⟩
      intro l hl m paid
      cases hl
      cases paid
      rfl
  | @extend i n extension k x y present paid found known identity held count solvent =>
      obtain ⟨isHeld, isCount, isSolvent⟩ := h.holds n x found known
      obtain ⟨newHeld, newCount⟩ := assign_same (l := { k with hold := k.hold + extension }) present paid paid
      have mine (m : Nat) (bound : k.payment = .campus m) : m = n := by
        cases paid.symm.trans bound
        rfl
      refine h.bears_put rfl (fun m other => assign_of_ne (mem_stakes present mine)
        (fun l hl => by cases hl; exact mine) other) fun _ => ⟨?_, count.trans (isCount.trans newCount.symm),
          solvent isSolvent⟩
      show _ = (b.assign i _).held n
      dsimp only at newHeld
      omega
  | start idle paid _ _ =>
      exact h.bears_off rfl (assign_off (mem_idle idle) fun l hl => by cases hl; exact paid)
  | accept hold present waits =>
      have off := h.unbound_of_waits present waits
      exact h.bears_off rfl (assign_off (mem_stakes present off) fun l hl => by cases hl; exact off)
  | drop present waits =>
      exact h.bears_off rfl (assign_off (mem_stakes present (h.unbound_of_waits present waits)) nofun)
  | settle r present paid => exact paid.bears p h present
  | lose => exact nofun
  | record => exact h.holds
  | coalesce => exact h.holds
  | release => exact h.holds

end Books.Move

/-! ### Stakes bound to slots that are not FREE, and stakes that wait -/

theorem isSome_getSlot_putSlot {m n : Nat} {y : Slot} {l : List (Nat × Slot)} (h : (getSlot m l).isSome ∨ m = n) :
    (getSlot m (putSlot n y l)).isSome := by
  by_cases same : m = n
  · rw [same, getSlot_putSlot_self]
    rfl
  · rw [getSlot_putSlot_of_ne same]
    exact h.resolve_right same

theorem isSome_getSlot_harmSlots {m : Nat} (d : Option (Nat × Bool)) : ∀ {l : List (Nat × Slot)},
    (getSlot m l).isSome → (getSlot m (harmSlots d l)).isSome
  | (n, x) :: rest, h => by
      unfold harmSlots getSlot
      unfold getSlot at h
      split
      · rfl
      · rename_i other
        rw [if_neg other] at h
        exact isSome_getSlot_harmSlots d h

/-- What holds of the stakes holds after one of them is changed, if it holds of the new one. -/
theorem Books.forall_assign {b : Books} {i : StationId} {k : Option Stake} {p : Stake → Prop}
    (h : ∀ j, ∀ l ∈ b.stakes j, p l) (new : ∀ l ∈ k, p l) : ∀ j, ∀ l ∈ (b.assign i k).stakes j, p l := by
  intro j
  show ∀ l ∈ Function.update b.stakes i k j, p l
  by_cases here : j = i
  · subst here
    rw [Function.update_self]
    exact new
  · rw [Function.update_of_ne here]
    exact h j

/-- No session is bound to a slot that is counted for none. -/
theorem Books.unbound_of_bound_eq_zero {b : Books} {n : Nat} (unbound : b.bound n = 0) :
    ∀ i, ∀ k ∈ b.stakes i, k.payment ≠ .campus n := by
  intro i k present paid
  rw [Books.bound, Books.total, Finset.sum_eq_zero_iff] at unbound
  have zero := unbound i (Finset.mem_univ i)
  rw [Option.mem_def.mp present] at zero
  simp [Stake.on, paid] at zero

/-- A settlement takes no slot away. -/
theorem Books.Paid.isSome {P : Prop} {b : Books} {k : Stake} {slots : List (Nat × Slot)} (paid : b.Paid P k slots)
    {m : Nat} (h : (getSlot m b.slots).isSome) : (getSlot m slots).isSome := by
  cases paid with
  | charged => exact isSome_getSlot_putSlot (.inl h)
  | parked => exact h
  | elsewhere => exact h

namespace Books.Move

variable {P : Prop} {b c : Books}

theorem boundSlots (move : b.Move P c) (h : b.Kept) :
    ∀ i, ∀ k ∈ c.stakes i, ∀ n, k.payment = .campus n → (getSlot n c.slots).isSome := by
  have kept : ∀ i, ∀ k ∈ b.stakes i, ∀ n, k.payment = .campus n → (getSlot n b.slots).isSome :=
    fun i k present n paid => h.boundSlots i n k present paid
  have put {n : Nat} {y : Slot} : ∀ i, ∀ k ∈ b.stakes i, ∀ m, k.payment = .campus m →
      (getSlot m (putSlot n y b.slots)).isSome :=
    fun i k present m paid => isSome_getSlot_putSlot (.inl (kept i k present m paid))
  cases move with
  | amend => exact put
  | load => exact put
  | damage d => exact fun i k present n paid => isSome_getSlot_harmSlots d (kept i k present n paid)
  | @free n unbound =>
      intro i k present m paid
      have other : m ≠ n := fun same => unbound_of_bound_eq_zero unbound i k present (same ▸ paid)
      show (getSlot m (freeSlot n b.slots)).isSome
      rw [getSlot_freeSlot_of_ne other]
      exact kept i k present m paid
  | clear idle => exact fun i => mem_idle (idle i)
  | grant =>
      refine forall_assign put fun l hl m paid => ?_
      cases hl
      cases paid
      exact isSome_getSlot_putSlot (.inr rfl)
  | extend present paid =>
      refine forall_assign put fun l hl m bound => ?_
      cases hl
      cases paid.symm.trans bound
      exact isSome_getSlot_putSlot (.inr rfl)
  | start _ paid => exact forall_assign kept fun l hl m bound => by cases hl; exact absurd bound (paid m)
  | accept hold present _ => exact forall_assign kept fun l hl m bound => by cases hl; exact kept _ _ present m bound
  | drop => exact forall_assign kept nofun
  | settle _ _ paid =>
      exact forall_assign (fun i k present m bound => paid.isSome (kept i k present m bound)) nofun
  | lose => exact nofun
  | record => exact kept
  | coalesce => exact kept
  | release => exact kept

theorem authorizations (move : b.Move P c) (h : b.Kept) :
    ∀ i, ∀ k ∈ c.stakes i, k.waits = true → ∃ r token, k.payment = .bank r token := by
  have kept := h.authorizations
  cases move with
  | grant => exact forall_assign kept fun l hl waits => by cases hl; exact nomatch waits
  | @extend i _ _ k _ _ present => exact forall_assign kept fun l hl waits => by cases hl; exact kept i k present waits
  | start _ _ waits => exact forall_assign kept fun l hl => by cases hl; exact waits
  | accept => exact forall_assign kept fun l hl waits => by cases hl; exact nomatch waits
  | drop => exact forall_assign kept nofun
  | settle => exact forall_assign kept nofun
  | lose => exact nofun
  | amend => exact kept
  | damage => exact kept
  | load => exact kept
  | free => exact kept
  | clear => exact kept
  | record => exact kept
  | coalesce => exact kept
  | release => exact kept

end Books.Move

/-! ### The journal (R153, R154, R156, R157) -/

theorem length_coalesceNewest (stamp : Nat) (cause : RestartCause) (settled : Nat) :
    ∀ l : List Record, (coalesceNewest stamp cause settled l).length = l.length
  | [] => rfl
  | [.restart _] => rfl
  | [.settle _] => rfl
  | a :: b :: rest => by
      rw [coalesceNewest]
      · exact congrArg Nat.succ (length_coalesceNewest stamp cause settled (b :: rest))
      all_goals nofun

/-- A coalesced RESTART record is still one, and still the newest (R156). -/
theorem getLast?_coalesceNewest (stamp : Nat) (cause : RestartCause) (settled : Nat) {r : RestartRecord} :
    ∀ {l : List Record}, l.getLast? = some (.restart r) →
      (coalesceNewest stamp cause settled l).getLast? = some (.restart (r.coalesce stamp cause settled))
  | [], h => nomatch h
  | [.settle _], h => nomatch h
  | [.restart _], h => by
      cases h
      rfl
  | a :: b :: rest, h => by
      rw [List.getLast?_cons_cons] at h
      have newest := getLast?_coalesceNewest stamp cause settled h
      rw [coalesceNewest]
      · cases tail : coalesceNewest stamp cause settled (b :: rest) with
        | nil => exact nomatch (tail ▸ newest)
        | cons => rw [List.getLast?_cons_cons, ← tail, newest]
      all_goals nofun

/-- The invariants of the journal beside the sessions (R153, R154, R156). -/
structure Books.JournalKept (b : Books) : Prop where
  reserved : b.reservations = b.total fun _ => 1
  room : b.journal.length + b.reservations ≤ Config.journalCapacity
  spare : b.reservations ≠ 0 → b.journal.length + b.reservations < Config.journalCapacity
  newest : b.journal.length = Config.journalCapacity → ∃ r, b.journal.getLast? = some (.restart r)

namespace Books.JournalKept

variable {P : Prop} {b : Books} {i : StationId} {k : Stake}

/-- A session begins with a reservation, behind the journal guard (R153, R154). -/
theorem reserve (h : b.JournalKept) (idle : b.stakes i = none)
    (guard : b.journal.length + b.reservations ≤ Config.journalGuard) (k : Stake) (slots : List (Nat × Slot)) :
    Books.JournalKept { b.assign i (some k) with slots := slots, reservations := b.reservations + 1 } := by
  have total := b.total_assign i (some k) fun _ => 1
  rw [idle] at total
  have reserved := h.reserved
  simp only [Config.journalGuard] at guard
  refine ⟨?_, ?_, fun _ => ?_, fun full => ?_⟩
  · show b.reservations + 1 = (b.assign i (some k)).total _
    rw [reserved]
    exact total.symm
  · show b.journal.length + (b.reservations + 1) ≤ 512
    omega
  · show b.journal.length + (b.reservations + 1) < 512
    omega
  · replace full : b.journal.length = 512 := full
    omega

/-- A session whose stake changes keeps its reservation. -/
theorem restake (h : b.JournalKept) (present : b.stakes i = some k) (l : Stake) (slots : List (Nat × Slot)) :
    Books.JournalKept { b.assign i (some l) with slots := slots } := by
  have total := b.total_assign i (some l) fun _ => 1
  rw [present] at total
  exact ⟨h.reserved.trans (Nat.add_right_cancel total).symm, h.room, h.spare, h.newest⟩

/-- A session that ends gives its reservation up, for a record or for none (R153, R155). -/
theorem unreserve (h : b.JournalKept) (present : b.stakes i = some k) (slots : List (Nat × Slot))
    {journal : List Record}
    (length : journal.length ≤ b.journal.length + 1) :
    Books.JournalKept
      { b.assign i none with slots := slots, journal := journal, reservations := b.reservations - 1 } := by
  have total := b.total_assign i none fun _ => 1
  rw [present] at total
  simp only [Option.elim] at total
  have reserved := h.reserved
  have spare := h.spare (by omega)
  simp only [Config.journalCapacity] at spare
  refine ⟨?_, ?_, fun _ => ?_, fun full => ?_⟩
  · show b.reservations - 1 = (b.assign i none).total _
    omega
  · show journal.length + (b.reservations - 1) ≤ 512
    omega
  · show journal.length + (b.reservations - 1) < 512
    omega
  · replace full : journal.length = 512 := full
    omega

end Books.JournalKept

theorem Books.Kept.journalKept {b : Books} (h : b.Kept) : b.JournalKept := ⟨h.reserved, h.room, h.spare, h.newest⟩

namespace Books.Move

variable {P : Prop} {b c : Books}

theorem journalKept (move : b.Move P c) (p : P) (h : b.JournalKept) : c.JournalKept := by
  have same (slots : List (Nat × Slot)) : Books.JournalKept { b with slots := slots } :=
    ⟨h.reserved, h.room, h.spare, h.newest⟩
  cases move with
  | amend => exact same _
  | damage => exact same _
  | load => exact same _
  | free => exact same _
  | clear => exact same _
  | grant idle _ _ _ _ _ _ guard => exact h.reserve idle guard _ _
  | start idle _ _ guard => exact h.reserve idle guard _ b.slots
  | extend present => exact h.restake present _ _
  | accept _ present => exact h.restake present _ b.slots
  | drop present => exact h.unreserve present b.slots (Nat.le_succ _)
  | settle _ present => exact h.unreserve present _ (by rw [List.length_append]; exact Nat.le_refl _)
  | record r idle fits =>
      have none : b.reservations = 0 := h.reserved.trans (Finset.sum_eq_zero fun i _ => by rw [idle p i]; rfl)
      refine ⟨h.reserved, ?_, fun some => absurd none some, fun _ => ⟨r, by simp⟩⟩
      simpa [none] using fits
  | coalesce stamp cause settled =>
      obtain ⟨reserved, room, spare, newest⟩ := h
      have length := length_coalesceNewest stamp cause settled b.journal
      refine ⟨reserved, length ▸ room, length ▸ spare, fun full => ?_⟩
      obtain ⟨r, last⟩ := newest (length ▸ full)
      exact ⟨_, getLast?_coalesceNewest stamp cause settled last⟩
  | release oldest =>
      obtain ⟨reserved, room, spare, newest⟩ := h
      rw [oldest, List.length_cons] at room spare
      refine ⟨reserved, ?_, fun some => ?_, fun full => ?_⟩
      · dsimp only
        omega
      · have := spare some
        dsimp only
        omega
      · dsimp only at full
        omega
  | lose => exact ⟨(Finset.sum_eq_zero fun _ _ => rfl).symm, Nat.zero_le _, nofun, nofun⟩

/-- A posting keeps the invariants of the books. -/
theorem kept (move : b.Move P c) (p : P) (h : b.Kept) : c.Kept := by
  obtain ⟨reserved, room, spare, newest⟩ := move.journalKept p h.journalKept
  exact ⟨move.table h.table, move.holds p h, fun i n k present paid => move.boundSlots h i k present n paid,
    move.authorizations h, reserved, room, spare, newest⟩

end Books.Move

/-- Postings one after another. -/
abbrev Books.Moves (P : Prop) (b c : Books) : Prop := Relation.ReflTransGen (Books.Move P) b c

theorem Books.Moves.table {P : Prop} {b c : Books} (moves : b.Moves P c) (h : TableKept b.slots) :
    TableKept c.slots := by
  induction moves with
  | refl => exact h
  | tail _ move ih => exact move.table ih

theorem Books.Moves.kept {P : Prop} {b c : Books} (moves : b.Moves P c) (p : P) (h : b.Kept) : c.Kept := by
  induction moves with
  | refl => exact h
  | tail _ move ih => exact move.kept p ih

end Sys2Proof.Machine
end

section
/-! Operations that leave the books as they are, and the account operations of the session engine (R56, R65, R71). -/

namespace Sys2Proof.Machine

/-! ### The books after an update of the state -/

theorem Books.assign_self {b : Books} {i : StationId} {k : Option Stake} (h : b.stakes i = k) : b.assign i k = b := by
  subst h
  rw [Books.assign, Function.update_eq_self]

theorem State.books_modStation (s : State) (i : StationId) (f : Station → Station) :
    (s.modStation i f).books = s.books.assign i ((f (s.station i)).session.map Session.stake) := by
  have stakes : (fun j => ((s.modStation i f).station j).session.map Session.stake) =
      Function.update s.books.stakes i ((f (s.station i)).session.map Session.stake) := by
    funext j
    by_cases here : j = i
    · subst here
      rw [State.station_modStation_self, Function.update_self]
    · rw [State.station_modStation_of_ne s here, Function.update_of_ne here]
      rfl
  rw [State.books, stakes]
  rfl

/-- A change of a station that leaves what its session has at stake. -/
theorem State.books_modStation_of_stake {s : State} {i : StationId} {f : Station → Station}
    (same : (f (s.station i)).session.map Session.stake = (s.station i).session.map Session.stake) :
    (s.modStation i f).books = s.books := by
  rw [State.books_modStation]
  exact Books.assign_self same.symm

/-- A change of a station that leaves its session. -/
theorem State.books_modStation_of_session {s : State} {i : StationId} {f : Station → Station}
    (same : (f (s.station i)).session = (s.station i).session) : (s.modStation i f).books = s.books :=
  State.books_modStation_of_stake (congrArg _ same)

/-- A change of a session that leaves its stake. -/
theorem State.books_modStation_of_some {s : State} {i : StationId} {f : Station → Station} {x y : Session}
    (present : (s.station i).session = some x) (after : (f (s.station i)).session = some y) (same : y.stake = x.stake) :
    (s.modStation i f).books = s.books :=
  State.books_modStation_of_stake (by rw [present, after, Option.map_some, Option.map_some, same])

theorem State.books_setSession (s : State) (i : StationId) (x : Option Session) :
    (s.setSession i x).books = s.books.assign i (x.map Session.stake) := State.books_modStation _ _ _

@[simp] theorem State.books_post (s : State) (k : NoticeKind) (n : Nat) : (s.post k n).books = s.books := rfl
@[simp] theorem State.books_postAt (s : State) (k : NoticeKind) (i : StationId) : (s.postAt k i).books = s.books := rfl
@[simp] theorem State.books_reach (s : State) (n : Nat) : (s.reach n).books = s.books := rfl
@[simp] theorem State.books_indicate (s : State) (i : StationId) (f : Indicator) : (s.indicate i f).books = s.books :=
  State.books_modStation_of_session rfl
@[simp] theorem State.books_setLine (s : State) (i : StationId) (n : Line) (v : LineState) :
    (s.setLine i n v).books = s.books := State.books_modStation_of_session rfl
@[simp] theorem State.books_setReader (s : State) (i : StationId) (c : ReaderCondition) :
    (s.setReader i c).books = s.books := State.books_modStation_of_session rfl
@[simp] theorem State.books_reloadBoth (s : State) (i : StationId) : (s.reloadBoth i).books = s.books :=
  State.books_modStation_of_session rfl
@[simp] theorem State.books_setTimer (s : State) (i : StationId) (k : TimerId) (v : IdleTimer) :
    (s.modStation i fun st => st.setTimer k v).books = s.books :=
  State.books_modStation_of_session (Station.session_setTimer _ _ _)
@[simp] theorem State.books_openJam (s : State) (i : StationId) (c : JamCause) : (s.openJam i c).books = s.books :=
  State.books_modStation_of_session rfl
@[simp] theorem State.books_closeJam (s : State) (i : StationId) : (s.modStation i Station.closeJam).books = s.books :=
  State.books_modStation_of_session (Station.frame_closeJam _).2
@[simp] theorem State.books_leaveService (s : State) (i : StationId) :
    (s.modStation i Station.leaveService).books = s.books :=
  State.books_modStation_of_session (Station.frame_leaveService _).2
@[simp] theorem State.books_joinPath (s : State) (i : StationId) (n : Nat) (k : Kind) (c : Coverage) (x : Option Nat) :
    (s.joinPath i n k c x).books = s.books := State.books_modStation_of_session rfl

@[simp] theorem State.books_enterState (s : State) (i : StationId) (n : StationState) :
    (s.enterState i n).books = s.books := by
  rw [State.enterState, State.books_postAt]
  exact State.books_modStation_of_session rfl

@[simp] theorem State.books_refuse (s : State) (i : StationId) (r : RefuseReason) (c : CardClass) :
    (s.refuse i r c).books = s.books := by
  rw [State.refuse, State.books_postAt, State.books_indicate]
  exact State.books_modStation_of_session rfl

@[simp] theorem State.books_enterOffline (s : State) (i : StationId) : (s.enterOffline i).books = s.books := by
  rw [State.enterOffline, State.books_enterState, State.books_leaveService]

@[simp] theorem State.books_activity (s : State) (i : StationId) (k : TimerId) : (s.activity i k).books = s.books := by
  have woken : (if (s.station i).state = .save then s.enterState i .ready else s).books = s.books := by
    split
    · exact s.books_enterState i _
    · rfl
  unfold State.activity
  split
  · rfl
  · dsimp only
    split
    · exact woken
    · rw [State.books_setTimer, woken]

/-! ### Sessions and their sheets -/

theorem Session.stake_retier (x : Session) (path : List Sheet) : (x.retier path).stake = x.stake := by
  rw [Session.retier_eq]
  rfl

theorem Session.stake_deliver (x : Session) (e : Sheet) : (x.deliver e).stake = x.stake := by
  unfold Session.deliver
  split <;> rfl

theorem Session.phase_of_copying {x : Session} (h : x.copying = true) : x.phase ≠ .authorizing := by
  intro phase
  simp [Session.copying, phase] at h

/-- Between two phases other than AUTHORIZING the stake stands. -/
theorem Session.stake_phase {x : Session} (before : x.phase ≠ .authorizing) {p : Phase} (after : p ≠ .authorizing)
    (forced : Bool) : ({ x with phase := p, forced := forced } : Session).stake = x.stake := by
  unfold Session.stake
  rw [decide_eq_false before, decide_eq_false after]

@[simp] theorem State.books_handOverStation (s : State) (i : StationId) :
    (s.modStation i Station.handOver).books = s.books := by
  refine State.books_modStation_of_stake ?_
  cases present : (s.station i).session with
  | none => simp [Station.handOver, present]
  | some x =>
      simp only [Station.handOver, present, Option.map_some, Session.stake_retier]
      rfl

@[simp] theorem State.books_evaluatePause (s : State) (i : StationId) (b : Bool) :
    (s.evaluatePause i b).books = s.books := by
  unfold State.evaluatePause
  cases present : (s.station i).session with
  | none => rfl
  | some x =>
      dsimp only
      split
      · rename_i copying
        have phase := Session.phase_of_copying copying
        have lifted : (s.modStation i fun st =>
            { st with session := some { x with phase := .active, forced := false }, pauseTimer := none }).books =
              s.books := State.books_modStation_of_some present rfl (Session.stake_phase (p := .active) phase nofun _)
        split
        · split
          · rw [State.enterHolding, State.books_indicate, State.books_postAt]
            exact State.books_modStation_of_some present rfl (Session.stake_phase (p := .holding) phase nofun x.forced)
          · split
            · exact State.books_indicate _ _ _
            · rfl
        · split
          · rfl
          · unfold State.liftPause
            dsimp only
            split
            · exact lifted
            · rw [State.books_indicate, lifted]
      · rfl

@[simp] theorem State.books_handOver (s : State) (i : StationId) : (s.handOver i).books = s.books := by
  unfold State.handOver
  dsimp only
  split
  · exact State.books_handOverStation _ _
  · rw [State.books_evaluatePause, State.books_handOverStation]

@[simp] theorem State.books_endRecover (s : State) (i : StationId) : (s.endRecover i).books = s.books := by
  rw [State.endRecover, State.books_reloadBoth, State.books_enterState, State.books_closeJam]

@[simp] theorem State.books_exitTest (s : State) (i : StationId) : (s.exitTest i).books = s.books := by
  have timed (t : State) (n : Option Nat) : (t.modStation i fun st => { st with purgeTimer := n }).books = t.books :=
    State.books_modStation_of_session rfl
  unfold State.exitTest State.enterRecover
  dsimp only
  split
  · split
    · rw [State.books_endRecover]
      exact (State.books_modStation_of_session rfl).trans (State.books_enterState _ _ _)
    · exact (State.books_modStation_of_session rfl).trans (State.books_enterState _ _ _)
  · rfl

@[simp] theorem State.books_coverSheet (s : State) (i : StationId) (n : Nat) (k : Kind) :
    (s.coverSheet i n k).books = s.books := by
  have joined {c : Coverage} {z : Option Nat} {x y : Session} (present : (s.station i).session = some x)
      (same : y.stake = x.stake) : ((s.joinPath i n k c z).setSession i (some y)).books = s.books := by
    refine (State.books_modStation_of_some (x := x) ?_ rfl same).trans (State.books_joinPath _ _ _ _ _ _)
    rw [State.joinPath, State.station_modStation_self]
    exact present
  unfold State.coverSheet
  cases present : (s.station i).session with
  | none => exact State.books_joinPath _ _ _ _ _ _
  | some x =>
      dsimp only
      split
      · split
        · rw [State.books_evaluatePause]
          exact joined present (Session.stake_retier _ _)
        · exact joined present rfl
      · exact joined present rfl

@[simp] theorem State.books_reportDelivery (s : State) (i : StationId) (e : Sheet) :
    (s.reportDelivery i e).books = s.books := by
  unfold State.reportDelivery
  cases present : (s.station i).session with
  | none => rfl
  | some x =>
      dsimp only
      split
      · rw [State.books_evaluatePause]
        exact State.books_modStation_of_some present rfl (Session.stake_deliver x e)
      · rfl

@[simp] theorem State.books_strayDelivery (s : State) (i : StationId) : (s.strayDelivery i).books = s.books := by
  unfold State.strayDelivery
  dsimp only
  split
  · split
    · rw [State.books_endRecover]
      exact State.books_modStation_of_session rfl
    · exact State.books_modStation_of_session rfl
  · exact State.books_modStation_of_session rfl

@[simp] theorem State.books_readyRose (s : State) (i : StationId) : (s.readyRose i).books = s.books := by
  unfold State.readyRose
  dsimp only
  split
  · rw [State.books_enterState, State.books_activity]
  · rw [State.books_exitTest, State.books_activity]

@[simp] theorem State.books_stoppedRose (s : State) (i : StationId) : (s.stoppedRose i).books = s.books := by
  unfold State.stoppedRose
  cases present : (s.station i).session with
  | none => rfl
  | some x =>
      dsimp only
      split
      · rename_i holding
        exact State.books_modStation_of_some present rfl
          (Session.stake_phase (p := .held) (by rw [holding.2]; nofun) nofun x.forced)
      · rfl

@[simp] theorem State.books_pauseAckExpires (s : State) (i : StationId) : (s.pauseAckExpires i).books = s.books := by
  unfold State.pauseAckExpires
  split
  · rename_i present
    split
    · rename_i holding
      exact (State.books_modStation_of_some (s := s.reach _) present rfl
        (Session.stake_phase (p := .held) (by rw [holding.2.2]; nofun) nofun true)).trans (State.books_reach _ _)
    · rfl
  · rfl

end Sys2Proof.Machine
end

section
/-! What the account operations of the session engine post to the books: tested reads (R129), grants (R56), extends
(R65) and settlements (R71). -/

namespace Sys2Proof.Machine

/-! ### Accounts that bear what is held (R126, R127) -/

@[simp] theorem Account.held_align (a : Account) (period : Nat) : (a.align period).held = a.held := by
  unfold Account.align
  split
  · rfl
  · split <;> rfl

@[simp] theorem Account.openCount_align (a : Account) (period : Nat) : (a.align period).openCount = a.openCount := by
  unfold Account.align
  split
  · rfl
  · split <;> rfl

namespace Account.Solvent

variable {a b : Account}

theorem align (h : a.Solvent) (period : Nat) : (a.align period).Solvent := by
  unfold Account.align
  split
  · exact h
  · rename_i limit spent p figures
    split
    · exact h
    · simp only [Account.Solvent, figures] at h ⊢
      omega

/-- What the available credit covers may be held too. -/
theorem raise (h : a.Solvent) {period extra : Nat} (covered : extra ≤ a.credit period)
    (figures : b.figures = (a.align period).figures) (held : b.held = a.held + extra) : b.Solvent := by
  unfold Account.Solvent at h ⊢
  unfold Account.credit at covered
  rw [figures, held]
  unfold Account.align
  cases written : a.figures with
  | prepaid balance =>
      simp only [written] at h covered ⊢
      omega
  | department limit spent p =>
      simp only [written, Figures.effectiveSpent] at h covered ⊢
      by_cases current : p = period
      · simp only [current, if_true, written] at covered ⊢
        omega
      · simp only [current, if_false] at covered ⊢
        omega

/-- A charge within the hold that it releases. -/
theorem charge (h : a.Solvent) {hold cents : Nat} (within : cents ≤ hold) (holds : hold ≤ a.held) (period stamp : Nat) :
    (a.charge period hold cents stamp).Solvent := by
  have aligned := h.align period
  unfold Account.charge Account.Solvent
  unfold Account.Solvent at aligned
  cases written : (a.align period).figures with
  | prepaid balance =>
      simp only [written, Account.held_align] at aligned ⊢
      omega
  | department limit spent p =>
      simp only [written, Account.held_align] at aligned ⊢
      omega

end Account.Solvent

/-- The figures bear the hold where it was; the write leaves it (R138 to R140). -/
theorem Slot.amendedTo_write {x : Slot} {a : Account} (known : x.suspect = false) (held : a.held = x.account.held)
    (count : a.openCount = x.account.openCount) (solvent : x.account.Solvent → a.Solvent) :
    x.AmendedTo { x with account := a, damage := .sound } :=
  ⟨rfl, fun _ => ⟨known, held, count, solvent⟩⟩

/-! ### Tested reads (R129, R130) -/

section TestedReads

variable {s t : State} {n : Nat} {P : Prop}

theorem State.moves_testedRead (s : State) (n : Nat) (P : Prop) : s.books.Moves P (s.testedRead n).1.books := by
  have amend {x y : Slot} (found : s.slot n = some x) (amended : x.AmendedTo y) :
      s.books.Moves P { s.books with slots := putSlot n y s.slots } := .single (.amend found amended)
  rcases s.testedRead_cases n with ⟨_, h⟩ | ⟨x, found, ⟨_, h⟩ | ⟨_, _, h⟩ | ⟨known, _, h⟩ | ⟨_, _, h⟩⟩ <;> rw [h]
  · exact amend found (Slot.amendedTo_write known rfl rfl id)
  · exact amend found ⟨rfl, nofun⟩

theorem State.moves_of_testedRead {r : SlotRead} (h : s.testedRead n = (t, r)) : s.books.Moves P t.books := by
  have moves := s.moves_testedRead n P
  rwa [h] at moves

/-- What the slot holds after a read of it: what the read answers. -/
def SlotRead.Holds : SlotRead → Option Slot → Prop
  | .free, x => x = none
  | .suspect y, x => x = some y ∧ y.suspect = true
  | .content y, x => x = some y ∧ y.suspect = false

theorem State.holds_of_testedRead {r : SlotRead} (h : s.testedRead n = (t, r)) : r.Holds (t.slot n) := by
  rcases s.testedRead_cases n with ⟨free, read⟩ | ⟨x, found, ⟨known, read⟩ | ⟨known, _, read⟩ | ⟨known, _, read⟩ |
    ⟨_, _, read⟩⟩ <;> cases h.symm.trans read
  · exact free
  · exact ⟨found, known⟩
  · exact ⟨found, known⟩
  · exact ⟨getSlot_putSlot_self _ _ _, known⟩
  · exact ⟨getSlot_putSlot_self _ _ _, rfl⟩

/-- A tested read leaves the sessions and the journal. -/
theorem State.books_of_testedRead {r : SlotRead} (h : s.testedRead n = (t, r)) :
    t.books = { s.books with slots := t.slots } := by
  rcases s.testedRead_cases n with ⟨_, read⟩ | ⟨x, _, ⟨_, read⟩ | ⟨_, _, read⟩ | ⟨_, _, read⟩ | ⟨_, _, read⟩⟩ <;>
    cases h.symm.trans read <;> rfl

theorem State.books_writeAccount {x : Slot} (found : s.slot n = some x) (a : Account) :
    (s.writeAccount n a).books =
      { s.books with slots := putSlot n { x with account := a, damage := .sound } s.slots } := by
  rw [State.writeAccount, found]
  rfl

/-! ### Sessions that begin and end -/

theorem State.stakes_books {i : StationId} {x : Option Session} (h : (s.station i).session = x) :
    s.books.stakes i = x.map Session.stake := congrArg (Option.map Session.stake) h

theorem State.books_createSession (s : State) (i : StationId) (p : Payment) (hold rate : Nat) (phase : Phase) :
    (s.createSession i p hold rate phase).books =
      { s.books.assign i (some ⟨p, hold, decide (phase = .authorizing)⟩) with reservations := s.reservations + 1 } := by
  unfold State.createSession
  dsimp only
  rw [State.books_reloadBoth, State.books_setSession, State.reserve_eq]
  rfl

/-- A session without an account begins (R57, R64). -/
theorem State.move_createSession {i : StationId} {p : Payment} {phase : Phase} (idle : (s.station i).session = none)
    (unbound : ∀ n, p ≠ .campus n) (waits : phase = .authorizing → ∃ r token, p = .bank r token)
    (guard : s.guardPasses = true) (hold rate : Nat) :
    s.books.Move P (s.createSession i p hold rate phase).books := by
  rw [State.books_createSession]
  exact .start (State.stakes_books idle) unbound (fun h => waits (of_decide_eq_true h)) (of_decide_eq_true guard)

/-- The grant of a hold within the credit, with the session that holds it (R56). -/
theorem State.move_grant {i : StationId} {x : Slot} {hold : Nat} (idle : (s.station i).session = none)
    (found : s.slot n = some x) (known : x.suspect = false) (covered : hold ≤ x.account.credit s.period)
    (guard : s.guardPasses = true) (rate : Nat) :
    s.books.Move P ((s.writeAccount n (x.account.grant s.period hold s.stamp)).createSession i (.campus n) hold rate
      .active).books := by
  rw [State.books_createSession, State.books_writeAccount found]
  have reservations : (s.writeAccount n (x.account.grant s.period hold s.stamp)).reservations = s.reservations :=
    congrArg Books.reservations (State.books_writeAccount found _)
  rw [reservations]
  exact .grant (State.stakes_books idle) found known rfl (congrArg (· + hold) (x.account.held_align _))
    (congrArg (· + 1) (x.account.openCount_align _))
    (fun h => h.raise covered rfl (congrArg (· + hold) (x.account.held_align _))) (of_decide_eq_true guard)

/-- The extend of a hold within the credit, in the account and in the session (R65). -/
theorem State.move_extend {i : StationId} {k : Session} {x : Slot} {extension : Nat}
    (present : (s.station i).session = some k) (paid : k.payment = .campus n) (found : s.slot n = some x)
    (known : x.suspect = false) (covered : extension ≤ x.account.credit s.period) {f : Session → Session}
    (raised : (f k).stake = { k.stake with hold := k.hold + extension }) :
    s.books.Move P ((s.writeAccount n (x.account.extend s.period extension s.stamp)).modSession i f).books := by
  have same : (s.writeAccount n (x.account.extend s.period extension s.stamp)).station i = s.station i := by
    rw [State.station, State.stations_writeAccount, State.station]
  rw [State.modSession, State.books_modStation, State.books_writeAccount found, same]
  dsimp only
  rw [present, Option.map_some, Option.map_some, raised]
  exact .extend (k := k.stake) (State.stakes_books present) paid found known rfl
    (congrArg (· + extension) (x.account.held_align _)) (x.account.openCount_align _)
    (fun h => h.raise covered rfl (congrArg (· + extension) (x.account.held_align _)))

/-- An authorization is accepted with its hold (R61). -/
theorem State.move_accept {i : StationId} {k : Session} (present : (s.station i).session = some k)
    (phase : k.phase = .authorizing) (hold : Nat) {f : Station → Station}
    (accepted : (f (s.station i)).session = some { k with hold := hold, phase := .active }) :
    s.books.Move P (s.modStation i f).books := by
  rw [State.books_modStation, accepted]
  exact .accept (k := k.stake) hold (State.stakes_books present) (decide_eq_true phase)

/-- A session that ends without a record waits for its authorization (R58). -/
theorem State.move_endWithoutRecord {i : StationId} {k : Session} (present : (s.station i).session = some k)
    (phase : k.phase = .authorizing) : s.books.Move P (s.endWithoutRecord i).books := by
  rw [State.endWithoutRecord, State.books_modStation]
  exact .drop (k := k.stake) (State.stakes_books present) (decide_eq_true phase)

/-! ### Settlements (R70 to R72) -/

/-- What the account step of a settlement posts: a tested read, and the charge of what it finds (R71). The charge is
within the hold where the price ceiling is (R90). -/
theorem State.paid_accountStep (s : State) (x : Session) (bound : P → x.charged ≤ 10 * x.hold) :
    ∃ b slots, s.books.Moves P b ∧ b.stakes = s.books.stakes ∧ b.Paid P x.stake slots ∧
      (s.accountStep x x.chargeCents).1.books = { b with slots := slots } := by
  unfold State.accountStep
  have elsewhere (off : ∀ n, x.payment ≠ .campus n) :
      ∃ b slots, s.books.Moves P b ∧ b.stakes = s.books.stakes ∧ b.Paid P x.stake slots ∧
        s.books = { b with slots := slots } := ⟨s.books, s.slots, .refl, rfl, .elsewhere off, rfl⟩
  cases paid : x.payment with
  | bank r token => exact elsewhere (by rw [paid]; exact nofun)
  | counter r => exact elsewhere (by rw [paid]; exact nofun)
  | campus n =>
      dsimp only
      cases h : s.testedRead n with
      | mk t r =>
          have moves := State.moves_of_testedRead (P := P) h
          have same : t.books.stakes = s.books.stakes := by rw [State.books_of_testedRead h]
          have holds := State.holds_of_testedRead h
          cases r with
          | free =>
              have unread (y : Slot) (read : t.slot n = some y) : y.suspect = true := nomatch holds.symm.trans read
              exact ⟨t.books, t.slots, moves, same, .parked paid unread, rfl⟩
          | suspect y =>
              obtain ⟨found, suspect⟩ := holds
              refine ⟨t.books, t.slots, moves, same, .parked paid fun z read => ?_, rfl⟩
              cases found.symm.trans read
              exact suspect
          | content y =>
              obtain ⟨found, known⟩ := holds
              refine ⟨t.books, _, moves, same, .charged (y := { y with
                account := y.account.charge t.period x.hold x.chargeCents t.stamp, damage := .sound }) paid found known
                rfl ?_ ?_ (fun p solvent holds => ?_), State.books_writeAccount found _⟩
              · exact congrArg (· - x.hold) (y.account.held_align _)
              · exact congrArg (· - 1) (y.account.openCount_align _)
              · refine solvent.charge ?_ holds _ _
                have := bound p
                show (x.charged + 5) / 10 ≤ x.hold
                omega

/-- A settlement posts the charge, the record, and the end of the session. -/
theorem State.moves_settle {i : StationId} {x : Session} (present : (s.station i).session = some x)
    (bound : P → x.charged ≤ 10 * x.hold) (reason : CloseReason) : s.books.Moves P (s.settle i x reason).books := by
  obtain ⟨b, slots, moves, same, paid, step⟩ := s.paid_accountStep x bound
  refine moves.tail ?_
  unfold State.settle
  dsimp only
  rw [State.books_setSession, State.books_postAt, State.books_indicate, State.writeSettle]
  generalize (s.accountStep x x.chargeCents).1 = t at step
  show b.Move P { t.books.assign i none with
    journal := t.books.journal ++ [_], reservations := t.books.reservations - 1 }
  rw [step]
  exact .settle _ (same ▸ State.stakes_books present) paid

end TestedReads

end Sys2Proof.Machine
end

section
/-! What the events of a station post to the books, operation by operation, in the order of `State.KeepsMoneyAt`. An
operation that leaves the books is not visited again. -/

namespace Sys2Proof.Machine

/-- An operation that keeps the invariant `I` and does no more to the books than post to them while `I` holds. -/
structure State.Posts (I : State → Prop) (s t : State) : Prop where
  inv : I s → I t
  table : TableKept s.slots → TableKept t.slots
  books : I s → s.books.Kept → t.books.Kept

namespace State.Posts

variable {I : State → Prop} {s t u : State}

theorem refl (I : State → Prop) (s : State) : s.Posts I s := ⟨id, id, fun _ => id⟩

theorem trans (h : s.Posts I t) (k : t.Posts I u) : s.Posts I u :=
  ⟨k.inv ∘ h.inv, k.table ∘ h.table, fun inv kept => k.books (h.inv inv) (h.books inv kept)⟩

theorem ofMoves (inv : I s → I t) (moves : s.books.Moves (I s) t.books) : s.Posts I t :=
  ⟨inv, moves.table, moves.kept⟩

theorem ofMove (inv : I s → I t) (move : s.books.Move (I s) t.books) : s.Posts I t := ofMoves inv (.single move)

/-- An operation that leaves the books. -/
theorem quiet (inv : I s → I t) (same : t.books = s.books) : s.Posts I t :=
  ofMoves inv (by rw [same])

end State.Posts

/-- An event at station `i`: what it posts rests on the money of that station (R90). -/
abbrev State.PostsAt (i : StationId) (s t : State) : Prop := s.Posts (fun u => (u.station i).MoneyKept) t

/-- The price ceiling of a session of a station that keeps its money (R90). -/
theorem State.charged_le {s : State} {i : StationId} {x : Session} (present : (s.station i).session = some x)
    (kept : (s.station i).MoneyKept) : x.charged ≤ 10 * x.hold :=
  (Nat.le_add_right _ _).trans ((Station.moneyKept_of_some present).mp kept).bound

/-- The card of the session's own account gives its slot (R53). -/
theorem State.payment_of_ownCard {s : State} {x : Session} {c : Card} {n : Nat} (h : s.ownCard x c = some n) :
    x.payment = .campus n := by
  unfold State.ownCard at h
  split at h
  · rename_i paid
    split at h
    · split at h
      · cases h
        exact paid
      · cases h
    · cases h
  · cases h

namespace State.PostsAt

open State.Posts (refl quiet ofMove ofMoves)

variable {i : StationId} {s t u : State}

/-! ### Sessions -/

theorem ofQuiet (kept : State.KeepsMoneyAt i s t) (same : t.books = s.books) : s.PostsAt i t := quiet kept.money same

theorem endWithoutRecord {x : Session} (present : (s.station i).session = some x) (phase : x.phase = .authorizing) :
    State.PostsAt i s (s.endWithoutRecord i) :=
  ofMove (KeepsMoneyAt.endWithoutRecord present phase).money (State.move_endWithoutRecord present phase)

theorem settle (empty : (s.station i).path = []) {x : Session} (present : (s.station i).session = some x)
    (r : CloseReason) : State.PostsAt i s (s.settle i x r) :=
  ofMoves (KeepsMoneyAt.settle empty x r).money (State.moves_settle present (State.charged_le present) r)

theorem settleInService (empty : (s.station i).path = []) {x : Session} (present : (s.station i).session = some x)
    (r : CloseReason) : State.PostsAt i s (s.settleInService i x r) := by
  unfold State.settleInService
  dsimp only
  split
  · exact (settle empty present r).trans (ofQuiet .enterOffline (State.books_enterOffline _ _))
  · exact (settle empty present r).trans (ofQuiet .reloadBoth (State.books_reloadBoth _ _))

theorem closeRequest (r : CloseReason) : State.PostsAt i s (s.closeRequest i r) := by
  unfold State.closeRequest
  cases present : (s.station i).session with
  | none => exact refl _ _
  | some x =>
      dsimp only
      split
      · rename_i copying
        have closing : State.PostsAt i s (s.modStation i fun st =>
            { st with session := some { x with phase := .closing r }, pauseTimer := none }) :=
          ofQuiet (.modOwn present rfl rfl ⟨rfl, rfl, rfl, Nat.le_refl _, nofun⟩)
            (State.books_modStation_of_some present rfl
              (Session.stake_phase (p := .closing r) (Session.phase_of_copying copying) nofun x.forced))
        split
        · exact closing.trans (settleInService ‹_› (by rw [State.station_modStation_self]) _)
        · exact closing
      · exact refl _ _

theorem quietTest : State.PostsAt i s (s.quietTest i) := by
  unfold State.quietTest
  dsimp only
  split
  · split
    · exact ofQuiet (.enterState _) (State.books_enterState _ _ _)
    · split
      · exact closeRequest _
      · exact refl _ _
  · exact refl _ _

theorem endEvent (b : StationState) : State.PostsAt i s (s.endEvent i b) := by
  unfold State.endEvent
  split
  · exact quietTest
  · exact refl _ _

theorem emptyPathReport (empty : (s.station i).path = []) : State.PostsAt i s (s.emptyPathReport i) := by
  unfold State.emptyPathReport
  dsimp only
  split
  · exact quietTest
  · rename_i present
    split
    · exact quietTest
    · split
      · exact quietTest.trans (settleInService (KeepsMoneyAt.quietTest.emptied empty) present _)
      · exact quietTest

/-! ### Jams -/

/-- The report that follows what was done since a hand-over (R14, R18). -/
theorem reportIfEmptied (h : State.KeepsMoneyAt i (s.handOver i) t) (same : t.books = (s.handOver i).books)
    (b : List Sheet) : State.PostsAt i s (t.reportIfEmptied i b) := by
  have before : State.PostsAt i s t :=
    ofQuiet (.trans .handOver h) (same.trans (State.books_handOver _ _))
  unfold State.reportIfEmptied
  split
  · exact before
  · exact before.trans (emptyPathReport (h.emptied (KeepsMoneyAt.path_handOver i s)))

theorem declareJam (c : JamCause) : State.PostsAt i s (s.declareJam i c) := by
  have opened : State.PostsAt i s (s.openJam i c) := ofQuiet (.openJam c) (State.books_openJam _ _ _)
  have new : State.PostsAt i s (s.declareNew i c) :=
    opened.trans (reportIfEmptied ((KeepsMoneyAt.enterState _).trans .exitTest)
      (by rw [State.books_exitTest, State.books_enterState]) _)
  have fold : State.PostsAt i s (s.foldJam i) :=
    reportIfEmptied ((KeepsMoneyAt.modRest rfl rfl).trans ((KeepsMoneyAt.enterState _).trans .exitTest))
      (by rw [State.books_exitTest, State.books_enterState]; exact State.books_modStation_of_session rfl) _
  have offline : State.PostsAt i s (s.offlineJam i c) :=
    opened.trans (reportIfEmptied (.trans .modCloseJam (.postAt _ _))
      (by rw [State.books_postAt, State.books_closeJam]) _)
  unfold State.declareJam
  split
  · exact offline
  · exact fold
  · exact fold
  · exact new
  · exact new
  · exact new

theorem startStation : State.PostsAt i s (s.startStation i) := by
  have started (n : StationState) : State.PostsAt i s ((s.enterState i n).reloadBoth i) :=
    ofQuiet (.trans (.enterState _) .reloadBoth) (by rw [State.books_reloadBoth, State.books_enterState])
  unfold State.startStation
  dsimp only
  split
  · exact (started _).trans ((declareJam _).trans (endEvent _))
  · exact (started _).trans (endEvent _)

/-! ### Sheets -/

theorem popSheet {e : Sheet} {r : List Sheet} (path : (s.station i).path = e :: r) :
    State.PostsAt i s (s.popSheet i e r) := by
  have popped := KeepsMoneyAt.reportPopped path ((s.station i).meters.deliver e)
  have quiet : State.PostsAt i s ((s.modStation i fun st =>
      { st with path := r, meters := st.meters.deliver e }).reportDelivery i e) :=
    ofQuiet popped ((State.books_reportDelivery _ _ _).trans (State.books_modStation_of_session rfl))
  unfold State.popSheet
  dsimp only
  split
  · rename_i last
    refine quiet.trans (emptyPathReport (KeepsMoneyAt.path_reportDelivery e ?_))
    rw [State.station_modStation_self]
    exact last
  · split
    · exact quiet.trans (declareJam _)
    · exact quiet

theorem deliverSheet : State.PostsAt i s (s.deliverSheet i) := by
  unfold State.deliverSheet
  split
  · exact popSheet ‹_›
  · exact ofQuiet .strayDelivery (State.books_strayDelivery _ _)

theorem feedSheet : State.PostsAt i s (s.feedSheet i) := by
  have covered : State.PostsAt i s ((s.modStation i fun st =>
      { st with lastSheet := wrapInc Config.wrap16 (s.station i).lastSheet }).coverSheet i
        (wrapInc Config.wrap16 (s.station i).lastSheet) (s.station i).lines.kind) :=
    quiet (fun kept => State.moneyKept_coverSheet _ _ ((KeepsMoneyAt.modRest rfl rfl).money kept))
      ((State.books_coverSheet _ _ _ _).trans (State.books_modStation_of_session rfl))
  unfold State.feedSheet
  dsimp only
  split
  · exact covered
  · exact covered.trans (declareJam _)

/-! ### Line events and expiries -/

theorem readyFell : State.PostsAt i s (s.readyFell i) := by
  have entered (n : StationState) : State.PostsAt i s (s.enterState i n) :=
    ofQuiet (.enterState n) (State.books_enterState _ _ _)
  unfold State.readyFell
  dsimp only
  split
  · exact refl _ _
  · exact refl _ _
  · exact refl _ _
  · exact entered _
  · split
    · exact entered _
    · exact declareJam _
  · split
    · exact ofQuiet (.trans (.modRest rfl rfl) (.enterState _))
        ((State.books_enterState _ _ _).trans (State.books_modStation_of_session rfl))
    · exact declareJam _

theorem jamRose : State.PostsAt i s (s.jamRose i) := by
  unfold State.jamRose
  split
  · exact refl _ _
  · exact declareJam _

theorem activity (k : TimerId) : State.PostsAt i s (s.activity i k) :=
  ofQuiet (.activity k) (State.books_activity _ _ _)

theorem lineEvent (n : Line) (l : Bool) : State.PostsAt i s (s.lineEvent i n l) := by
  unfold State.lineEvent
  split
  · exact (activity _).trans feedSheet
  · exact (activity _).trans deliverSheet
  · exact jamRose
  · exact ofQuiet .exitTest (State.books_exitTest _ _)
  · exact ofQuiet .readyRose (State.books_readyRose _ _)
  · exact readyFell
  · exact ofQuiet .stoppedRose (State.books_stoppedRose _ _)
  · exact refl _ _

theorem reach (n : Nat) : State.PostsAt i s (s.reach n) := ofQuiet (.reach n) rfl

theorem recognize (n : Line) (l : Bool) : State.PostsAt i s (s.recognize i n l) := by
  have moved (k : Nat) (v : LineState) : State.PostsAt i s ((s.reach k).setLine i n v) :=
    (reach k).trans (ofQuiet (.setLine n v) (State.books_setLine _ _ _ _))
  unfold State.recognize
  dsimp only
  split
  · exact refl _ _
  · split
    · exact moved _ _
    · exact (moved _ _).trans ((lineEvent n l).trans (endEvent _))

theorem transitExpires : State.PostsAt i s (s.transitExpires i) := by
  unfold State.transitExpires
  split
  · exact refl _ _
  · split
    · exact (reach _).trans ((declareJam _).trans (endEvent _))
    · exact refl _ _

theorem idleExpires (k : TimerId) : State.PostsAt i s (s.idleExpires i k) := by
  unfold State.idleExpires
  split
  · split
    · exact (reach _).trans ((ofQuiet (.setTimer _ _) (State.books_setTimer _ _ _ _)).trans quietTest)
    · exact refl _ _
  · exact refl _ _

theorem refuse (r : RefuseReason) (c : CardClass) : State.PostsAt i s (s.refuse i r c) :=
  ofQuiet (.refuse r c) (State.books_refuse _ _ _ _)

theorem reloadBoth : State.PostsAt i s (s.reloadBoth i) := ofQuiet .reloadBoth (State.books_reloadBoth _ _)

theorem indicate (f : Indicator) : State.PostsAt i s (s.indicate i f) :=
  ofQuiet (.indicate f) (State.books_indicate _ _ _)

theorem evaluatePause (b : Bool) : State.PostsAt i s (s.evaluatePause i b) :=
  ofQuiet (.evaluatePause b) (State.books_evaluatePause _ _ _)

theorem authExpires : State.PostsAt i s (s.authExpires i) := by
  unfold State.authExpires
  split
  · rename_i present
    split
    · rename_i active
      exact (reach _).trans ((endWithoutRecord (s := s.reach _) present (Session.phase_of_authorizing active.2)).trans
        ((refuse _ _).trans reloadBoth))
    · exact refl _ _
  · exact refl _ _

theorem purgeExpires : State.PostsAt i s (s.purgeExpires i) := by
  unfold State.purgeExpires
  split
  · exact refl _ _
  · split
    · exact (reach _).trans ((ofQuiet .endRecover (State.books_endRecover _ _)).trans (endEvent _))
    · exact refl _ _

/-! ### Readers -/

theorem read {n : Nat} {r : SlotRead} (h : s.testedRead n = (t, r)) : State.PostsAt i s t :=
  ofMoves (KeepsMoneyAt.read h).money (State.moves_of_testedRead h)

theorem admitCampus (none : (s.station i).session = none) (guard : s.guardPasses = true) (n : Nat) :
    State.PostsAt i s (s.admitCampus i n) := by
  unfold State.admitCampus
  split
  · exact refuse _ _
  · split <;> rename_i found
    · rename_i t y
      dsimp only
      split
      · exact (read found).trans (refuse _ _)
      · split
        · exact (read found).trans (refuse _ _)
        · have idle : (t.station i).session = .none := by
            rw [State.station, State.stations_of_testedRead found]
            exact none
          have opened (m rate hold : Nat) (a : Account) :
              State.KeepsMoneyAt i t ((t.writeAccount m a).createSession i (.campus m) hold rate .active) := by
            refine .trans (.ofStations (State.stations_writeAccount _ _ _)) (.createSession ?_ _ _ _ _)
            rw [State.station, State.stations_writeAccount]
            exact idle
          obtain ⟨held, known⟩ := State.holds_of_testedRead found
          have passes : t.guardPasses = true := by
            rw [← guard]
            have same := State.books_of_testedRead found
            unfold State.guardPasses
            rw [show t.journal = s.journal from congrArg Books.journal same,
              show t.reservations = s.reservations from congrArg Books.reservations same]
          exact (read found).trans ((ofMove (opened _ _ _ _).money
            (State.move_grant idle held known (Nat.min_le_right _ _) passes _)).trans
              ((indicate _).trans (evaluatePause _)))
    · exact (read found).trans (refuse _ _)

theorem admitBank (none : (s.station i).session = none) (guard : s.guardPasses = true) (token : BitVec 128) :
    State.PostsAt i s (s.admitBank i token) := by
  have waiting (u : State) (idle : (u.station i).session = .none) (passes : u.guardPasses = true) (r rate : Nat) :
      State.PostsAt i u (u.createSession i (.bank r token) 0 rate .authorizing) :=
    ofMove (KeepsMoneyAt.createSession idle _ _ _ _).money
      (State.move_createSession (p := .bank r token) idle nofun (fun _ => ⟨r, token, rfl⟩) passes _ _)
  unfold State.admitBank
  exact Posts.trans (t := { s with authRef := nextAuthRef s.authRefs 8 s.authRef }) (ofQuiet (.ofStations rfl) rfl)
    ((waiting { s with authRef := nextAuthRef s.authRefs 8 s.authRef } none guard _ _).trans
      ((ofQuiet (.modRest rfl rfl) (State.books_modStation_of_session rfl)).trans
        ((ofQuiet (.postAt _ _) rfl).trans (indicate _))))

theorem admitCard (none : (s.station i).session = none) (c : Card) : State.PostsAt i s (s.admitCard i c) := by
  unfold State.admitCard
  split
  · exact refuse _ _
  · split
    · exact refuse _ _
    · rename_i passes
      have guard : s.guardPasses = true := by simpa using passes
      split
      · exact admitCampus none guard _
      · exact admitBank none guard _

theorem extendSession {x : Session} {n : Nat} (present : (s.station i).session = some x)
    (paid : x.payment = .campus n) : State.PostsAt i s (s.extendSession i n) := by
  unfold State.extendSession
  split <;> rename_i found
  · rename_i t y
    have present' : (t.station i).session = some x := by
      rw [State.station, State.stations_of_testedRead found]
      exact present
    obtain ⟨held, known⟩ := State.holds_of_testedRead found
    have raised (extension : Nat) (covered : extension ≤ y.account.credit t.period) :
        State.PostsAt i s ((t.writeAccount n (y.account.extend t.period extension t.stamp)).modSession i fun x =>
          { x with hold := x.hold + extension, extendCount := satAdd 255 x.extendCount 1 }) :=
      (read found).trans (ofMove (KeepsMoneyAt.trans (.ofStations (State.stations_writeAccount _ _ _))
        (.modExtend extension)).money (State.move_extend present' paid held known covered rfl))
    dsimp only
    split
    · exact (read found).trans (refuse _ _)
    · split
      · exact (read found).trans (refuse _ _)
      · split
        · exact (raised _ (Nat.min_le_right _ _)).trans ((indicate _).trans (evaluatePause _))
        · exact (raised _ (Nat.min_le_right _ _)).trans (evaluatePause _)
  · exact (read found).trans (refuse _ _)

theorem takeCard (c : Card) : State.PostsAt i s (s.takeCard i c) := by
  unfold State.takeCard
  split
  · exact admitCard ‹_› _
  · rename_i present
    split
    · split
      · exact extendSession present (State.payment_of_ownCard ‹_›)
      · exact refuse _ _
    · exact refuse _ _

theorem takeEnd : State.PostsAt i s (s.takeEnd i) := by
  unfold State.takeEnd
  split
  · exact refuse _ _
  · rename_i present
    split
    · exact closeRequest _
    · split
      · rename_i waits
        exact (endWithoutRecord present (Session.phase_of_authorizing waits)).trans ((indicate _).trans reloadBoth)
      · exact refuse _ _

theorem readerFrame (c : ReaderCondition) {f g : State → State} (hf : ∀ s, State.PostsAt i s (f s))
    (hg : ∀ s, State.PostsAt i s (g s)) : State.PostsAt i s (s.readerFrame i c f g) := by
  have heard : State.PostsAt i s (s.setReader i c) := ofQuiet (.setReader c) (State.books_setReader _ _ _)
  unfold State.readerFrame
  dsimp only
  split
  · split
    · exact heard.trans ((activity _).trans ((hf _).trans (endEvent _)))
    · exact heard.trans (hg _)
  · exact refl _ _

theorem discardFrame (c : ReaderCondition) : State.PostsAt i s (s.discardFrame i c) :=
  readerFrame c (fun _ => refuse _ _) fun _ => refuse _ _

theorem cardArrives (c : Card) : State.PostsAt i s (s.cardArrives i c) := by
  unfold State.cardArrives
  split
  · split
    · exact readerFrame _ (fun _ => takeCard c) fun _ => refuse _ _
    · exact discardFrame _
  · exact refl _ _

theorem endArrives : State.PostsAt i s (s.endArrives i) := by
  unfold State.endArrives
  split
  · exact readerFrame _ (fun _ => takeEnd) fun _ => refuse _ _
  · exact refl _ _

theorem malformedArrives : State.PostsAt i s (s.malformedArrives i) := by
  unfold State.malformedArrives
  split
  · exact discardFrame _
  · exact refl _ _

theorem readerGap : State.PostsAt i s (s.readerGap i) := by
  unfold State.readerGap
  split
  · exact discardFrame _
  · exact refl _ _

end State.PostsAt

end Sys2Proof.Machine
end

section
/-! What the requests post to the books (R164, step 5). Most leave the books as they are; the others are events at one
station, or write one account. -/

namespace Sys2Proof.Machine

variable {s t : State}

/-! ### Requests that leave the books -/

theorem State.books_modStations (s : State) (f : Station → Station) : (s.modStations f).books =
    { s.books with stakes := fun i => (f (s.station i)).session.map Session.stake } := by
  have stakes : (s.modStations f).books.stakes = fun i => (f (s.station i)).session.map Session.stake :=
    funext fun i => congrArg (fun st : Station => st.session.map Session.stake) (s.station_modStations f i)
  rw [← stakes, State.modStations_eq]
  rfl

/-- A change of every station that leaves what its session has at stake. -/
theorem State.books_modStations_of_stake {f : Station → Station}
    (same : ∀ st : Station, (f st).session.map Session.stake = st.session.map Session.stake) :
    (s.modStations f).books = s.books := by
  rw [State.books_modStations]
  simp only [same]
  rfl

@[simp] theorem State.books_testAlarm (s : State) : s.testAlarm.books = s.books := by
  unfold State.testAlarm
  split <;> rfl

theorem State.books_ownSetPeriodAlarm (p : Byte) (x : Option (BitVec 32)) :
    (s.ownSetPeriodAlarm p x).1.books = s.books := by
  unfold State.ownSetPeriodAlarm
  split
  · rfl
  · exact State.books_testAlarm _

theorem State.books_ownSetDevice (mask : BitVec 16) : (s.ownSetDevice mask).1.books = s.books := by
  unfold State.ownSetDevice
  split <;> rfl

theorem State.books_ownTakeNotice : (s.ownTakeNotice).1.books = s.books := by
  unfold State.ownTakeNotice
  split <;> rfl

theorem State.books_ownLoadPlan (n : Byte) (f : List (BitVec 16)) : (s.ownLoadPlan n f).1.books = s.books := by
  unfold State.ownLoadPlan
  dsimp only
  split_ifs <;> rfl

theorem State.books_ownAmendPlan (n : Byte) (m : BitVec 16) (v : List (BitVec 16)) :
    (s.ownAmendPlan n m v).1.books = s.books := by
  unfold State.ownAmendPlan
  dsimp only
  split_ifs <;> rfl

theorem State.books_ownReadPlan (n : Byte) : (s.ownReadPlan n).1.books = s.books := by
  unfold State.ownReadPlan
  split <;> rfl

theorem State.books_ownQuote (n r k t : Byte) : (s.ownQuote n r k t).1.books = s.books := by
  unfold State.ownQuote
  dsimp only
  split_ifs <;> rfl

theorem State.books_ownReadProfile (n : Byte) : (s.ownReadProfile n).1.books = s.books := by
  unfold State.ownReadProfile
  split <;> rfl

theorem State.books_ownReadStation (n : Byte) : (s.ownReadStation n).1.books = s.books := by
  unfold State.ownReadStation
  split <;> rfl

theorem State.books_ownReadMeters (n : Byte) : (s.ownReadMeters n).1.books = s.books := by
  unfold State.ownReadMeters
  split <;> rfl

theorem State.books_ownReadSession (n : Byte) : (s.ownReadSession n).1.books = s.books := by
  unfold State.ownReadSession
  split <;> rfl

theorem State.books_ownReadJam (n : Byte) : (s.ownReadJam n).1.books = s.books := by
  unfold State.ownReadJam
  split
  · rfl
  · split <;> rfl

theorem State.books_ownReadAuth (n : Byte) : (s.ownReadAuth n).1.books = s.books := by
  unfold State.ownReadAuth
  split
  · rfl
  · split
    · rfl
    · split
      · split <;> rfl
      · rfl

theorem State.books_ownReadJournal : (s.ownReadJournal).1.books = s.books := by
  unfold State.ownReadJournal
  split <;> rfl

/-! ### Requests of the account store -/

section Accounts

variable {P : Prop}

/-- A rewrite of the slot that a tested read found leaves what it bears (R138 to R140). -/
theorem State.moves_amend {n : Nat} {x : Slot} {a : Account} (h : s.testedRead n = (t, .content x))
    (held : a.held = x.account.held) (count : a.openCount = x.account.openCount)
    (solvent : x.account.Solvent → a.Solvent) : s.books.Moves P (t.writeAccount n a).books := by
  obtain ⟨found, known⟩ := State.holds_of_testedRead h
  refine (State.moves_of_testedRead h).tail ?_
  rw [State.books_writeAccount found]
  exact .amend found (Slot.amendedTo_write known held count solvent)

/-- A figure that is not negative reads the same with and without its sign. -/
theorem money_of_nonneg {x : BitVec 32} (h : 0 ≤ money x) : money x = x.toNat := by
  unfold money at h ⊢
  rw [BitVec.toInt_eq_toNat_cond] at h ⊢
  omega

theorem State.moves_ownLoadAccount (sl : BitVec 16) (id : BitVec 40) (k st rt : Byte) (fg : List (BitVec 32)) :
    s.books.Moves P (s.ownLoadAccount sl id k st rt fg).1.books := by
  unfold State.ownLoadAccount
  dsimp only
  split
  · exact .refl
  · rename_i inRange
    split
    · exact .refl
    · rename_i f _
      split_ifs with elsewhere busy below
      · exact .refl
      · exact .refl
      · exact .refl
      · refine .single (.load (Nat.lt_of_not_le fun above => inRange (.inl above)) (fun m found => ?_) fun _ => ?_)
        · by_contra other
          exact elsewhere (by simp [State.holdsElsewhere, State.lookup, show findIdentity id.toNat s.slots = some m
            from found, other])
        · refine ⟨(s.held_books _).symm, (s.bound_books _).symm, ?_⟩
          cases f <;> simpa [Account.Solvent, State.loadedAccount, Figures.below] using below

theorem State.moves_ownReadAccount (n : BitVec 16) : s.books.Moves P (s.ownReadAccount n).1.books := by
  unfold State.ownReadAccount
  split
  · exact .refl
  · exact s.moves_testedRead _ _

theorem State.moves_ownFindAccount (n : BitVec 40) : s.books.Moves P (s.ownFindAccount n).1.books := by
  unfold State.ownFindAccount
  split
  · exact .refl
  · split
    · exact .refl
    · exact s.moves_testedRead _ _

theorem State.moves_ownTopup (n : BitVec 16) (a : BitVec 32) : s.books.Moves P (s.ownTopup n a).1.books := by
  unfold State.ownTopup
  split
  · exact .refl
  · split <;> rename_i found
    · split
      · exact State.moves_of_testedRead found
      · dsimp only
        split
        · exact State.moves_of_testedRead found
        · rename_i within
          refine State.moves_amend found rfl rfl fun _ => ?_
          simp only [Account.Solvent]
          omega
    · exact State.moves_of_testedRead found

/-- The limit that SET-LIMIT writes bears what the period has spent and the sessions hold (R139). -/
theorem Account.solvent_setLimit {a : Account} {limit spent p period : Nat}
    (bears : (Figures.department limit spent p).effectiveSpent period + a.held ≤ limit) :
    (({ a with figures := .department limit spent p } : Account).align period).Solvent := by
  unfold Figures.effectiveSpent at bears
  unfold Account.align Account.Solvent
  by_cases current : p = period
  · simpa [current] using bears
  · simpa [current] using bears

theorem State.moves_ownSetLimit (n : BitVec 16) (a : BitVec 32) : s.books.Moves P (s.ownSetLimit n a).1.books := by
  unfold State.ownSetLimit
  split
  · exact .refl
  · split <;> rename_i found
    · split
      · exact State.moves_of_testedRead found
      · rename_i figures
        split
        · exact State.moves_of_testedRead found
        · rename_i bears
          refine State.moves_amend found (Account.held_align _ _) (Account.openCount_align _ _) fun _ =>
            Account.solvent_setLimit ?_
          have sign := money_of_nonneg (x := a) (by omega)
          simp only [figures, Figures.effectiveSpent] at bears ⊢
          omega
    · exact State.moves_of_testedRead found

theorem State.moves_ownSetAccountState (n : BitVec 16) (a : Byte) :
    s.books.Moves P (s.ownSetAccountState n a).1.books := by
  unfold State.ownSetAccountState
  split
  · exact .refl
  · split <;> rename_i found
    · exact State.moves_amend found rfl rfl id
    · exact State.moves_of_testedRead found

theorem State.moves_ownDeleteAccount (n : BitVec 16) : s.books.Moves P (s.ownDeleteAccount n).1.books := by
  unfold State.ownDeleteAccount
  split
  · exact .refl
  · split
    · exact .refl
    · split
      · exact .refl
      · rename_i unbound
        refine .single (.free ?_)
        rw [State.bound_books]
        simpa using unbound

theorem State.moves_ownReleaseJournal (n : BitVec 32) : s.books.Moves P (s.ownReleaseJournal n).1.books := by
  unfold State.ownReleaseJournal
  split
  · exact .refl
  · rename_i oldest
    split
    · exact .single (.release oldest)
    · exact .refl

theorem State.stakes_of_no_session (none : s.sessions = []) (i : StationId) : s.books.stakes i = .none := by
  have count : s.books.total (fun _ => 1) = 0 := s.total_books.trans (congrArg List.length none)
  have each := Finset.sum_eq_zero_iff.mp count i (Finset.mem_univ i)
  cases present : s.books.stakes i with
  | none => rfl
  | some k => simp [present] at each

/-- CLEAR-ALL finds no session (R170). -/
theorem State.moves_ownClearAll : s.books.Moves P (s.ownClearAll).1.books := by
  unfold State.ownClearAll
  split
  · refine .single ?_
    dsimp only
    rw [State.books_modStations_of_stake fun st => by rw [Station.clearAll]]
    exact .clear (State.stakes_of_no_session ‹_›)
  · exact .refl

end Accounts

end Sys2Proof.Machine
end

section
/-! What a request posts to the books (R164, step 5), request by request. -/

namespace Sys2Proof.Machine

variable {s t : State}

/-! ### Requests at a station -/

namespace State.PostsAt

variable {i : StationId}

theorem enterOffline : State.PostsAt i s (s.enterOffline i) := ofQuiet .enterOffline (State.books_enterOffline _ _)

theorem stopStation : State.PostsAt i s (s.stopStation i) := by
  unfold State.stopStation
  split
  · exact enterOffline
  · rename_i present
    split
    · rename_i waits
      exact (endWithoutRecord present (Session.phase_of_authorizing waits)).trans ((indicate _).trans enterOffline)
    · have pending : State.PostsAt i s (s.modSession i fun x => { x with stopPending := true }) :=
        ofQuiet (.modSession fun _ => ⟨rfl, rfl, rfl, Nat.le_refl _, id⟩)
          (State.books_modStation_of_some present (congrArg (Option.map _) present) rfl)
      exact pending.trans (closeRequest _)

theorem openCounter (none : (s.station i).session = none) (guard : s.guardPasses = true) (hold ref : Nat) :
    State.PostsAt i s (s.openCounter i hold ref) := by
  have created (u : State) (idle : (u.station i).session = .none) (passes : u.guardPasses = true) (rate : Nat)
      (b : StationState) : State.PostsAt i u ((((u.createSession i (.counter ref) hold rate .active).indicate i
        (.accept hold)).evaluatePause i false).endEvent i b) :=
    Posts.trans (.ofMove (KeepsMoneyAt.createSession idle _ _ _ _).money
      (State.move_createSession (p := .counter ref) (phase := .active) idle nofun nofun passes _ _))
      ((indicate _).trans ((evaluatePause _).trans (endEvent _)))
  have woken : State.PostsAt i s (s.enterState i .ready) := ofQuiet (.enterState _) (State.books_enterState _ _ _)
  unfold State.openCounter
  dsimp only
  split
  · exact woken.trans (created (s.enterState i .ready) (by rw [State.station_enterState_self]; exact none) guard _ _)
  · exact created s none guard _ _

theorem acceptAuth {x : Session} (present : (s.station i).session = some x) (phase : x.phase = .authorizing)
    (hold : Nat) : State.PostsAt i s (s.acceptAuth i hold) := by
  refine Posts.ofMove (KeepsMoneyAt.acceptAuth present phase hold).money ?_
  unfold State.acceptAuth
  rw [State.books_evaluatePause, State.books_indicate, State.books_reloadBoth]
  exact State.move_accept present phase hold (congrArg (Option.map _) present)

theorem declineAuth {x : Session} (present : (s.station i).session = some x) (phase : x.phase = .authorizing) :
    State.PostsAt i s (s.declineAuth i) := (endWithoutRecord present phase).trans ((refuse _ _).trans reloadBoth)

end State.PostsAt

/-! ### The owning blocks -/

/-- What a request posts rests on the money of every station. -/
abbrev State.PostsMoney (s t : State) : Prop := s.Posts State.MoneyKept t

namespace State.PostsMoney

open State.Posts (refl)

theorem ofLocal {i : StationId} (alone : State.Local i s t) (posts : State.PostsAt i s t) : s.PostsMoney t :=
  ⟨(KeepsMoney.ofStation alone posts.inv).money, posts.table, fun kept => posts.books (kept i)⟩

theorem ownSetProfile (n : Byte) (p : ProfileFields) : s.PostsMoney (s.ownSetProfile n p).1 := by
  unfold State.ownSetProfile
  split
  · exact refl _ _
  · rename_i i _
    have changed : State.PostsAt i s (s.modStation i fun st =>
        { st with profile := profileOf p, lines := st.lines.newWindows s.now st.profile (profileOf p) }) :=
      .ofQuiet (.modRest rfl rfl) (State.books_modStation_of_session rfl)
    dsimp only
    split
    · exact refl _ _
    · split
      · exact refl _ _
      · split
        · exact ofLocal (.trans (.modStation _) (.declareJam _)) (changed.trans (PostsAt.declareJam _))
        · dsimp only
          exact ofLocal (.modStation _) changed

theorem ownStartStation (n : Byte) : s.PostsMoney (s.ownStartStation n).1 := by
  unfold State.ownStartStation
  split
  · exact refl _ _
  · split
    · exact refl _ _
    · exact ofLocal .startStation .startStation

theorem ownStopStation (n : Byte) : s.PostsMoney (s.ownStopStation n).1 := by
  unfold State.ownStopStation
  split
  · exact refl _ _
  · split
    · exact refl _ _
    · exact ofLocal (s.local_stopStation _) .stopStation

theorem ownWakeStation (n : Byte) : s.PostsMoney (s.ownWakeStation n).1 := by
  unfold State.ownWakeStation
  split
  · exact refl _ _
  · split
    · exact refl _ _
    · exact ofLocal (.trans (.activity _) (.endEvent _)) ((PostsAt.activity _).trans (PostsAt.endEvent _))

theorem ownOpenSession (n : Byte) (a h : BitVec 32) : s.PostsMoney (s.ownOpenSession n a h).1 := by
  unfold State.ownOpenSession
  split
  · exact refl _ _
  · rename_i i _
    dsimp only
    split
    · exact refl _ _
    · rename_i free
      have none : (s.station i).session = none := by
        rw [not_or, Bool.not_eq_true, Option.isSome_eq_false_iff, Option.isNone_iff_eq_none] at free
        exact free.2
      split
      · exact refl _ _
      · split
        · exact refl _ _
        · rename_i passes
          exact ofLocal (s.local_openCounter _ _ _) (.openCounter none (by simpa using passes) _ _)

theorem ownEndSession (n : Byte) : s.PostsMoney (s.ownEndSession n).1 := by
  unfold State.ownEndSession
  split
  · exact refl _ _
  · split
    · exact refl _ _
    · split
      · exact ofLocal (.closeRequest _) (.closeRequest _)
      · split <;> exact refl _ _

theorem ownAuthResult (n : Byte) (r : BitVec 16) (a : BitVec 32) : s.PostsMoney (s.ownAuthResult n r a).1 := by
  unfold State.ownAuthResult
  split
  · exact refl _ _
  · split
    · exact refl _ _
    · dsimp only
      split
      · exact refl _ _
      · rename_i present
        split
        · rename_i awaits
          have phase := Session.phase_of_authorizing (Bool.and_eq_true_iff.mp awaits).1
          split
          · exact ofLocal (.trans .endWithoutRecord (.trans (.refuse _ _) .reloadBoth)) (.declineAuth present phase)
          · exact ofLocal (.trans (.modStation _) (.trans .reloadBoth (.trans (.indicate _) (.evaluatePause _))))
              (.acceptAuth present phase _)
        · exact refl _ _

/-- What an owning block posts while it answers a request (R164, step 5). -/
theorem serve (r : Instr) : s.PostsMoney (s.serve r).1 := by
  have money := (KeepsMoney.serve (s := s) r).money
  have posts (moves : s.books.Moves s.MoneyKept (s.serve r).1.books) : s.PostsMoney (s.serve r).1 :=
    Posts.ofMoves money moves
  have still (same : (s.serve r).1.books = s.books) : s.PostsMoney (s.serve r).1 :=
    Posts.quiet money same
  cases r with
  | getStatus => exact still rfl
  | turnPeriod => exact still rfl
  | setTime x => exact still (State.books_testAlarm _)
  | setPeriodAlarm p x => exact still (State.books_ownSetPeriodAlarm p x)
  | setDevice mask => exact still (State.books_ownSetDevice mask)
  | clearAll => exact posts State.moves_ownClearAll
  | takeNotice => exact still State.books_ownTakeNotice
  | setProfile n p => exact ownSetProfile n p
  | readProfile n => exact still (State.books_ownReadProfile n)
  | startStation n => exact ownStartStation n
  | stopStation n => exact ownStopStation n
  | wakeStation n => exact ownWakeStation n
  | readStation n => exact still (State.books_ownReadStation n)
  | readJam n => exact still (State.books_ownReadJam n)
  | readMeters n => exact still (State.books_ownReadMeters n)
  | openSession n a h => exact ownOpenSession n a h
  | endSession n => exact ownEndSession n
  | readSession n => exact still (State.books_ownReadSession n)
  | readAuth n => exact still (State.books_ownReadAuth n)
  | authResult n r a => exact ownAuthResult n r a
  | loadPlan n f => exact still (State.books_ownLoadPlan n f)
  | amendPlan n m v => exact still (State.books_ownAmendPlan n m v)
  | readPlan n => exact still (State.books_ownReadPlan n)
  | quote n r k t => exact still (State.books_ownQuote n r k t)
  | loadAccount sl id k st rt fg => exact posts (State.moves_ownLoadAccount sl id k st rt fg)
  | readAccount n => exact posts (State.moves_ownReadAccount n)
  | findAccount n => exact posts (State.moves_ownFindAccount n)
  | topup n a => exact posts (State.moves_ownTopup n a)
  | setLimit n a => exact posts (State.moves_ownSetLimit n a)
  | setAccountState n a => exact posts (State.moves_ownSetAccountState n a)
  | deleteAccount n => exact posts (State.moves_ownDeleteAccount n)
  | readJournal => exact still State.books_ownReadJournal
  | releaseJournal n => exact posts (State.moves_ownReleaseJournal n)
  | _ => exact refl _ s

theorem perform (r : Instr) : s.PostsMoney (s.perform r).1 := by
  unfold State.perform
  split
  · exact refl _ s
  · exact serve r

end State.PostsMoney

end Sys2Proof.Machine
end

section
/-! What a restart posts to the books, piece by piece (R180 to R186). -/

namespace Sys2Proof.Machine

variable {s t : State}

/-! ### Pieces that leave the books -/

theorem State.books_writeOff (s : State) (i : StationId) : (s.writeOff i).books = s.books := by
  have written (t : State) : (((t.openJam i .restart).modStation i Station.handOver).modStation i
      Station.closeJam).books = t.books := by
    rw [State.books_closeJam, State.books_handOverStation, State.books_openJam]
  unfold State.writeOff
  dsimp only
  split_ifs
  · exact State.books_enterOffline _ _
  · exact (written _).trans (State.books_enterOffline _ _)
  · rfl
  · exact written s

theorem State.books_restartNotices (s : State) (r : Restart) : (s.restartNotices r).books = s.books := by
  have posted (b : Bool) (k : NoticeKind) (t : State) : (if b then t.post k 0 else t).books = t.books := by
    split <;> rfl
  have settled : ∀ (l : List StationId) (t : State),
      (l.foldl (fun acc i => acc.postAt .sessionClosed i) t).books = t.books := by
    intro l
    induction l with
    | nil => exact fun _ => rfl
    | cons i l ih => exact fun t => ih (t.postAt .sessionClosed i)
  exact (posted _ _ _).trans ((posted _ _ _).trans (settled _ _))

theorem Station.stake_shutDown (st : Station) :
    st.shutDown.session.map Session.stake = st.session.map Session.stake := by
  cases present : st.session <;> simp [Station.shutDown, present, Session.stake]

@[simp] theorem State.books_enterShutdown (s : State) : s.enterShutdown.books = s.books := by
  rw [State.enterShutdown, State.books_post, State.books_modStations_of_stake Station.stake_shutDown]
  rfl

@[simp] theorem State.books_beginRestart (s : State) (c : RestartCause) : (s.beginRestart c).books = s.books := by
  rw [State.beginRestart, State.books_modStations_of_stake fun st => by rw [Station.beginRestart]; rfl]
  rfl

@[simp] theorem State.books_loseVolatile (s : State) : s.loseVolatile.books = s.books := by
  rw [State.loseVolatile, State.books_modStations_of_stake fun st => by rw [Station.loseVolatile]; rfl]
  rfl

/-! ### Pieces that post -/

section Pieces

variable {P : Prop}

/-- A part that has lost the retained domain has empty books (R181). -/
theorem State.move_loseRetained (s : State) : s.books.Move P s.loseRetained.books := by
  rw [State.loseRetained, State.books_modStations]
  exact .lose

theorem State.moves_restartAuthorization (s : State) (i : StationId) :
    s.books.Moves P (s.restartAuthorization i).books := by
  unfold State.restartAuthorization
  split
  · rename_i present
    split
    · exact .single (State.move_endWithoutRecord present ‹_›)
    · exact .refl
  · exact .refl

theorem State.moves_restartSettle (kept : P → s.MoneyKept) (r : Restart) (i : StationId) :
    s.books.Moves P (s.restartSettle r i).1.books := by
  unfold State.restartSettle
  split
  · exact .refl
  · rename_i present
    exact State.moves_settle present (fun p => State.charged_le present (kept p i)) _

/-- The RESTART record finds no session left (R184). -/
theorem State.moves_writeRestart (idle : P → ∀ i, (s.station i).session = none) (c : RestartCause) (n : Nat) :
    s.books.Moves P (s.writeRestart c n).books := by
  refine .single ?_
  have low (t : State) : (t.journalLowFrom s).books = t.books := by
    unfold State.journalLowFrom
    split <;> rfl
  unfold State.writeRestart
  split
  · rename_i fits
    rw [low]
    exact .record _ (fun p i => State.stakes_books (idle p i)) fits
  · exact .coalesce _ _ _

end Pieces

theorem restartPieces_record : restartPieces[25]? = some .record := by decide

/-- The RESTART record is the piece after every settlement (R184, R185). -/
theorem index_of_record {n : Nat} (h : restartPieces[n]? = some .record) : n = 25 :=
  (List.getElem?_inj (List.getElem?_eq_some_iff.mp h).1 restartPieces_nodup).mp (h.trans restartPieces_record.symm)

/-! ### The stations brought back into service (R186) -/

namespace State.PostsMoney

theorem foldl {α : Type} {f : State → α → State} (step : ∀ (s : State) (a : α), s.PostsMoney (f s a)) :
    ∀ (l : List α) (s : State), s.PostsMoney (l.foldl f s)
  | [], s => .refl _ s
  | a :: l, s => (step s a).trans (foldl step l (f s a))

theorem restartStations : s.PostsMoney s.restartStations := by
  have quiet {t u : State} (kept : t.KeepsMoney u) (same : u.books = t.books) : t.PostsMoney u :=
    Posts.quiet kept.money same
  have stopped (t : State) (i : StationId) : t.PostsMoney (t.restartOffline i) :=
    quiet (.restartOffline i) ((State.books_postAt _ _ _).trans
      (State.books_modStation_of_session (Station.frame_leaveService _).2))
  have started (t : State) (i : StationId) :
      t.PostsMoney (if (t.station i).profile.autoStart then t.startStation i else t) := by
    split
    · exact ofLocal .startStation .startStation
    · exact Posts.refl _ t
  have served (t : State) : t.PostsMoney { t with
      device := .running, restart := none, scrubDue := some (t.now + Config.scrubPeriod) } :=
    quiet (.ofStations rfl) rfl
  have watching (t : State) (now : Nat) : t.PostsMoney (t.modStations fun st =>
      { st with lines := st.lines.map (LineState.restart now) }) :=
    quiet (.modStations fun _ => Station.moneyKept_congr rfl rfl) (State.books_modStations_of_stake fun _ => rfl)
  have tested (t : State) : t.PostsMoney t.testAlarm := quiet (.ofStations t.stations_testAlarm) t.books_testAlarm
  have low (t : State) : t.PostsMoney (if t.freeRecords ≤ Config.journalLow then t.post .journalLow 0 else t) := by
    split <;> exact quiet (.ofStations rfl) rfl
  have shut (t : State) : t.PostsMoney (if t.pfail then t.enterShutdown else t) := by
    split
    · exact quiet .enterShutdown t.books_enterShutdown
    · exact Posts.refl _ t
  have offline : s.PostsMoney (allStations.foldl State.restartOffline s) := foldl stopped allStations s
  unfold State.restartStations
  extract_lets off begun running watched alarmed posted
  have ready : off.PostsMoney begun := foldl started allStations off
  exact offline.trans (ready.trans ((served begun).trans ((watching running running.now).trans
    ((tested watched).trans ((low alarmed).trans (shut posted))))))

end State.PostsMoney

/-! ### The restart as a whole -/

/-- What a command posts rests on the money of every station and on the pieces of a restart made so far. -/
abbrev State.PostsAll (s t : State) : Prop := s.Posts State.Accounted t

namespace State.PostsAll

/-- One piece of a restart. -/
theorem makePiece {r : Restart} {p : Piece} (present : s.restart = some r) (piece : restartPieces[r.next]? = some p) :
    s.PostsAll (s.makePiece { r with next := r.next + 1 } p) := by
  have inv (kept : s.Accounted) := State.accounted_makePiece kept present piece
  have noted (u : State) (q : Restart) (kept : s.Accounted → State.Accounted { u with restart := some q })
      (moves : s.books.Moves s.Accounted u.books) : s.PostsAll { u with restart := some q } := Posts.ofMoves kept moves
  have still (u : State) (q : Restart) (kept : s.Accounted → State.Accounted { u with restart := some q })
      (same : u.books = s.books) : s.PostsAll { u with restart := some q } := Posts.quiet kept same
  cases p with (simp only [State.makePiece] at inv ⊢)
  | validity =>
      by_cases valid : s.marker = true
      · rw [if_pos valid] at inv ⊢
        exact noted s _ inv .refl
      · rw [if_neg valid] at inv ⊢
        exact noted s.loseRetained _ inv (.single s.move_loseRetained)
  | endAuthorization i => exact noted _ _ inv (s.moves_restartAuthorization i)
  | writeOff i => exact still (s.writeOff i) _ inv (s.books_writeOff i)
  | settle i =>
      exact noted _ _ inv (State.moves_restartSettle State.Accounted.money { r with next := r.next + 1 } i)
  | record =>
      have idle (kept : s.Accounted) (i : StationId) : (s.station i).session = none :=
        (kept.restart r present i).2 (by rw [index_of_record piece]; omega)
      exact noted _ _ inv (State.moves_writeRestart idle r.cause r.settled.length)
  | notices => exact still (s.restartNotices _) _ inv (s.books_restartNotices _)
  | stations =>
      have posts : s.PostsMoney s.restartStations := .restartStations
      exact ⟨inv, posts.table, fun kept => posts.books kept.money⟩

theorem restartStep : s.PostsAll s.restartStep := by
  unfold State.restartStep
  split
  · exact Posts.refl _ s
  · rename_i present
    split
    · exact Posts.quiet (fun kept => .ofNone kept.money (.ofStations rfl) rfl) rfl
    · exact makePiece present ‹_›

theorem restartSteps : ∀ (n : Nat) (s : State), s.PostsAll (State.restartSteps n s)
  | 0, s => Posts.refl _ s
  | n + 1, s => restartStep.trans (restartSteps n s.restartStep)

theorem doRestart (c : RestartCause) (n : Option Nat) : s.PostsAll (s.doRestart c n) :=
  Posts.trans (.quiet (fun kept => State.accounted_beginRestart kept.money c) (s.books_beginRestart c))
    (restartSteps _ _)

end State.PostsAll

end Sys2Proof.Machine
end

section
/-! What every command and every step post to the books, O56 and O60. -/

namespace Sys2Proof.Machine

/-! ### Frames that join the receive queue, and start bytes -/

theorem State.books_enqueue (s : State) (f : HostFrame) : (s.enqueue f).books = s.books := by
  unfold State.enqueue
  split <;> rfl

theorem State.books_startByte (s : State) : s.startByte.books = s.books := by
  unfold State.startByte
  split <;> rfl

namespace State.PostsAll

variable {s t u : State} {i : StationId}

theorem refl (s : State) : s.PostsAll s := Posts.refl _ s

/-- A command that leaves the books. -/
theorem quiet (kept : s.KeepsAccounted t) (same : t.books = s.books) : s.PostsAll t := Posts.quiet kept.kept same

/-- An event at one station, which changes nothing of a part that does not work. -/
theorem ofEvent (alone : State.Local i s t) (posts : State.PostsAt i s t) (dead : s.alive = false → t = s) :
    s.PostsAll t :=
  ⟨(KeepsAccounted.ofEvent alone posts.inv dead).kept, posts.table, fun kept => posts.books (kept.money i)⟩

/-! ### The host line -/

theorem answer (alive : s.alive = true) (kind : Byte) (r : Instr) : s.PostsAll (s.answer kind r) := by
  have posts : s.PostsMoney (s.perform r).1 := .perform r
  exact ⟨(KeepsAccounted.answer alive kind r).kept, posts.table, fun kept => posts.books kept.money⟩

theorem takeFrame (alive : s.alive = true) (f : HostFrame) : s.PostsAll (s.takeFrame f) := by
  have sent (kind : Byte) (a : Answer) : s.PostsAll (s.sendReply kind a false) := quiet (.sendReply _ _ _) rfl
  unfold State.takeFrame
  split
  · exact sent _ _
  · split
    · exact sent _ _
    · exact sent _ _
    · exact answer alive _ _

theorem takeRequest : s.PostsAll s.takeRequest := by
  unfold State.takeRequest
  split
  · rename_i free
    split
    · exact refl s
    · rename_i f rest _
      exact Posts.trans (t := { s with receiveQueue := rest }) (quiet (.ofStations rfl rfl) rfl)
        (takeFrame (s := { s with receiveQueue := rest }) free.1 f)
  · exact refl s

theorem frameCompletes (kind : Byte) (body : List Byte) (check : BitVec 16) :
    s.PostsAll (s.frameCompletes kind body check) := by
  refine quiet (.frameCompletes kind body check) ?_
  unfold State.frameCompletes
  split
  · dsimp only
    split
    · exact State.books_enqueue _ _
    · rfl
  · rfl

theorem hostRequest (kind : Byte) (r : Instr) : s.PostsAll (s.hostRequest kind r) := by
  have hunting : s.PostsAll { s with hostCondition := .hunting } := quiet (.ofStations rfl rfl) rfl
  unfold State.hostRequest
  split
  · rename_i alive
    dsimp only
    split
    · split
      · exact hunting.trans (answer (s := { s with hostCondition := .hunting }) alive _ _)
      · exact hunting.trans (quiet (.sendReply _ _ _) rfl)
    · exact hunting.trans (quiet (.enqueue _) (State.books_enqueue _ _))
  · exact refl s

theorem gapPasses : s.PostsAll s.gapPasses := by
  refine quiet .gapPasses ?_
  unfold State.gapPasses
  split <;> rfl

theorem badLength (length : Byte) : s.PostsAll (s.badLength length) := by
  refine quiet (.badLength length) ?_
  unfold State.badLength
  split
  · dsimp only
    split
    · exact State.books_startByte _
    · rfl
  · rfl

theorem replyEnds (n : Option Nat) : s.PostsAll (s.replyEnds n) := by
  have ended : s.PostsAll { s with reply := none } := quiet (.ofStations rfl rfl) rfl
  unfold State.replyEnds
  split
  · exact refl s
  · split
    · dsimp only
      split
      · exact ended.trans (doRestart _ _)
      · exact ended
    · exact refl s

/-! ### Lines and readers -/

theorem readerStart (i : StationId) : s.PostsAll (s.readerStart i) := by
  refine quiet (.readerStart i) ?_
  unfold State.readerStart
  split
  · exact State.books_setReader _ _ _
  · rfl

theorem readerIdle (i : StationId) : s.PostsAll (s.readerIdle i) := by
  refine quiet (.readerIdle i) ?_
  unfold State.readerIdle
  split
  · exact State.books_setReader _ _ _
  · rfl

theorem indicatorSent (i : StationId) : s.PostsAll (s.indicatorSent i) := by
  refine quiet (.indicatorSent i) ?_
  unfold State.indicatorSent
  split
  · exact State.books_modStation_of_session rfl
  · rfl

/-! ### The supply, the time base and the scrub -/

theorem pfailRises : s.PostsAll s.pfailRises := by
  refine quiet .pfailRises ?_
  unfold State.pfailRises
  split
  · dsimp only
    split
    · exact State.books_enterShutdown _
    · rfl
  · rfl

theorem loseVolatile : s.PostsAll s.loseVolatile := quiet .loseVolatile s.books_loseVolatile

theorem supplyFails (v : Bool) : s.PostsAll (s.supplyFails v) := by
  have absent (t : State) (marker : Bool) : t.PostsAll { t with
      mainSupply := false, pfail := false, cameUp := false, marker := marker } := quiet (.ofStations rfl rfl) rfl
  exact loseVolatile.trans (absent _ _)

theorem supplyReturns (n : Option Nat) : s.PostsAll (s.supplyReturns n) := by
  have supplied : s.PostsAll { s with
      mainSupply := true, pfail := false, cameUp := s.cameUp || !s.mainSupply } := quiet (.ofStations rfl rfl) rfl
  unfold State.supplyReturns
  dsimp only
  split
  · exact supplied
  · split
    · exact supplied
    · split
      · exact supplied.trans (doRestart _ _)
      · exact supplied

theorem resetAsserts : s.PostsAll s.resetAsserts := by
  have asserted (t : State) : t.PostsAll { t with resetPin := true } := quiet (.ofStations rfl rfl) rfl
  exact loseVolatile.trans (asserted _)

theorem resetDeasserts (n : Option Nat) : s.PostsAll (s.resetDeasserts n) := by
  have released : s.PostsAll { s with resetPin := false } := quiet (.ofStations rfl rfl) rfl
  unfold State.resetDeasserts
  dsimp only
  split
  · exact released
  · split
    · split
      · exact released
      · exact released.trans (doRestart _ _)
    · exact released.trans (doRestart _ _)

theorem secondPasses : s.PostsAll s.secondPasses := by
  refine quiet .secondPasses ?_
  unfold State.secondPasses
  split
  · dsimp only
    split
    · exact State.books_testAlarm _
    · rfl
  · rfl

theorem alarmFalls : s.PostsAll s.alarmFalls := by
  refine quiet .alarmFalls ?_
  unfold State.alarmFalls
  split
  · exact s.books_testAlarm
  · rfl

theorem scrub : s.PostsAll s.scrub := by
  refine Posts.ofMoves (KeepsAccounted.scrub).kept ?_
  unfold State.scrub
  split
  · exact State.moves_testedRead { s.reach (s.scrubDue.getD s.now) with
      scrubDue := some ((s.reach (s.scrubDue.getD s.now)).now + Config.scrubPeriod) } _ _
  · exact .refl

/-! ### Every command and every step -/

/-- A command whose meaning is the part `u`. -/
theorem ofNext (k : s.PostsAll u) (h : (.next u : Host.Outcome State Fault Refusal) = .next t) : s.PostsAll t := by
  cases h
  exact k

theorem exec {c : Instr} (h : Sys2Proof.Machine.exec c s = .next t) : s.PostsAll t := by
  have recognized (i : StationId) (n : Line) (l : Bool) : s.PostsAll (s.recognize i n l) :=
    ofEvent (.recognize n l) (.recognize n l) fun dead => State.recognize_of_dead dead n l
  cases code : requestCode c with
  | some kind =>
      rw [exec_request code] at h
      exact ofNext (hostRequest _ _) h
  | none =>
      cases c with
      | hostFrameComplete kind body check => exact ofNext (frameCompletes kind body check) h
      | hostFrameGapTimeout => exact ofNext gapPasses h
      | requestTaken => exact ofNext takeRequest h
      | replySent n => exact ofNext (replyEnds n) h
      | rawLevelChange i m v => exact ofNext (quiet (.rawChange i m v) (State.books_setLine _ _ _ _)) h
      | lineLevelRecognized i m v => exact ofNext (recognized i m v) h
      | feed i => exact ofNext (recognized i .feed true) h
      | delivery i => exact ofNext (recognized i .deliver true) h
      | jamRise i => exact ofNext (recognized i .jam true) h
      | jamFall i => exact ofNext (recognized i .jam false) h
      | readyRise i => exact ofNext (recognized i .ready true) h
      | readyFall i => exact ofNext (recognized i .ready false) h
      | stoppedRise i => exact ofNext (recognized i .stopped true) h
      | transitExpiry i => exact ofNext (ofEvent .transitExpires .transitExpires State.transitExpires_of_dead) h
      | idleTimerExpiry i k =>
          exact ofNext (ofEvent (.idleExpires k) (.idleExpires k) fun dead => State.idleExpires_of_dead dead k) h
      | authTimerExpiry i => exact ofNext (ofEvent .authExpires .authExpires State.authExpires_of_dead) h
      | pauseAckExpiry i =>
          exact ofNext (ofEvent .pauseAckExpires (.ofQuiet .pauseAckExpires (s.books_pauseAckExpires i))
            State.pauseAckExpires_of_dead) h
      | purgeWindowExpiry i => exact ofNext (ofEvent .purgeExpires .purgeExpires State.purgeExpires_of_dead) h
      | scrubVisit => exact ofNext scrub h
      | timeBaseTick => exact ofNext secondPasses h
      | periodAlarmDue => exact ofNext alarmFalls h
      | cardFrame i card =>
          exact ofNext (ofEvent (.cardArrives card) (.cardArrives card)
            fun dead => State.cardArrives_of_dead dead card) h
      | endFrame i => exact ofNext (ofEvent .endArrives .endArrives State.endArrives_of_dead) h
      | malformedFrame i => exact ofNext (ofEvent .malformedArrives .malformedArrives State.malformedArrives_of_dead) h
      | readerGapTimeout i => exact ofNext (ofEvent .readerGap .readerGap State.readerGap_of_dead) h
      | indicatorFrameSent i => exact ofNext (indicatorSent i) h
      | pfailAsserted => exact ofNext pfailRises h
      | supplyFailure v => exact ofNext (supplyFails v) h
      | supplyReturn n => exact ofNext (supplyReturns n) h
      | resetPinAsserted => exact ofNext resetAsserts h
      | resetPinDeasserted n => exact ofNext (resetDeasserts n) h
      | hostStartByte => exact ofNext (quiet .startByte s.books_startByte) h
      | hostBadLengthByte n => exact ofNext (badLength n) h
      | readerStartByte i => exact ofNext (readerStart i) h
      | readerIdleResume i => exact ofNext (readerIdle i) h
      | _ => exact nomatch code

/-- Time may damage the account memory; nothing else of the books moves by itself (R132). -/
theorem tick : s.PostsAll s.tick := by
  have kept : s.KeepsAccounted s.tick := .ofStations rfl rfl
  exact Posts.ofMove kept.kept (.damage _)

theorem idle (h : s.idle = .next t) : s.PostsAll t := by
  unfold State.idle at h
  split at h
  · exact ofNext restartStep h
  · split at h
    · exact exec h
    · exact ofNext tick h

theorem step (h : Sys2Proof.Machine.step s = .next t) : s.PostsAll t := by
  unfold Sys2Proof.Machine.step at h
  split at h
  · rename_i c rest _
    exact Posts.trans (t := { s with pending := rest }) (quiet (.ofStations rfl rfl) rfl) (exec h)
  · exact idle h

end State.PostsAll

/-- Settles O56: a step does no more to the account table than the postings do, and each posting keeps it. -/
theorem stepKeepsAccountTable : Obligations.StepKeepsAccountTable := by
  intro s t slots identities h
  exact State.tableKept_books.mp ((State.PostsAll.step h).table (State.tableKept_books.mpr ⟨slots, identities⟩))

/-- Settles O60: each posting of a step keeps the account table, the sessions and the journal in agreement; the money
of the stations, the lists and the jam records have their own step lemmas. -/
theorem stepKeepsSound : Obligations.StepKeepsSound := by
  intro s t h run
  obtain ⟨money, restart⟩ := (State.KeepsAccounted.step run).kept ⟨h.money, h.restart⟩
  have before : s.books.Kept := State.kept_books.mpr
    ⟨h.slots, h.identities, h.holds, h.boundSlots, h.authorizations, h.journal⟩
  obtain ⟨slots, identities, holds, boundSlots, authorizations, journal⟩ :=
    State.kept_books.mp ((State.PostsAll.step run).books ⟨h.money, h.restart⟩ before)
  obtain ⟨bounded, counts, notices⟩ := stepKeepsListsAndNotices
  exact ⟨bounded s t h.bounded run, notices s t h.notices run, slots, identities, holds, boundSlots, authorizations,
    journal, money, counts s t h.counts run, stepKeepsJamRecords s t h.jams run, restart⟩

end Sys2Proof.Machine
end

section
/-! Billing periods and the time base (R144 to R148), and the visits of the scrub (R131). -/

namespace Sys2Proof.Machine

/-! ### The period alarm (R144, R146) -/

section Alarm

variable {s : State}

/-- No alarm is due where there is none or it is still ahead of the stamp. -/
theorem State.alarmDue_of_ahead (ahead : ∀ a, s.alarm = some a → s.stamp < a) : s.alarmDue = false := by
  unfold State.alarmDue
  cases alarm : s.alarm with
  | none => rfl
  | some a => simpa using ahead a alarm

theorem State.alarmDue_of_reached {a : Nat} (alarm : s.alarm = some a) (reached : a ≤ s.stamp) : s.alarmDue = true := by
  simp [State.alarmDue, alarm, reached]

theorem State.testAlarm_of_ahead (ahead : ∀ a, s.alarm = some a → s.stamp < a) : s.testAlarm = s :=
  if_neg (by simp [State.alarmDue_of_ahead ahead])

/-- An alarm that the stamp has reached is used up and turns the period, with its notice. -/
theorem State.testAlarm_of_reached {a : Nat} (alarm : s.alarm = some a) (reached : a ≤ s.stamp) :
    s.testAlarm = { s with
      alarm := none, period := (s.period + 1) % 65536, notices := insertNotice ⟨.periodTurned, 0⟩ s.notices } :=
  if_pos (State.alarmDue_of_reached alarm reached)

end Alarm

/-- Settles O9: the owning rule tests the alarm against the stamp just taken. -/
theorem setTimeTakesStamp : Obligations.SetTimeTakesStamp := by
  intro s x serving
  have set (t : State) (due : Bool)
      (tested : ({ s.taken with stamp := x.toNat, timeUnset := false } : State).testAlarm = t)
      (isDue : ({ s.taken with stamp := x.toNat, timeUnset := false } : State).alarmDue = due) :
      exec (.setTime x) s =
        .next (answered 0x82 false (t, .ok (leBytes 4 t.stamp ++ leBytes 2 t.period ++ [flag due]))) := by
    rw [exec_setTime serving, ← tested, ← isDue]
    rfl
  exact ⟨fun ahead => set _ _ (State.testAlarm_of_ahead ahead) (State.alarmDue_of_ahead ahead),
    fun a alarm reached => set _ _ (State.testAlarm_of_reached alarm reached) (State.alarmDue_of_reached alarm reached)⟩

/-- Settles O10: the alarm of a SET-PERIOD-ALARM is tested at once; a period turn leaves it. -/
theorem periodRequests : Obligations.PeriodRequests := by
  refine ⟨fun s serving => ?_, fun s serving => exec_turnPeriod serving⟩
  have set (x : BitVec 32) (t : State) (tested : ({ s.taken with alarm := some x.toNat } : State).testAlarm = t) :
      exec (.setPeriodAlarm 1 (some x)) s =
        .next (answered 0x83 false (t, .ok (optional t.alarm (leBytes 4) ++ leBytes 2 t.period))) := by
    rw [exec_setPeriodAlarm serving rfl, ← tested]
    rfl
  refine ⟨fun p x bad => ?_, ?_, fun x ahead => ?_, fun x reached => ?_⟩
  · have flagged : (p == 0) = (some x).isNone := by
      rw [Option.isNone_some, beq_eq_false_iff_ne]
      rintro rfl
      exact absurd bad (by decide)
    rw [exec_setPeriodAlarm serving flagged, ← State.taken, State.ownSetPeriodAlarm, if_pos bad]
    rfl
  · rw [exec_setPeriodAlarm serving rfl, ← State.taken]
    show Host.Outcome.next (answered 0x83 false (({ s.taken with alarm := none } : State).testAlarm, _)) = _
    rw [State.testAlarm_of_ahead (s := { s.taken with alarm := none }) nofun]
    rfl
  · exact set x _ (State.testAlarm_of_ahead fun a alarm => Option.some.inj alarm ▸ ahead)
  · exact set x _ (State.testAlarm_of_reached rfl reached)

/-! ### Visits of the scrub (R131) -/

section Scrub

variable {s t : State} {d : Nat}

/-- The part at a visit: the interval count at the visit's instant, the next visit due 250 ms later. -/
def State.visited (s : State) (d : Nat) : State := { s with now := d, scrubDue := some (d + 250) }

theorem exec_scrubVisit {r : SlotRead} (run : s.running = true) (due : s.scrubDue = some d) (ahead : s.now ≤ d)
    (read : (s.visited d).testedRead s.scrubPosition = (t, r)) :
    exec .scrubVisit s = .next { t with scrubPosition := (t.scrubPosition + 1) % 4096 } := by
  have reached : s.reach (s.scrubDue.getD s.now) = { s with now := d } := by
    rw [State.reach, due, Option.getD_some, Nat.max_eq_right ahead]
  have visit : (s.visited d).visit = { t with scrubPosition := (t.scrubPosition + 1) % 4096 } := by
    rw [State.visit, show (s.visited d).scrubPosition = s.scrubPosition from rfl, read]
    rfl
  rw [← visit]
  show Host.Outcome.next s.scrub = _
  rw [State.scrub, if_pos run, reached]
  rfl

end Scrub

/-! ### Seconds of the time base (R147) -/

section Seconds

variable {s : State}

/-- The part a second later. -/
def State.ticked (s : State) : State := { s with stamp := (s.stamp + 1) % 4294967296, divider := 0 }

theorem exec_timeBaseTick (supplied : s.timeRuns = true) :
    exec .timeBaseTick s = .next (if s.running then s.ticked.testAlarm else s.ticked) := by
  show Host.Outcome.next s.secondPasses = _
  rw [State.secondPasses, if_pos supplied]
  rfl

theorem State.timeRuns_of_main (main : s.mainSupply = true) : s.timeRuns = true := by
  rw [State.timeRuns, main, Bool.true_or]

/-- Without the main supply the part does not run, and the marker stands for VBAT (log 16). -/
theorem State.timeRuns_of_absent (absent : s.mainSupply = false) : s.timeRuns = s.marker := by
  rw [State.timeRuns, absent, Bool.false_or]

theorem State.not_running_of_absent (absent : s.mainSupply = false) : s.running = false := by
  simp [State.running, State.alive, absent]

end Seconds

/-- Settles O43: a visit is a tested read of the slot at the position; a second tests the alarm in the RUNNING device,
where the time base has a supply. -/
theorem periodicEvents : Obligations.PeriodicEvents := by
  refine ⟨fun s d run due ahead sound => ?_,
    fun s d x run due ahead slot known => ⟨fun damaged => ?_, fun damaged => ?_⟩,
    fun s main => ⟨fun ahead => ?_, fun a run alarm reached => ?_, fun a run alarm reached => ?_⟩,
    fun s absent => ⟨fun held => ?_, fun lost => ?_⟩⟩
  · cases slot : s.slot s.scrubPosition with
    | none => exact exec_scrubVisit run due ahead (State.testedRead_of_free slot)
    | some x =>
        cases known : x.suspect with
        | true => exact exec_scrubVisit run due ahead (State.testedRead_of_suspect slot known)
        | false =>
            have content : x.damage = .sound := (sound x slot).resolve_left (by simp [known])
            exact exec_scrubVisit run due ahead (State.testedRead_of_sound slot known content)
  · exact ⟨_, exec_scrubVisit run due ahead (State.testedRead_of_correctable slot known damaged), rfl,
      getSlot_putSlot_self _ _ _, fun m other => getSlot_putSlot_of_ne other _ _⟩
  · exact ⟨_, exec_scrubVisit run due ahead (State.testedRead_of_uncorrectable slot known damaged), rfl,
      getSlot_putSlot_self _ _ _, fun m other => getSlot_putSlot_of_ne other _ _⟩
  · rw [exec_timeBaseTick (State.timeRuns_of_main main)]
    cases run : s.running with
    | false => rfl
    | true =>
        rw [if_pos rfl, State.testAlarm_of_ahead (ahead.resolve_left (by simp [run]))]
        rfl
  · rw [exec_timeBaseTick (State.timeRuns_of_main main), if_pos run,
      State.testAlarm_of_reached (s := s.ticked) alarm reached]
    rfl
  · show Host.Outcome.next s.alarmFalls = _
    rw [State.alarmFalls, if_pos run, State.testAlarm_of_reached alarm reached]
  · rw [exec_timeBaseTick ((State.timeRuns_of_absent absent).trans held), State.not_running_of_absent absent]
    rfl
  · show Host.Outcome.next s.secondPasses = _
    rw [State.secondPasses, State.timeRuns_of_absent absent, lost]
    rfl

end Sys2Proof.Machine
end

section
/-! Requests of the account store (R134 to R141), by what the slot holds. -/

namespace Sys2Proof.Machine

/-- Settles O30: the cases of a tested read, each with the slot it leaves. -/
theorem testedReadActs : Obligations.TestedReadActs := by
  intro s n x slot
  exact ⟨State.testedRead_of_suspect slot, State.testedRead_of_sound slot,
    fun known damaged => ⟨_, State.testedRead_of_correctable slot known damaged, rfl, getSlot_putSlot_self _ _ _,
      fun m other => getSlot_putSlot_of_ne other _ _⟩,
    fun known damaged => ⟨_, State.testedRead_of_uncorrectable slot known damaged, rfl, getSlot_putSlot_self _ _ _,
      fun m other => getSlot_putSlot_of_ne other _ _⟩⟩

section Slots

variable {s t : State} {n : Nat} {x : Slot}

/-- A slot that holds no content to use: FREE or SUSPECT (R129). -/
theorem State.testedRead_of_unread (unread : ∀ x, s.slot n = some x → x.suspect = true) :
    s.testedRead n = (s, .free) ∨ ∃ x, s.testedRead n = (s, .suspect x) := by
  cases slot : s.slot n with
  | none => exact .inl (State.testedRead_of_free slot)
  | some x => exact .inr ⟨x, State.testedRead_of_suspect slot (unread x slot)⟩

/-- A write to a slot of sound content changes its account alone. -/
theorem State.writeAccount_of_sound (slot : s.slot n = some x) (sound : x.damage = .sound) (a : Account) :
    s.writeAccount n a = { s with slots := putSlot n { x with account := a } s.slots } := by
  rw [State.writeAccount, slot, ← sound]

/-- A tested read leaves the host line as it is. -/
theorem State.hostCondition_testedRead (s : State) (n : Nat) : (s.testedRead n).1.hostCondition = s.hostCondition := by
  obtain ⟨_, _, _, _, frame⟩ := s.testedRead_frame n
  rw [frame]

/-- A part that hunts is replied with the fields of its answer. -/
theorem answered_of_hunting (hunting : t.hostCondition = .hunting) (kind : Byte) (fields : List Byte) :
    answered kind false (t, .ok fields) = t.replied kind 0 fields := by
  rw [State.replied, ← hunting]
  rfl

end Slots

/-! ### READ-ACCOUNT and FIND-ACCOUNT (R136, R137) -/

section Records

variable {s : State}

/-- The record of a PREPAID account (R191). -/
theorem accountBytes_of_prepaid {x : Slot} {b : Nat} (figures : x.account.figures = .prepaid b) (n period : Nat) :
    accountBytes n x period = leBytes 2 n ++ ((if x.account.blocked then 2 else 1) :: (leBytes 5 x.identity ++
      (1 :: (leBytes 1 x.account.rate ++ leBytes 4 b ++ leBytes 4 x.account.held ++ leBytes 1 x.account.openCount ++
        leBytes 4 x.account.lastUse ++ leBytes 4 (b - x.account.held))))) := by
  simp [accountBytes, figures, Account.credit, accountStateCode]

/-- The record of a DEPARTMENT account, with its effective spent (R191, R126). -/
theorem accountBytes_of_department {x : Slot} {l p q : Nat} (figures : x.account.figures = .department l p q)
    (n period : Nat) :
    accountBytes n x period = leBytes 2 n ++ ((if x.account.blocked then 2 else 1) :: (leBytes 5 x.identity ++
      (2 :: (leBytes 1 x.account.rate ++ leBytes 4 l ++ leBytes 4 p ++ leBytes 2 q ++
        leBytes 4 (if q = period then p else 0) ++ leBytes 4 x.account.held ++ leBytes 1 x.account.openCount ++
        leBytes 4 x.account.lastUse ++ leBytes 4 (l - (if q = period then p else 0) - x.account.held))))) := by
  simp [accountBytes, figures, Account.credit, Figures.effectiveSpent, accountStateCode]

theorem State.ownReadAccount_of_lt {slot : BitVec 16} (valid : slot.toNat < 4096) : s.ownReadAccount slot =
    ((s.testedRead slot.toNat).1, .ok ((s.testedRead slot.toNat).2.bytes slot.toNat s.period)) :=
  if_neg (Nat.not_le.mpr valid)

theorem State.ownFindAccount_of_le {id : BitVec 40} (inRange : id.toNat ≤ 9999999999) : s.ownFindAccount id =
    match s.lookup id.toNat with
    | none => (s, .refuse .notFound)
    | some n => ((s.testedRead n).1, .ok ((s.testedRead n).2.bytes n s.period)) :=
  if_neg (Nat.not_lt.mpr inRange)

theorem exec_readAccount_of_lt (serving : s.Serving) {slot : BitVec 16} (valid : slot.toNat < 4096) :
    exec (.readAccount slot) s = .next (answered 0xC1 false ((s.taken.testedRead slot.toNat).1,
      .ok ((s.taken.testedRead slot.toNat).2.bytes slot.toNat s.period))) := by
  rw [exec_readAccount serving, ← State.taken, State.ownReadAccount_of_lt valid]
  rfl

theorem exec_findAccount_of_some (serving : s.Serving) {id : BitVec 40} (inRange : id.toNat ≤ 9999999999) {n : Nat}
    (found : s.lookup id.toNat = some n) :
    exec (.findAccount id) s = .next (answered 0xC2 false ((s.taken.testedRead n).1,
      .ok ((s.taken.testedRead n).2.bytes n s.period))) := by
  rw [exec_findAccount serving, ← State.taken, State.ownFindAccount_of_le inRange,
    show s.taken.lookup id.toNat = some n from found]
  rfl

/-- The directory gives the slot that holds an identity (R125). -/
theorem State.lookup_of_slot (wf : s.SlotsKept) (distinct : s.IdentitiesDistinct) {n : Nat} {x : Slot}
    (slot : s.slot n = some x) : s.lookup x.identity = some n :=
  (TableKept.findIdentity_eq_some_iff ⟨wf, distinct⟩).mpr ⟨x, slot, rfl⟩

end Records

/-- Settles O29: both requests answer with the record of the tested read. -/
theorem accountRecordsRead : Obligations.AccountRecordsRead := by
  refine ⟨fun s slot serving => ⟨fun out => ?_, fun valid free => ?_, fun x valid held suspect => ?_,
    fun x b valid held known sound figures => ⟨_, ?_, rfl, ?_⟩,
    fun x l p q valid held known sound figures => ⟨_, ?_, rfl, ?_⟩⟩,
    fun s id serving => ⟨fun out => ?_, fun inRange absent => ?_,
      fun n x inRange wf distinct held mine suspect => ?_, fun n x inRange wf distinct held mine => ?_⟩⟩
  · rw [exec_readAccount serving]
    exact congrArg (Host.Outcome.next ∘ answered 0xC1 false) (if_pos out)
  · rw [exec_readAccount_of_lt serving valid, State.testedRead_of_free (s := s.taken) free]
    rfl
  · rw [exec_readAccount_of_lt serving valid, State.testedRead_of_suspect (s := s.taken) held suspect]
    rfl
  · simp
  · rw [exec_readAccount_of_lt serving valid, State.testedRead_of_sound (s := s.taken) held known sound,
      answered_of_hunting rfl, SlotRead.bytes, accountBytes_of_prepaid figures]
    rfl
  · simp
  · rw [exec_readAccount_of_lt serving valid, State.testedRead_of_sound (s := s.taken) held known sound,
      answered_of_hunting rfl, SlotRead.bytes, accountBytes_of_department figures]
    rfl
  · rw [exec_findAccount serving]
    exact congrArg (Host.Outcome.next ∘ answered 0xC2 false) (if_pos out)
  · rw [exec_findAccount serving, ← State.taken, State.ownFindAccount_of_le inRange,
      show s.taken.lookup id.toNat = none from findIdentity_eq_none_iff.mpr absent]
    rfl
  · rw [exec_findAccount_of_some serving inRange (mine ▸ State.lookup_of_slot wf distinct held),
      State.testedRead_of_suspect (s := s.taken) held suspect]
    simp only [SlotRead.bytes, mine]
    rfl
  · have valid : n < 4096 := lt_of_getSlot wf held
    have number : (BitVec.ofNat 16 n).toNat = n := by
      rw [BitVec.toNat_ofNat]
      omega
    refine ⟨(s.taken.testedRead n).1, (s.taken.testedRead n).2.bytes n s.period, ?_, ?_⟩
    · rw [exec_readAccount_of_lt serving (by rw [number]; exact valid), number,
        answered_of_hunting (s.taken.hostCondition_testedRead n)]
    · rw [exec_findAccount_of_some serving inRange (mine ▸ State.lookup_of_slot wf distinct held),
        answered_of_hunting (s.taken.hostCondition_testedRead n)]

end Sys2Proof.Machine
end

section
/-! TOPUP, SET-LIMIT and SET-ACCOUNT-STATE (R138 to R140), by what the tested read finds. -/

namespace Sys2Proof.Machine

/-- The part after a slot's account is amended, and replied. -/
theorem answered_writeAccount {s : State} {n : Nat} {x : Slot} (held : s.slot n = some x) (sound : x.damage = .sound)
    (a : Account) (kind : Byte) (fields : List Byte) :
    answered kind false (s.taken.writeAccount n a, .ok fields) =
      ({ s with slots := putSlot n { x with account := a } s.slots } : State).replied kind 0 fields := by
  rw [State.writeAccount_of_sound (s := s.taken) held sound]
  rfl

section Owners

variable {s : State} {slot : BitVec 16} {x : Slot}

/-! ### The checks of the values carried -/

theorem not_slot_out (valid : slot.toNat < 4096) : ¬ Config.slotCount ≤ slot.toNat := Nat.not_le.mpr valid

theorem not_limit_out {limit : BitVec 32} (valid : slot.toNat < 4096) (inRange : limit.toInt ≤ 9999999) :
    ¬ (Config.slotCount ≤ slot.toNat ∨ (Config.maxCents : Int) < money limit) :=
  not_or.mpr ⟨not_slot_out valid, Int.not_lt.mpr inRange⟩

theorem not_accountState_out {state : Byte} (valid : slot.toNat < 4096) (inRange : state = 1 ∨ state = 2) :
    ¬ (Config.slotCount ≤ slot.toNat ∨ (state ≠ 1 ∧ state ≠ 2)) :=
  not_or.mpr ⟨not_slot_out valid, fun ⟨one, two⟩ => inRange.elim one two⟩

/-! ### A slot without content to use -/

theorem State.ownTopup_of_unread (valid : slot.toNat < 4096)
    (unread : ∀ x, s.slot slot.toNat = some x → x.suspect = true) (amount : BitVec 32) :
    s.ownTopup slot amount = (s, .refuse .wrongState) := by
  rw [State.ownTopup, if_neg (not_slot_out valid)]
  rcases State.testedRead_of_unread unread with read | ⟨x, read⟩ <;> rw [read]

theorem State.ownSetLimit_of_unread {limit : BitVec 32} (valid : slot.toNat < 4096) (inRange : limit.toInt ≤ 9999999)
    (unread : ∀ x, s.slot slot.toNat = some x → x.suspect = true) :
    s.ownSetLimit slot limit = (s, .refuse .wrongState) := by
  rw [State.ownSetLimit, if_neg (not_limit_out valid inRange)]
  rcases State.testedRead_of_unread unread with read | ⟨x, read⟩ <;> rw [read]

theorem State.ownSetAccountState_of_unread {state : Byte} (valid : slot.toNat < 4096) (inRange : state = 1 ∨ state = 2)
    (unread : ∀ x, s.slot slot.toNat = some x → x.suspect = true) :
    s.ownSetAccountState slot state = (s, .refuse .wrongState) := by
  rw [State.ownSetAccountState, if_neg (not_accountState_out valid inRange)]
  rcases State.testedRead_of_unread unread with read | ⟨x, read⟩ <;> rw [read]

/-! ### A slot of sound content -/

section Sound

variable (valid : slot.toNat < 4096) (held : s.slot slot.toNat = some x) (known : x.suspect = false)
  (sound : x.damage = .sound)

include valid held known sound

theorem State.ownTopup_of_department {l p q : Nat} (figures : x.account.figures = .department l p q)
    (amount : BitVec 32) : s.ownTopup slot amount = (s, .refuse .wrongState) := by
  rw [State.ownTopup, if_neg (not_slot_out valid), State.testedRead_of_sound held known sound]
  simp only [figures]

theorem State.ownTopup_of_prepaid {b : Nat} (figures : x.account.figures = .prepaid b) (amount : BitVec 32) :
    s.ownTopup slot amount =
      if 9999999 < (b : Int) + amount.toInt ∨ (b : Int) + amount.toInt < x.account.held then (s, .refuse .range)
      else (s.writeAccount slot.toNat { x.account with figures := .prepaid ((b : Int) + amount.toInt).toNat },
        .ok (leBytes 4 ((b : Int) + amount.toInt).toNat)) := by
  rw [State.ownTopup, if_neg (not_slot_out valid), State.testedRead_of_sound held known sound]
  simp only [figures]
  rfl

theorem State.ownSetLimit_of_prepaid {limit : BitVec 32} (inRange : limit.toInt ≤ 9999999) {b : Nat}
    (figures : x.account.figures = .prepaid b) : s.ownSetLimit slot limit = (s, .refuse .wrongState) := by
  rw [State.ownSetLimit, if_neg (not_limit_out valid inRange),
    State.testedRead_of_sound held known sound]
  simp only [figures]

/-- The limit is compared with what the present period has spent and the sessions hold, and the slot is aligned. -/
theorem State.ownSetLimit_of_department {limit : BitVec 32} (inRange : limit.toInt ≤ 9999999) {l p q e : Nat}
    (figures : x.account.figures = .department l p q) (spent : e = if q = s.period then p else 0) :
    s.ownSetLimit slot limit =
      if limit.toInt < (e + x.account.held : Nat) then (s, .refuse .range)
      else (s.writeAccount slot.toNat { x.account with figures := .department limit.toNat e s.period },
        .ok (bytesOf 4 limit ++ leBytes 4 (limit.toNat - e - x.account.held))) := by
  have aligned : ({ x.account with figures := .department limit.toNat p q } : Account).align s.period =
      { x.account with figures := .department limit.toNat e s.period } := by
    unfold Account.align
    by_cases current : q = s.period <;> simp [current, spent]
  rw [State.ownSetLimit, if_neg (not_limit_out valid inRange),
    State.testedRead_of_sound held known sound]
  simp only [figures, Figures.effectiveSpent, ← spent, aligned]
  simp only [Account.credit, Figures.effectiveSpent, if_true]
  rfl

theorem State.ownSetAccountState_of_sound {state : Byte} (inRange : state = 1 ∨ state = 2) :
    s.ownSetAccountState slot state =
      (s.writeAccount slot.toNat { x.account with blocked := decide (state = 2) }, .ok []) := by
  rw [State.ownSetAccountState, if_neg (not_accountState_out valid inRange),
    State.testedRead_of_sound held known sound]

end Sound

end Owners

/-- Settles O31: each request by what the tested read finds, and by the range of what it would write. -/
theorem accountsAmended : Obligations.AccountsAmended := by
  refine ⟨fun s slot amount serving => ?_, fun s slot limit serving => ?_, fun s slot state serving => ?_⟩
  · rw [exec_topup serving, ← State.taken]
    refine ⟨fun out => ?_, fun valid unread => ?_, fun x valid held known sound =>
      ⟨fun l p q figures => ?_, fun b figures => ?_⟩⟩
    · exact congrArg (Host.Outcome.next ∘ answered 0xC3 false) (if_pos out)
    · rw [State.ownTopup_of_unread (s := s.taken) valid unread]
      rfl
    · rw [State.ownTopup_of_department (s := s.taken) valid held known sound figures]
      rfl
    · rw [State.ownTopup_of_prepaid (s := s.taken) valid held known sound figures]
      refine ⟨fun outside => ?_, fun c sum le bears => ?_⟩
      · rw [if_pos outside]
        rfl
      · rw [if_neg (by omega), ← sum, answered_writeAccount held sound, Int.toNat_natCast]
  · rw [exec_setLimit serving, ← State.taken]
    refine ⟨fun out => ?_, fun valid inRange unread => ?_, fun x valid inRange held known sound =>
      ⟨fun b figures => ?_, fun l p q e figures spent => ?_⟩⟩
    · exact congrArg (Host.Outcome.next ∘ answered 0xC4 false) (if_pos out)
    · rw [State.ownSetLimit_of_unread (s := s.taken) valid inRange unread]
      rfl
    · rw [State.ownSetLimit_of_prepaid (s := s.taken) valid held known sound inRange figures]
      rfl
    · rw [State.ownSetLimit_of_department (s := s.taken) valid held known sound inRange figures spent]
      refine ⟨fun below => ?_, fun bears => ?_⟩
      · rw [if_pos below]
        rfl
      · rw [if_neg (Int.not_lt.mpr bears), answered_writeAccount held sound]
        rfl
  · rw [exec_setAccountState serving, ← State.taken]
    refine ⟨fun out => ?_, fun valid inRange unread => ?_, fun x valid inRange held known sound => ?_⟩
    · exact congrArg (Host.Outcome.next ∘ answered 0xC5 false) (if_pos out)
    · rw [State.ownSetAccountState_of_unread (s := s.taken) valid inRange unread]
      rfl
    · rw [State.ownSetAccountState_of_sound (s := s.taken) valid held known sound inRange,
        answered_writeAccount held sound]

end Sys2Proof.Machine
end

section
/-! LOAD-ACCOUNT (R134, R135) and DELETE-ACCOUNT (R141). -/

namespace Sys2Proof.Machine

/-! ### The figures that a LOAD-ACCOUNT carries (R134) -/

/-- A figure above its range reads as negative or as too large. -/
theorem figureInRange_eq (x : BitVec 32) : figureInRange x = decide (x.toNat ≤ 9999999) := by
  unfold figureInRange money
  rw [BitVec.toInt_eq_toNat_cond, Config.maxCents, decide_eq_decide]
  omega

theorem loadFigures_prepaid (b : BitVec 32) (period : Nat) :
    loadFigures 1 [b] period = if b.toNat ≤ 9999999 then some (.prepaid b.toNat) else none := by
  simp [loadFigures, figureInRange_eq]

theorem loadFigures_department (l p : BitVec 32) (period : Nat) : loadFigures 2 [l, p] period =
    if l.toNat ≤ 9999999 ∧ p.toNat ≤ 9999999 ∧ p.toNat ≤ l.toNat then some (.department l.toNat p.toNat period)
    else none := by
  simp [loadFigures, figureInRange_eq]

/-- A kind that is neither carries no figures. -/
theorem loadFigures_of_kind {kind : Byte} (prepaid : kind ≠ 1) (department : kind ≠ 2) (fig : List (BitVec 32))
    (period : Nat) : loadFigures kind fig period = none := by
  have one : kind.toNat ≠ 1 := fun h => prepaid (BitVec.eq_of_toNat_eq h)
  have two : kind.toNat ≠ 2 := fun h => department (BitVec.eq_of_toNat_eq h)
  unfold loadFigures
  split
  · exact absurd ‹_› one
  · exact absurd ‹_› two
  · rfl

/-- The figures `f` that a request of kind `kind` carries as `fig`, in range (R134). -/
def CarriesFigures (kind : Byte) (fig : List (BitVec 32)) (period : Nat) (f : Figures) : Prop :=
  (∃ b, kind = 1 ∧ fig = [b] ∧ b.toNat ≤ 9999999 ∧ f = .prepaid b.toNat) ∨
    ∃ l p, kind = 2 ∧ fig = [l, p] ∧ l.toNat ≤ 9999999 ∧ p.toNat ≤ l.toNat ∧ f = .department l.toNat p.toNat period

theorem CarriesFigures.loadFigures_eq {kind : Byte} {fig : List (BitVec 32)} {period : Nat} {f : Figures}
    (h : CarriesFigures kind fig period f) : loadFigures kind fig period = some f := by
  rcases h with ⟨b, rfl, rfl, le, rfl⟩ | ⟨l, p, rfl, rfl, le, within, rfl⟩
  · rw [loadFigures_prepaid, if_pos le]
  · rw [loadFigures_department, if_pos ⟨le, within.trans le, within⟩]

section Loads

variable {s : State} {slot : BitVec 16} {id : BitVec 40} {kind state rate : Byte} {fig : List (BitVec 32)}

theorem CarriesFigures.wellFormed {period : Nat} {f : Figures} (h : CarriesFigures kind fig period f) :
    (Instr.loadAccount slot id kind state rate fig).wellFormed = true := by
  rcases h with ⟨b, rfl, rfl, _⟩ | ⟨l, p, rfl, rfl, _⟩ <;> rfl

/-- The slot that an accepted LOAD-ACCOUNT writes, for what its sessions hold and their number (R135). -/
def State.loadedSlot (s : State) (id : BitVec 40) (state rate : Byte) (f : Figures) (held count : Nat) : Slot where
  identity := id.toNat
  suspect := false
  account :=
    { blocked := decide (state = 2), rate := rate.toNat, figures := f, held := held, openCount := count
      lastUse := s.stamp }
  damage := .sound

/-- LOAD-ACCOUNT with its values in range: the later checks in order (R134). -/
theorem State.ownLoadAccount_eq (valid : slot.toNat < 4096) (named : id.toNat ≤ 9999999999)
    (known : state = 1 ∨ state = 2) (rated : rate.toNat ≤ 250) {f : Figures}
    (figures : loadFigures kind fig s.period = some f) :
    s.ownLoadAccount slot id kind state rate fig =
      if s.holdsElsewhere slot.toNat id.toNat then (s, .refuse .duplicate)
      else if s.loadBusy slot.toNat id.toNat then (s, .refuse .accountBusy)
      else if f.below (s.boundHold slot.toNat) then (s, .refuse .range)
      else ({ s with slots := putSlot slot.toNat (s.loadedSlot id state rate f (s.boundHold slot.toNat)
          (s.bound slot.toNat).length) s.slots },
        .ok (leBytes 2 slot.toNat ++ leBytes 4 (s.boundHold slot.toNat) ++
          leBytes 1 (s.bound slot.toNat).length)) := by
  have inRange : ¬ (Config.slotCount ≤ slot.toNat ∨ Config.maxIdentity < id.toNat ∨ (state ≠ 1 ∧ state ≠ 2) ∨
      250 < rate.toNat) := by
    simp only [Config.slotCount, Config.maxIdentity]
    rcases known with rfl | rfl <;> simp <;> omega
  rw [State.ownLoadAccount, if_neg inRange, figures]
  rfl

theorem State.holdsElsewhere_iff {n identity : Nat} :
    s.holdsElsewhere n identity = true ↔ ∃ m, s.lookup identity = some m ∧ m ≠ n := by
  unfold State.holdsElsewhere
  cases s.lookup identity <;> simp

theorem State.loadBusy_iff {n identity : Nat} : s.loadBusy n identity = true ↔
    ∃ x, s.slot n = some x ∧ s.bound n ≠ [] ∧ (x.suspect = false ∨ x.identity ≠ identity) := by
  unfold State.loadBusy
  cases s.slot n <;> simp

theorem State.ownLoadAccount_of_out (out : 4095 < slot.toNat ∨ 9999999999 < id.toNat ∨ (state ≠ 1 ∧ state ≠ 2) ∨
    250 < rate.toNat) : s.ownLoadAccount slot id kind state rate fig = (s, .refuse .badValue) := if_pos out

theorem State.ownLoadAccount_of_none (bad : loadFigures kind fig s.period = none) :
    s.ownLoadAccount slot id kind state rate fig = (s, .refuse .badValue) := by
  unfold State.ownLoadAccount
  dsimp only
  rw [bad]
  exact ite_self _

/-! ### The replies to LOAD-ACCOUNT, by its checks in order -/

section Served

variable (serving : s.Serving) (valid : slot.toNat < 4096) (named : id.toNat ≤ 9999999999)
  (known : state = 1 ∨ state = 2) (rated : rate.toNat ≤ 250) {f : Figures}
  (carries : CarriesFigures kind fig s.period f)

include serving valid named known rated carries

theorem exec_loadAccount_eq : exec (.loadAccount slot id kind state rate fig) s = .next (answered 0xC0 false (
    if s.holdsElsewhere slot.toNat id.toNat then (s.taken, .refuse .duplicate)
    else if s.loadBusy slot.toNat id.toNat then (s.taken, .refuse .accountBusy)
    else if f.below (s.boundHold slot.toNat) then (s.taken, .refuse .range)
    else ({ s.taken with slots := putSlot slot.toNat (s.loadedSlot id state rate f (s.boundHold slot.toNat)
        (s.bound slot.toNat).length) s.slots },
      .ok (bytesOf 2 slot ++ leBytes 4 (s.boundHold slot.toNat) ++ leBytes 1 (s.bound slot.toNat).length)))) := by
  rw [exec_loadAccount serving carries.wellFormed, ← State.taken,
    State.ownLoadAccount_eq (s := s.taken) valid named known rated carries.loadFigures_eq]
  rfl

theorem exec_loadAccount_of_elsewhere {m : Nat} (found : s.lookup id.toNat = some m) (other : m ≠ slot.toNat) :
    exec (.loadAccount slot id kind state rate fig) s = .next (s.replied 0xC0 8 []) := by
  rw [exec_loadAccount_eq serving valid named known rated carries,
    if_pos (State.holdsElsewhere_iff.mpr ⟨m, found, other⟩)]
  rfl

variable (mine : ∀ m, s.lookup id.toNat = some m → m = slot.toNat)

include mine

theorem exec_loadAccount_of_busy {x : Slot} (held : s.slot slot.toNat = some x) (bound : s.bound slot.toNat ≠ [])
    (other : x.suspect = false ∨ x.identity ≠ id.toNat) :
    exec (.loadAccount slot id kind state rate fig) s = .next (s.replied 0xC0 9 []) := by
  rw [exec_loadAccount_eq serving valid named known rated carries,
    if_neg fun h => by
      obtain ⟨m, found, ne⟩ := State.holdsElsewhere_iff.mp h
      exact ne (mine m found),
    if_pos (State.loadBusy_iff.mpr ⟨x, held, bound, other⟩)]
  rfl

/-- With no session bound, or in the repair of a SUSPECT slot, only the figures are left to check. -/
theorem exec_loadAccount_of_idle (idle : s.bound slot.toNat = [] ∨
      ∃ x, s.slot slot.toNat = some x ∧ x.suspect = true ∧ x.identity = id.toNat) :
    exec (.loadAccount slot id kind state rate fig) s =
      .next (if f.below (s.boundHold slot.toNat) then s.replied 0xC0 10 []
        else ({ s with slots := putSlot slot.toNat (s.loadedSlot id state rate f (s.boundHold slot.toNat)
            (s.bound slot.toNat).length) s.slots } : State).replied 0xC0 0
          (bytesOf 2 slot ++ leBytes 4 (s.boundHold slot.toNat) ++ leBytes 1 (s.bound slot.toNat).length)) := by
  have notBusy : ¬ s.loadBusy slot.toNat id.toNat = true := by
    rw [State.loadBusy_iff]
    rintro ⟨x, held, bound, other⟩
    obtain ⟨y, held', suspect, same⟩ := idle.resolve_left bound
    cases held.symm.trans held'
    exact other.elim (fun known => by simp [known] at suspect) fun ne => ne same
  rw [exec_loadAccount_eq serving valid named known rated carries,
    if_neg fun h => by
      obtain ⟨m, found, ne⟩ := State.holdsElsewhere_iff.mp h
      exact ne (mine m found),
    if_neg notBusy]
  split <;> rfl

end Served

end Loads

/-- Settles O28: the checks of the owning rule in order, and the account written whole where none refuses. -/
theorem loadAccountChecked : Obligations.LoadAccountChecked := by
  refine ⟨fun s slot id state rate serving =>
      ⟨fun kind fig fits out => ?_, fun valid named known rated free idle absent => ?_⟩,
    fun s slot id rate b serving valid named rated inRange => ?_, fun s slot id kind state rate fig serving bad => ?_,
    fun s slot id kind state rate fig figures held serving valid named known rated carries isHeld => ?_⟩
  · have wellFormed : (Instr.loadAccount slot id kind state rate fig).wellFormed = true := by
      rcases fits with ⟨rfl, length⟩ | ⟨rfl, length⟩ <;> simp [Instr.wellFormed, length]
    rw [exec_loadAccount serving wellFormed, ← State.taken, State.ownLoadAccount_of_out out]
    rfl
  · have loaded {kind : Byte} {fig : List (BitVec 32)} {f : Figures} (carries : CarriesFigures kind fig s.period f) :
        exec (.loadAccount slot id kind state rate fig) s =
          .next (({ s with slots := putSlot slot.toNat (s.loadedSlot id state rate f 0 0) s.slots } :
            State).replied 0xC0 0 (bytesOf 2 slot ++ [0, 0, 0, 0, 0])) := by
      have hold : s.boundHold slot.toNat = 0 := by rw [State.boundHold, idle]; rfl
      rw [exec_loadAccount_of_idle serving valid named known rated carries (by simp [absent]) (.inl idle), hold, idle,
        if_neg]
      · simp [leBytes]
      · rcases carries with ⟨b, _, _, _, rfl⟩ | ⟨l, p, _, _, _, within, rfl⟩
        · simp [Figures.below]
        · simp [Figures.below, within]
    exact ⟨fun b le => loaded (.inl ⟨b, rfl, rfl, le, rfl⟩),
      fun l p le within => loaded (.inr ⟨l, p, rfl, rfl, le, within, rfl⟩)⟩
  · have carries : CarriesFigures 1 [b] s.period (.prepaid b.toNat) := .inl ⟨b, rfl, rfl, inRange, rfl⟩
    exact ⟨fun m found other => exec_loadAccount_of_elsewhere serving valid named (.inl rfl) rated carries found other,
      fun x mine held known bound =>
        exec_loadAccount_of_busy serving valid named (.inl rfl) rated carries mine held bound (.inl known)⟩
  · have wellFormed : (Instr.loadAccount slot id kind state rate fig).wellFormed = true := by
      rcases bad with ⟨one, two, length⟩ | ⟨b, rfl, rfl, _⟩ | ⟨l, p, rfl, rfl, _⟩
      · rw [Instr.wellFormed, if_neg one, if_neg two]
        simpa using length
      · rfl
      · rfl
    have none : loadFigures kind fig s.period = none := by
      rcases bad with ⟨one, two, _⟩ | ⟨b, rfl, rfl, above⟩ | ⟨l, p, rfl, rfl, outside⟩
      · exact loadFigures_of_kind one two fig _
      · rw [loadFigures_prepaid, if_neg (Nat.not_le.mpr above)]
      · rw [loadFigures_department, if_neg (by omega)]
    rw [exec_loadAccount serving wellFormed, ← State.taken, State.ownLoadAccount_of_none (s := s.taken) none]
    rfl
  · obtain rfl : held = s.boundHold slot.toNat := isHeld
    refine ⟨fun m found other => exec_loadAccount_of_elsewhere serving valid named known rated carries found other,
      fun mine => ⟨fun x held bound other =>
        exec_loadAccount_of_busy serving valid named known rated carries mine held bound other, fun idle => ?_⟩⟩
    rw [exec_loadAccount_of_idle serving valid named known rated carries mine idle]
    refine ⟨fun below => ?_, fun bears => ?_⟩
    · rw [if_pos]
      cases figures <;> simpa [Figures.below] using below
    · rw [if_neg]
      · rfl
      · cases figures <;> simpa [Figures.below] using bears

/-! ### DELETE-ACCOUNT (R141) -/

/-- A slot in use is freed unless sessions are bound to it. -/
theorem exec_deleteAccount_of_some {s : State} (serving : s.Serving) {slot : BitVec 16} {x : Slot}
    (valid : slot.toNat < 4096) (held : s.slot slot.toNat = some x) :
    exec (.deleteAccount slot) s = .next (if s.bound slot.toNat = []
      then ({ s with slots := freeSlot slot.toNat s.slots } : State).replied 0xC6 0 [] else s.replied 0xC6 9 []) := by
  have owner : s.taken.ownDeleteAccount slot = if s.bound slot.toNat = []
      then ({ s.taken with slots := freeSlot slot.toNat s.slots }, .ok []) else (s.taken, .refuse .accountBusy) := by
    rw [State.ownDeleteAccount, if_neg (not_slot_out valid),
      show s.taken.slot slot.toNat = some x from held, show s.taken.bound slot.toNat = s.bound slot.toNat from rfl]
    cases s.bound slot.toNat <;> rfl
  rw [exec_deleteAccount serving, ← State.taken, owner]
  split <;> rfl

/-- A freed identity is in no slot (R125). -/
theorem TableKept.findIdentity_freeSlot {l : List (Nat × Slot)} (h : TableKept l) {n : Nat} {x : Slot}
    (held : getSlot n l = some x) : findIdentity x.identity (freeSlot n l) = none := by
  have kept := h.free n
  cases found : findIdentity x.identity (freeSlot n l) with
  | none => rfl
  | some m =>
      obtain ⟨y, read, same⟩ := kept.findIdentity_eq_some_iff.mp found
      by_cases here : m = n
      · subst here
        exact nomatch (h.getSlot_free m).symm.trans read
      · rw [getSlot_freeSlot_of_ne here] at read
        exact absurd (h.number_eq read held same) here

/-- Settles O32: the slot is FREE, so the directory no longer gives it, and the card finds no account. -/
theorem deleteAccountFrees : Obligations.DeleteAccountFrees := by
  intro s slot serving wf distinct
  have table : TableKept s.slots := ⟨wf, distinct⟩
  refine ⟨fun out => ?_, fun valid free => ?_, fun valid held bound => ?_, fun x valid held idle =>
    ⟨freeSlot slot.toNat s.slots, ?_, table.getSlot_free _, fun m other => getSlot_freeSlot_of_ne other _,
      fun i id mine inRange takes ready none guard => ?_⟩⟩
  · rw [exec_deleteAccount serving]
    exact congrArg (Host.Outcome.next ∘ answered 0xC6 false) (if_pos out)
  · rw [exec_deleteAccount serving, ← State.taken, State.ownDeleteAccount, if_neg (not_slot_out valid),
      show s.taken.slot slot.toNat = none from free]
    rfl
  · obtain ⟨x, present⟩ := Option.ne_none_iff_exists'.mp held
    rw [exec_deleteAccount_of_some serving valid present, if_neg bound]
  · rw [exec_deleteAccount_of_some serving valid held, if_pos idle]
  · obtain ⟨⟨alive, _, _⟩, run⟩ := serving
    have running : s.running = true := by rw [State.running, alive, run]; rfl
    have awake : (s.station i).state ≠ .save := by rw [ready]; exact nofun
    have unknown : findIdentity id.toNat (freeSlot slot.toNat s.slots) = .none := by
      rw [mine]
      exact table.findIdentity_freeSlot held
    obtain ⟨u, taken, refused, _⟩ := cardRefusals.1
      (({ s with slots := freeSlot slot.toNat s.slots } : State).replied 0xC6 0 []) i id running takes (mine ▸ inRange)
      awake .unknownCard (.inl ⟨none, .inr (.inr ⟨ready, guard, unknown, rfl⟩)⟩)
    exact ⟨u, taken, refused⟩

end Sys2Proof.Machine
end

section
/-! Records and reservations (R153 to R157) on their own: what the events of a station make of the journal beside the
sessions, operation by operation. Nothing here rests on the money of a station or on the account table, so O58 needs
neither: a settlement writes its record in place of its reservation whatever the account step finds. -/

namespace Sys2Proof.Machine

theorem Books.Moves.journalKept {P : Prop} {b c : Books} (moves : b.Moves P c) (p : P) (h : b.JournalKept) :
    c.JournalKept := by
  induction moves with
  | refl => exact h
  | tail _ move ih => exact move.journalKept p ih

/-- One reservation for each session, and records and reservations within the journal. -/
theorem State.journalKept_books {s : State} : s.books.JournalKept ↔ s.JournalKept := by
  have sessions := s.total_books
  exact ⟨fun ⟨reserved, room, spare, newest⟩ => ⟨reserved.trans sessions, room, spare, newest⟩,
    fun ⟨reserved, room, spare, newest⟩ => ⟨reserved.trans sessions.symm, room, spare, newest⟩⟩

/-- The account step of a settlement touches the account table alone (R71). -/
theorem State.books_accountStep (s : State) (x : Session) (cents : Nat) :
    ∃ slots, (s.accountStep x cents).1.books = { s.books with slots := slots } := by
  unfold State.accountStep
  split
  · split <;> rename_i read
    · rw [State.books_writeAccount (State.holds_of_testedRead read).1, State.books_of_testedRead read]
      exact ⟨_, rfl⟩
    · exact ⟨_, State.books_of_testedRead read⟩
  · exact ⟨s.slots, rfl⟩

/-- An operation that keeps records and reservations in agreement with the sessions. -/
structure State.KeepsJournal (s t : State) : Prop where
  journal : s.books.JournalKept → t.books.JournalKept

namespace State.KeepsJournal

variable {s t u : State} {i : StationId}

theorem refl (s : State) : s.KeepsJournal s := ⟨id⟩

theorem trans (h : s.KeepsJournal t) (k : t.KeepsJournal u) : s.KeepsJournal u := ⟨k.journal ∘ h.journal⟩

/-- An operation that leaves the books. -/
theorem ofBooks (same : t.books = s.books) : s.KeepsJournal t := ⟨by rw [same]; exact id⟩

/-- Postings that rest on nothing else. -/
theorem ofMoves (moves : s.books.Moves True t.books) : s.KeepsJournal t := ⟨moves.journalKept trivial⟩

theorem ofMove (move : s.books.Move True t.books) : s.KeepsJournal t := ofMoves (.single move)

/-! ### Operations that leave the books -/

theorem enterState (n : StationState) : s.KeepsJournal (s.enterState i n) := ofBooks (s.books_enterState i n)

theorem enterOffline : s.KeepsJournal (s.enterOffline i) := ofBooks (s.books_enterOffline i)

theorem reloadBoth : s.KeepsJournal (s.reloadBoth i) := ofBooks (s.books_reloadBoth i)

theorem indicate (f : Indicator) : s.KeepsJournal (s.indicate i f) := ofBooks (s.books_indicate i f)

theorem refuse (r : RefuseReason) (c : CardClass) : s.KeepsJournal (s.refuse i r c) := ofBooks (s.books_refuse i r c)

theorem activity (k : TimerId) : s.KeepsJournal (s.activity i k) := ofBooks (s.books_activity i k)

theorem evaluatePause (b : Bool) : s.KeepsJournal (s.evaluatePause i b) := ofBooks (s.books_evaluatePause i b)

theorem reach (n : Nat) : s.KeepsJournal (s.reach n) := ofBooks rfl

/-! ### Sessions -/

theorem endWithoutRecord {x : Session} (present : (s.station i).session = some x) (phase : x.phase = .authorizing) :
    s.KeepsJournal (s.endWithoutRecord i) := ofMove (State.move_endWithoutRecord present phase)

/-- A SETTLE record takes the place of its session's reservation (R155). -/
theorem settle {x : Session} (present : (s.station i).session = some x) (r : CloseReason) :
    s.KeepsJournal (s.settle i x r) := by
  refine ⟨fun kept => ?_⟩
  obtain ⟨slots, step⟩ := s.books_accountStep x x.chargeCents
  unfold State.settle
  dsimp only
  rw [State.books_setSession, State.books_postAt, State.books_indicate, State.writeSettle]
  generalize (s.accountStep x x.chargeCents).1 = t at step
  show Books.JournalKept { t.books.assign i none with
    journal := t.books.journal ++ [_], reservations := t.books.reservations - 1 }
  rw [step]
  exact kept.unreserve (State.stakes_books present) slots (by rw [List.length_append]; exact Nat.le_refl _)

theorem settleInService {x : Session} (present : (s.station i).session = some x) (r : CloseReason) :
    s.KeepsJournal (s.settleInService i x r) := by
  unfold State.settleInService
  dsimp only
  split
  · exact (settle present r).trans enterOffline
  · exact (settle present r).trans reloadBoth

theorem closeRequest (r : CloseReason) : s.KeepsJournal (s.closeRequest i r) := by
  unfold State.closeRequest
  cases present : (s.station i).session with
  | none => exact refl s
  | some x =>
      dsimp only
      split
      · rename_i copying
        have closing : s.KeepsJournal (s.modStation i fun st =>
            { st with session := some { x with phase := .closing r }, pauseTimer := none }) :=
          ofBooks (State.books_modStation_of_some present rfl
            (Session.stake_phase (p := .closing r) (Session.phase_of_copying copying) nofun x.forced))
        split
        · exact closing.trans (settleInService (by rw [State.station_modStation_self]) _)
        · exact closing
      · exact refl s

theorem quietTest : s.KeepsJournal (s.quietTest i) := by
  unfold State.quietTest
  dsimp only
  split
  · split
    · exact enterState _
    · split
      · exact closeRequest _
      · exact refl s
  · exact refl s

theorem endEvent (b : StationState) : s.KeepsJournal (s.endEvent i b) := by
  unfold State.endEvent
  split
  · exact quietTest
  · exact refl s

theorem emptyPathReport : s.KeepsJournal (s.emptyPathReport i) := by
  unfold State.emptyPathReport
  dsimp only
  split
  · exact quietTest
  · rename_i present
    split
    · exact quietTest
    · split
      · exact quietTest.trans (settleInService present _)
      · exact quietTest

/-! ### Jams -/

theorem reportIfEmptied (b : List Sheet) : s.KeepsJournal (s.reportIfEmptied i b) := by
  unfold State.reportIfEmptied
  split
  · exact refl s
  · exact emptyPathReport

theorem declareJam (c : JamCause) : s.KeepsJournal (s.declareJam i c) := by
  have new : s.KeepsJournal (s.declareNew i c) :=
    trans (ofBooks (by simp only [State.books_exitTest, State.books_enterState, State.books_handOver,
      State.books_openJam])) (reportIfEmptied _)
  have fold : s.KeepsJournal (s.foldJam i) :=
    trans (ofBooks (by
      rw [State.books_exitTest, State.books_enterState]
      exact (State.books_modStation_of_session rfl).trans (State.books_handOver _ _))) (reportIfEmptied _)
  have offline : s.KeepsJournal (s.offlineJam i c) :=
    trans (ofBooks (by simp only [State.books_postAt, State.books_closeJam, State.books_handOver,
      State.books_openJam])) (reportIfEmptied _)
  unfold State.declareJam
  cases (s.station i).state with
  | offline => exact offline
  | jammed => exact fold
  | recover => exact fold
  | notReady => exact new
  | ready => exact new
  | save => exact new

theorem startStation : s.KeepsJournal (s.startStation i) := by
  have started (n : StationState) : s.KeepsJournal ((s.enterState i n).reloadBoth i) :=
    (enterState n).trans reloadBoth
  unfold State.startStation
  dsimp only
  split
  · exact (started _).trans ((declareJam _).trans (endEvent _))
  · exact (started _).trans (endEvent _)

/-! ### Sheets -/

theorem popSheet (e : Sheet) (r : List Sheet) : s.KeepsJournal (s.popSheet i e r) := by
  have popped : s.KeepsJournal ((s.modStation i fun st =>
      { st with path := r, meters := st.meters.deliver e }).reportDelivery i e) :=
    ofBooks ((State.books_reportDelivery _ _ _).trans (State.books_modStation_of_session rfl))
  unfold State.popSheet
  dsimp only
  split
  · exact popped.trans emptyPathReport
  · split
    · exact popped.trans (declareJam _)
    · exact popped

theorem deliverSheet : s.KeepsJournal (s.deliverSheet i) := by
  unfold State.deliverSheet
  split
  · exact popSheet _ _
  · exact ofBooks (State.books_strayDelivery _ _)

theorem feedSheet : s.KeepsJournal (s.feedSheet i) := by
  have covered : s.KeepsJournal ((s.modStation i fun st =>
      { st with lastSheet := wrapInc Config.wrap16 (s.station i).lastSheet }).coverSheet i
        (wrapInc Config.wrap16 (s.station i).lastSheet) (s.station i).lines.kind) :=
    ofBooks ((State.books_coverSheet _ _ _ _).trans (State.books_modStation_of_session rfl))
  unfold State.feedSheet
  dsimp only
  split
  · exact covered
  · exact covered.trans (declareJam _)

/-! ### Line events and expiries -/

theorem readyFell : s.KeepsJournal (s.readyFell i) := by
  unfold State.readyFell
  dsimp only
  cases (s.station i).state with
  | offline => exact refl s
  | notReady => exact refl s
  | jammed => exact refl s
  | save => exact enterState _
  | ready =>
      dsimp only
      split
      · exact enterState _
      · exact declareJam _
  | recover =>
      dsimp only
      split
      · exact trans (ofBooks (State.books_modStation_of_session rfl)) (enterState _)
      · exact declareJam _

theorem jamRose : s.KeepsJournal (s.jamRose i) := by
  unfold State.jamRose
  split
  · exact refl s
  · exact declareJam _

theorem lineEvent (n : Line) (l : Bool) : s.KeepsJournal (s.lineEvent i n l) := by
  unfold State.lineEvent
  split
  · exact (activity _).trans feedSheet
  · exact (activity _).trans deliverSheet
  · exact jamRose
  · exact ofBooks (State.books_exitTest _ _)
  · exact ofBooks (State.books_readyRose _ _)
  · exact readyFell
  · exact ofBooks (State.books_stoppedRose _ _)
  · exact refl s

theorem recognize (n : Line) (l : Bool) : s.KeepsJournal (s.recognize i n l) := by
  have moved (k : Nat) (v : LineState) : s.KeepsJournal ((s.reach k).setLine i n v) :=
    (reach k).trans (ofBooks (State.books_setLine _ _ _ _))
  unfold State.recognize
  dsimp only
  split
  · exact refl s
  · split
    · exact moved _ _
    · exact (moved _ _).trans ((lineEvent n l).trans (endEvent _))

theorem transitExpires : s.KeepsJournal (s.transitExpires i) := by
  unfold State.transitExpires
  split
  · exact refl s
  · split
    · exact (reach _).trans ((declareJam _).trans (endEvent _))
    · exact refl s

theorem idleExpires (k : TimerId) : s.KeepsJournal (s.idleExpires i k) := by
  unfold State.idleExpires
  split
  · split
    · exact (reach _).trans ((ofBooks (State.books_setTimer _ _ _ _)).trans quietTest)
    · exact refl s
  · exact refl s

theorem authExpires : s.KeepsJournal (s.authExpires i) := by
  unfold State.authExpires
  split
  · rename_i present
    split
    · rename_i active
      exact (reach _).trans ((endWithoutRecord (s := s.reach _) present (Session.phase_of_authorizing active.2)).trans
        ((refuse _ _).trans reloadBoth))
    · exact refl s
  · exact refl s

theorem purgeExpires : s.KeepsJournal (s.purgeExpires i) := by
  unfold State.purgeExpires
  split
  · exact refl s
  · split
    · exact (reach _).trans ((ofBooks (State.books_endRecover _ _)).trans (endEvent _))
    · exact refl s

/-! ### Readers -/

theorem read {n : Nat} {r : SlotRead} (h : s.testedRead n = (t, r)) : s.KeepsJournal t :=
  ofMoves (State.moves_of_testedRead h)

theorem admitCampus (none : (s.station i).session = none) (guard : s.guardPasses = true) (n : Nat) :
    s.KeepsJournal (s.admitCampus i n) := by
  unfold State.admitCampus
  split
  · exact refuse _ _
  · split <;> rename_i found
    · rename_i t y
      obtain ⟨held, known⟩ := State.holds_of_testedRead found
      have books := State.books_of_testedRead found
      have idle : (t.station i).session = .none := by
        rw [State.station, State.stations_of_testedRead found]
        exact none
      have passes : t.guardPasses = true := by
        have journal : t.journal = s.journal := congrArg Books.journal books
        have reservations : t.reservations = s.reservations := congrArg Books.reservations books
        rwa [State.guardPasses, journal, reservations]
      dsimp only
      split
      · exact (read found).trans (refuse _ _)
      · split
        · exact (read found).trans (refuse _ _)
        · exact (read found).trans ((ofMove (State.move_grant idle held known (Nat.min_le_right _ _) passes _)).trans
            ((indicate _).trans (evaluatePause _)))
    · exact (read found).trans (refuse _ _)

theorem admitBank (none : (s.station i).session = none) (guard : s.guardPasses = true) (token : BitVec 128) :
    s.KeepsJournal (s.admitBank i token) := by
  unfold State.admitBank
  extract_lets r created timed
  have referred : s.KeepsJournal { s with authRef := r } := ofBooks rfl
  have begun : State.KeepsJournal { s with authRef := r } created :=
    ofMove (State.move_createSession (s := { s with authRef := r }) (p := .bank r token) none nofun
      (fun _ => ⟨r, token, rfl⟩) guard _ _)
  have timing : created.KeepsJournal timed := ofBooks (State.books_modStation_of_session rfl)
  have posted : timed.KeepsJournal (timed.postAt .authRequest i) := ofBooks rfl
  exact referred.trans (begun.trans (timing.trans (posted.trans (indicate _))))

theorem admitCard (none : (s.station i).session = none) (c : Card) : s.KeepsJournal (s.admitCard i c) := by
  unfold State.admitCard
  split
  · exact refuse _ _
  · split
    · exact refuse _ _
    · rename_i passes
      have guard : s.guardPasses = true := by simpa using passes
      cases c with
      | campus => exact admitCampus none guard _
      | bank => exact admitBank none guard _

theorem extendSession {x : Session} {n : Nat} (present : (s.station i).session = some x)
    (paid : x.payment = .campus n) : s.KeepsJournal (s.extendSession i n) := by
  unfold State.extendSession
  split <;> rename_i found
  · rename_i t y
    have present' : (t.station i).session = some x := by
      rw [State.station, State.stations_of_testedRead found]
      exact present
    obtain ⟨held, known⟩ := State.holds_of_testedRead found
    have raised (extension : Nat) (covered : extension ≤ y.account.credit t.period) :
        s.KeepsJournal ((t.writeAccount n (y.account.extend t.period extension t.stamp)).modSession i fun x =>
          { x with hold := x.hold + extension, extendCount := satAdd 255 x.extendCount 1 }) :=
      (read found).trans (ofMove (State.move_extend present' paid held known covered rfl))
    dsimp only
    split
    · exact (read found).trans (refuse _ _)
    · split
      · exact (read found).trans (refuse _ _)
      · split
        · exact (raised _ (Nat.min_le_right _ _)).trans ((indicate _).trans (evaluatePause _))
        · exact (raised _ (Nat.min_le_right _ _)).trans (evaluatePause _)
  · exact (read found).trans (refuse _ _)

theorem takeCard (c : Card) : s.KeepsJournal (s.takeCard i c) := by
  unfold State.takeCard
  split
  · exact admitCard ‹_› _
  · rename_i present
    split
    · split
      · exact extendSession present (State.payment_of_ownCard ‹_›)
      · exact refuse _ _
    · exact refuse _ _

theorem takeEnd : s.KeepsJournal (s.takeEnd i) := by
  unfold State.takeEnd
  split
  · exact refuse _ _
  · rename_i present
    split
    · exact closeRequest _
    · split
      · rename_i waits
        exact (endWithoutRecord present (Session.phase_of_authorizing waits)).trans ((indicate _).trans reloadBoth)
      · exact refuse _ _

theorem readerFrame (c : ReaderCondition) {f g : State → State} (hf : ∀ s : State, s.KeepsJournal (f s))
    (hg : ∀ s : State, s.KeepsJournal (g s)) : s.KeepsJournal (s.readerFrame i c f g) := by
  have heard : s.KeepsJournal (s.setReader i c) := ofBooks (State.books_setReader _ _ _)
  unfold State.readerFrame
  dsimp only
  split
  · split
    · exact heard.trans ((activity _).trans ((hf _).trans (endEvent _)))
    · exact heard.trans (hg _)
  · exact refl s

theorem discardFrame (c : ReaderCondition) : s.KeepsJournal (s.discardFrame i c) :=
  readerFrame c (fun _ => refuse _ _) fun _ => refuse _ _

theorem cardArrives (c : Card) : s.KeepsJournal (s.cardArrives i c) := by
  unfold State.cardArrives
  split
  · split
    · exact readerFrame _ (fun _ => takeCard c) fun _ => refuse _ _
    · exact discardFrame _
  · exact refl s

theorem endArrives : s.KeepsJournal (s.endArrives i) := by
  unfold State.endArrives
  split
  · exact readerFrame _ (fun _ => takeEnd) fun _ => refuse _ _
  · exact refl s

theorem malformedArrives : s.KeepsJournal (s.malformedArrives i) := by
  unfold State.malformedArrives
  split
  · exact discardFrame _
  · exact refl s

theorem readerGap : s.KeepsJournal (s.readerGap i) := by
  unfold State.readerGap
  split
  · exact discardFrame _
  · exact refl s

end State.KeepsJournal

end Sys2Proof.Machine
end

section
/-! What the requests make of the journal beside the sessions (R164, step 5). -/

namespace Sys2Proof.Machine

namespace State.KeepsJournal

variable {s t u : State} {i : StationId}

/-! ### Requests at a station -/

theorem stopStation : s.KeepsJournal (s.stopStation i) := by
  unfold State.stopStation
  split
  · exact enterOffline
  · rename_i present
    split
    · rename_i waits
      exact (endWithoutRecord present (Session.phase_of_authorizing waits)).trans ((indicate _).trans enterOffline)
    · have pending : s.KeepsJournal (s.modSession i fun x => { x with stopPending := true }) :=
        ofBooks (State.books_modStation_of_some present (congrArg (Option.map _) present) rfl)
      exact pending.trans (closeRequest _)

theorem openCounter (none : (s.station i).session = none) (guard : s.guardPasses = true) (hold ref : Nat) :
    s.KeepsJournal (s.openCounter i hold ref) := by
  have created (u : State) (idle : (u.station i).session = .none) (passes : u.guardPasses = true) (rate : Nat)
      (b : StationState) : u.KeepsJournal ((((u.createSession i (.counter ref) hold rate .active).indicate i
        (.accept hold)).evaluatePause i false).endEvent i b) :=
    (ofMove (State.move_createSession (p := .counter ref) (phase := .active) idle nofun nofun passes _ _)).trans
      ((indicate _).trans ((evaluatePause _).trans (endEvent _)))
  unfold State.openCounter
  dsimp only
  split
  · exact (enterState _).trans
      (created (s.enterState i .ready) (by rw [State.station_enterState_self]; exact none) guard _ _)
  · exact created s none guard _ _

theorem acceptAuth {x : Session} (present : (s.station i).session = some x) (phase : x.phase = .authorizing)
    (hold : Nat) : s.KeepsJournal (s.acceptAuth i hold) := by
  refine ofMove ?_
  unfold State.acceptAuth
  rw [State.books_evaluatePause, State.books_indicate, State.books_reloadBoth]
  exact State.move_accept present phase hold (congrArg (Option.map _) present)

theorem declineAuth {x : Session} (present : (s.station i).session = some x) (phase : x.phase = .authorizing) :
    s.KeepsJournal (s.declineAuth i) := (endWithoutRecord present phase).trans ((refuse _ _).trans reloadBoth)

/-! ### The owning blocks -/

theorem ownSetProfile (n : Byte) (p : ProfileFields) : s.KeepsJournal (s.ownSetProfile n p).1 := by
  unfold State.ownSetProfile
  split
  · exact refl s
  · rename_i i _
    have changed : s.KeepsJournal (s.modStation i fun st =>
        { st with profile := profileOf p, lines := st.lines.newWindows s.now st.profile (profileOf p) }) :=
      ofBooks (State.books_modStation_of_session rfl)
    dsimp only
    split
    · exact refl s
    · split
      · exact refl s
      · split
        · exact changed.trans (declareJam _)
        · exact changed

theorem ownStartStation (n : Byte) : s.KeepsJournal (s.ownStartStation n).1 := by
  unfold State.ownStartStation
  split
  · exact refl s
  · split
    · exact refl s
    · exact startStation

theorem ownStopStation (n : Byte) : s.KeepsJournal (s.ownStopStation n).1 := by
  unfold State.ownStopStation
  split
  · exact refl s
  · split
    · exact refl s
    · exact stopStation

theorem ownWakeStation (n : Byte) : s.KeepsJournal (s.ownWakeStation n).1 := by
  unfold State.ownWakeStation
  split
  · exact refl s
  · split
    · exact refl s
    · exact (activity _).trans (endEvent _)

theorem ownOpenSession (n : Byte) (a h : BitVec 32) : s.KeepsJournal (s.ownOpenSession n a h).1 := by
  unfold State.ownOpenSession
  split
  · exact refl s
  · rename_i i _
    dsimp only
    split
    · exact refl s
    · rename_i free
      have none : (s.station i).session = none := by
        rw [not_or, Bool.not_eq_true, Option.isSome_eq_false_iff, Option.isNone_iff_eq_none] at free
        exact free.2
      split
      · exact refl s
      · split
        · exact refl s
        · rename_i passes
          exact openCounter none (by simpa using passes) _ _

theorem ownEndSession (n : Byte) : s.KeepsJournal (s.ownEndSession n).1 := by
  unfold State.ownEndSession
  split
  · exact refl s
  · split
    · exact refl s
    · split
      · exact closeRequest _
      · split <;> exact refl s

theorem ownAuthResult (n : Byte) (r : BitVec 16) (a : BitVec 32) : s.KeepsJournal (s.ownAuthResult n r a).1 := by
  unfold State.ownAuthResult
  split
  · exact refl s
  · split
    · exact refl s
    · dsimp only
      split
      · exact refl s
      · rename_i present
        split
        · rename_i awaits
          have phase := Session.phase_of_authorizing (Bool.and_eq_true_iff.mp awaits).1
          split
          · exact declineAuth present phase
          · exact acceptAuth present phase _
        · exact refl s

/-- A request leaves the books, posts to them, or is an event at one station. -/
theorem serve (r : Instr) : s.KeepsJournal (s.serve r).1 := by
  cases r with
  | getStatus => exact ofBooks rfl
  | turnPeriod => exact ofBooks rfl
  | setTime x => exact ofBooks (State.books_testAlarm _)
  | setPeriodAlarm p x => exact ofBooks (State.books_ownSetPeriodAlarm p x)
  | setDevice mask => exact ofBooks (State.books_ownSetDevice mask)
  | clearAll => exact ofMoves State.moves_ownClearAll
  | takeNotice => exact ofBooks State.books_ownTakeNotice
  | setProfile n p => exact ownSetProfile n p
  | readProfile n => exact ofBooks (State.books_ownReadProfile n)
  | startStation n => exact ownStartStation n
  | stopStation n => exact ownStopStation n
  | wakeStation n => exact ownWakeStation n
  | readStation n => exact ofBooks (State.books_ownReadStation n)
  | readJam n => exact ofBooks (State.books_ownReadJam n)
  | readMeters n => exact ofBooks (State.books_ownReadMeters n)
  | openSession n a h => exact ownOpenSession n a h
  | endSession n => exact ownEndSession n
  | readSession n => exact ofBooks (State.books_ownReadSession n)
  | readAuth n => exact ofBooks (State.books_ownReadAuth n)
  | authResult n r a => exact ownAuthResult n r a
  | loadPlan n f => exact ofBooks (State.books_ownLoadPlan n f)
  | amendPlan n m v => exact ofBooks (State.books_ownAmendPlan n m v)
  | readPlan n => exact ofBooks (State.books_ownReadPlan n)
  | quote n r k t => exact ofBooks (State.books_ownQuote n r k t)
  | loadAccount sl id k st rt fg => exact ofMoves (State.moves_ownLoadAccount sl id k st rt fg)
  | readAccount n => exact ofMoves (State.moves_ownReadAccount n)
  | findAccount n => exact ofMoves (State.moves_ownFindAccount n)
  | topup n a => exact ofMoves (State.moves_ownTopup n a)
  | setLimit n a => exact ofMoves (State.moves_ownSetLimit n a)
  | setAccountState n a => exact ofMoves (State.moves_ownSetAccountState n a)
  | deleteAccount n => exact ofMoves (State.moves_ownDeleteAccount n)
  | readJournal => exact ofBooks State.books_ownReadJournal
  | releaseJournal n => exact ofMoves (State.moves_ownReleaseJournal n)
  | _ => exact refl s

theorem perform (r : Instr) : s.KeepsJournal (s.perform r).1 := by
  unfold State.perform
  split
  · exact refl s
  · exact serve r

end State.KeepsJournal

end Sys2Proof.Machine
end

section
/-! The restart (R180 to R186) and the two invariants of O58: records and reservations beside the sessions, and what the
pieces made so far have left of the paths and the sessions. The RESTART record needs the second: it takes the place that
the reservations kept free, so no session may be left (R154, R157, R184). -/

namespace Sys2Proof.Machine

/-- The two invariants of O58. -/
structure State.Journaled (s : State) : Prop where
  journal : s.books.JournalKept
  restart : s.RestartKept

theorem State.journaled_iff {s : State} : s.Journaled ↔ s.JournalKept ∧ s.RestartKept :=
  ⟨fun ⟨journal, restart⟩ => ⟨State.journalKept_books.mp journal, restart⟩,
    fun ⟨journal, restart⟩ => ⟨State.journalKept_books.mpr journal, restart⟩⟩

/-! ### One piece -/

/-- What piece `p` leaves of the stations of `s`: an empty path and an ended session stay so, and the piece that writes
a path off or settles a session has done so (R183, R184). -/
structure State.PieceDone (p : Piece) (s t : State) : Prop where
  path : ∀ i, (s.station i).path = [] ∨ p = .writeOff i → (t.station i).path = []
  session : ∀ i, (s.station i).session = none ∨ p = .settle i → (t.station i).session = none

namespace State.PieceDone

variable {s t : State} {p : Piece} {i : StationId}

/-- A piece that touches no station. -/
theorem ofStations (same : t.stations = s.stations) (writeOff : ∀ i, p ≠ .writeOff i) (settle : ∀ i, p ≠ .settle i) :
    State.PieceDone p s t := by
  have station (i : StationId) : t.station i = s.station i := by rw [State.station, same, State.station]
  exact ⟨fun i h => (congrArg Station.path (station i)).trans (h.resolve_right (writeOff i)),
    fun i h => (congrArg Station.session (station i)).trans (h.resolve_right (settle i))⟩

/-- A piece that is work at station `i`. -/
theorem ofLocal (alone : State.Local i s t) (others : ∀ j, j ≠ i → p ≠ .writeOff j ∧ p ≠ .settle j)
    (path : (s.station i).path = [] ∨ p = .writeOff i → (t.station i).path = [])
    (session : (s.station i).session = none ∨ p = .settle i → (t.station i).session = none) :
    State.PieceDone p s t := by
  refine ⟨fun j h => ?_, fun j h => ?_⟩ <;> by_cases same : j = i
  · subst same
    exact path h
  · rw [alone.others j same]
    exact h.resolve_right (others j same).1
  · subst same
    exact session h
  · rw [alone.others j same]
    exact h.resolve_right (others j same).2

/-- The restart's record after the piece says no more than was done. -/
theorem restartKept (done : State.PieceDone p s t) {r q : Restart} (kept : s.RestartKept) (present : s.restart = some r)
    (piece : restartPieces[r.next]? = some p) (next : q.next = r.next + 1) :
    State.RestartKept { t with restart := some q } := by
  intro q' hq i
  obtain rfl : q = q' := Option.some.inj hq
  obtain ⟨path, session⟩ := kept r present i
  rw [next]
  refine ⟨fun after => done.path i ?_, fun after => done.session i ?_⟩
  · refine (Nat.lt_succ_iff_lt_or_eq.mp after).imp path fun now => ?_
    rw [← now, restartPieces_writeOff] at piece
    exact (Option.some.inj piece).symm
  · refine (Nat.lt_succ_iff_lt_or_eq.mp after).imp session fun now => ?_
    rw [← now, restartPieces_settle] at piece
    exact (Option.some.inj piece).symm

/-! ### The pieces -/

theorem endAuthorization (s : State) (i : StationId) :
    State.PieceDone (.endAuthorization i) s (s.restartAuthorization i) := by
  unfold State.restartAuthorization
  split
  · split
    · refine ofLocal .endWithoutRecord (fun _ _ => ⟨nofun, nofun⟩) (fun h => ?_) fun _ => ?_
      · rw [State.endWithoutRecord, State.station_modStation_self]
        exact h.resolve_right nofun
      · rw [State.endWithoutRecord, State.station_modStation_self]
    · exact ofStations rfl nofun nofun
  · exact ofStations rfl nofun nofun

theorem writeOff (s : State) (i : StationId) : State.PieceDone (.writeOff i) s (s.writeOff i) := by
  have written (t : State) (alone : State.Local i s t) (session : (t.station i).session = (s.station i).session) :
      State.PieceDone (.writeOff i) s (if (t.station i).path = [] then t
        else ((t.openJam i .restart).modStation i Station.handOver).modStation i Station.closeJam) := by
    have others (j : StationId) (other : j ≠ i) : Piece.writeOff i ≠ .writeOff j ∧ Piece.writeOff i ≠ .settle j :=
      ⟨fun same => other (Piece.writeOff.inj same).symm, nofun⟩
    split
    · rename_i empty
      exact ofLocal alone others (fun _ => empty) fun h => session.trans (h.resolve_right nofun)
    · have station : (((t.openJam i .restart).modStation i Station.handOver).modStation i Station.closeJam).station i =
          ((t.openJam i .restart).station i).handOver.closeJam := by
        rw [State.station_modStation_self, State.station_modStation_self]
      refine ofLocal (alone.trans (.trans (.openJam _) (.trans (.modStation _) (.modStation _)))) others (fun _ => ?_)
        fun h => ?_
      · rw [station, (Station.frame_closeJam _).1]
        rfl
      · have none : (t.station i).session = none := session.trans (h.resolve_right nofun)
        rw [station, (Station.frame_closeJam _).2, State.openJam, State.station_modStation_self]
        simp [Station.handOver, none]
  unfold State.writeOff
  dsimp only
  split
  · refine written _ .enterOffline ?_
    rw [State.enterOffline, State.station_enterState_self, State.station_modStation_self]
    exact (Station.frame_leaveService _).2
  · exact written s (.refl _ _) rfl

/-- A settlement leaves an empty path and takes the session away, with its station's money or without. -/
theorem settle (s : State) (r : Restart) (i : StationId) : State.PieceDone (.settle i) s (s.restartSettle r i).1 := by
  have others (j : StationId) (other : j ≠ i) : Piece.settle i ≠ .writeOff j ∧ Piece.settle i ≠ .settle j :=
    ⟨nofun, fun same => other (Piece.settle.inj same).symm⟩
  unfold State.restartSettle
  split
  · rename_i none
    exact ofLocal (.refl _ _) others (fun h => h.resolve_right nofun) fun _ => none
  · refine ofLocal (.settle _ _) others (fun h => ?_) fun _ => ?_
    · have empty : (s.station i).path = [] := h.resolve_right nofun
      exact (State.KeepsMoneyAt.settle empty _ _).emptied empty
    · unfold State.settle
      rw [State.station_setSession_self]

/-- A part that has lost the retained domain holds no sheet and no session (R181). -/
theorem loseRetained (s : State) : State.PieceDone .validity s s.loseRetained := by
  have station (i : StationId) : s.loseRetained.station i = (s.station i).loseRetained :=
    State.station_modStations _ _ _
  refine ⟨fun i _ => ?_, fun i _ => ?_⟩ <;> rw [station] <;> rfl

end State.PieceDone

/-! ### What the pieces make of the journal -/

namespace State.KeepsJournal

variable {s t : State}

theorem restartSettle (r : Restart) (i : StationId) : s.KeepsJournal (s.restartSettle r i).1 := by
  unfold State.restartSettle
  split
  · exact refl s
  · exact settle ‹_› _

theorem foldl {α : Type} {f : State → α → State} (step : ∀ (s : State) (a : α), s.KeepsJournal (f s a)) :
    ∀ (l : List α) (s : State), s.KeepsJournal (l.foldl f s)
  | [], s => refl s
  | a :: l, s => (step s a).trans (foldl step l (f s a))

theorem restartStations : s.KeepsJournal s.restartStations := by
  have stopped (t : State) (i : StationId) : t.KeepsJournal (t.restartOffline i) :=
    ofBooks ((State.books_postAt _ _ _).trans (State.books_modStation_of_session (Station.frame_leaveService _).2))
  have started (t : State) (i : StationId) :
      t.KeepsJournal (if (t.station i).profile.autoStart then t.startStation i else t) := by
    split
    · exact startStation
    · exact refl t
  have served (t : State) : t.KeepsJournal { t with
      device := .running, restart := none, scrubDue := some (t.now + Config.scrubPeriod) } := ofBooks rfl
  have watching (t : State) (now : Nat) : t.KeepsJournal (t.modStations fun st =>
      { st with lines := st.lines.map (LineState.restart now) }) :=
    ofBooks (State.books_modStations_of_stake fun _ => rfl)
  have tested (t : State) : t.KeepsJournal t.testAlarm := ofBooks t.books_testAlarm
  have low (t : State) : t.KeepsJournal (if t.freeRecords ≤ Config.journalLow then t.post .journalLow 0 else t) := by
    split <;> exact ofBooks rfl
  have shut (t : State) : t.KeepsJournal (if t.pfail then t.enterShutdown else t) := by
    split
    · exact ofBooks t.books_enterShutdown
    · exact refl t
  unfold State.restartStations
  extract_lets off begun running watched alarmed posted
  have offline : s.KeepsJournal off := foldl stopped allStations s
  have ready : off.KeepsJournal begun := foldl started allStations off
  exact offline.trans (ready.trans ((served begun).trans ((watching running running.now).trans
    ((tested watched).trans ((low alarmed).trans (shut posted))))))

end State.KeepsJournal

/-! ### Commands -/

/-- A command that keeps both invariants of O58. -/
structure State.KeepsJournaled (s t : State) : Prop where
  kept : s.Journaled → t.Journaled

namespace State.KeepsJournaled

variable {s t u : State} {i : StationId}

theorem refl (s : State) : s.KeepsJournaled s := ⟨id⟩

theorem trans (h : s.KeepsJournaled t) (k : t.KeepsJournaled u) : s.KeepsJournaled u := ⟨k.kept ∘ h.kept⟩

/-- A command after which no restart is in progress. -/
theorem ofNone (journal : s.KeepsJournal t) (none : t.restart = none) : s.KeepsJournaled t :=
  ⟨fun kept => ⟨journal.journal kept.journal, fun r hr => (Option.not_mem_none r (none ▸ hr)).elim⟩⟩

/-- A command that leaves every path, every session and the restart. -/
theorem ofFrame (journal : s.KeepsJournal t) (path : ∀ i, (t.station i).path = (s.station i).path)
    (session : ∀ i, (t.station i).session = (s.station i).session) (restart : t.restart = s.restart) :
    s.KeepsJournaled t := by
  refine ⟨fun kept => ⟨journal.journal kept.journal, ?_⟩⟩
  unfold State.RestartKept
  simp only [path, session, restart]
  exact kept.restart

/-- A command that leaves every station and the restart. -/
theorem ofStations (journal : s.KeepsJournal t) (same : t.stations = s.stations) (restart : t.restart = s.restart) :
    s.KeepsJournaled t := by
  refine ofFrame journal (fun i => ?_) (fun i => ?_) restart <;> rw [State.station, same, State.station]

/-- A command that leaves every station, the account table, the journal and the restart. -/
theorem quiet (books : t.books = s.books) (same : t.stations = s.stations) (restart : t.restart = s.restart) :
    s.KeepsJournaled t := ofStations (.ofBooks books) same restart

/-- A command of a part that works: no restart is in progress before it or after it. -/
theorem ofAlive (alive : s.alive = true) (journal : s.KeepsJournal t) (restart : t.restart = s.restart) :
    s.KeepsJournaled t := ofNone journal (restart.trans (State.restart_of_alive alive))

/-- An event at one station, which changes nothing of a part that does not work. -/
theorem ofEvent (alone : State.Local i s t) (journal : s.KeepsJournal t) (dead : s.alive = false → t = s) :
    s.KeepsJournaled t := by
  cases alive : s.alive with
  | true => exact ofAlive alive journal alone.restart
  | false =>
      rw [dead alive]
      exact refl s

/-- A change of one station that leaves its path and its session. -/
theorem modStation {f : Station → Station} (path : (f (s.station i)).path = (s.station i).path)
    (session : (f (s.station i)).session = (s.station i).session) : s.KeepsJournaled (s.modStation i f) := by
  refine ofFrame (.ofBooks (State.books_modStation_of_session session)) (fun j => ?_) (fun j => ?_) rfl <;>
    by_cases same : j = i
  · subst same
    rw [State.station_modStation_self, path]
  · rw [State.station_modStation_of_ne s same]
  · subst same
    rw [State.station_modStation_self, session]
  · rw [State.station_modStation_of_ne s same]

/-! ### The restart -/

/-- A piece after which the restart stands at the next one. -/
theorem ofPiece {r q : Restart} {p : Piece} (present : s.restart = some r) (piece : restartPieces[r.next]? = some p)
    (next : q.next = r.next + 1) (journal : s.Journaled → s.books.JournalKept → t.books.JournalKept)
    (done : State.PieceDone p s t) : s.KeepsJournaled { t with restart := some q } :=
  ⟨fun kept => ⟨journal kept kept.journal, done.restartKept kept.restart present piece next⟩⟩

theorem makePiece {r : Restart} {p : Piece} (present : s.restart = some r) (piece : restartPieces[r.next]? = some p) :
    s.KeepsJournaled (s.makePiece { r with next := r.next + 1 } p) := by
  cases p with
  | validity =>
      show s.KeepsJournaled (if s.marker then _ else _)
      split
      · exact ofPiece (t := s) present piece rfl (fun _ => id) (.ofStations rfl nofun nofun)
      · exact ofPiece present piece rfl (fun _ => (KeepsJournal.ofMove s.move_loseRetained).journal) (.loseRetained s)
  | endAuthorization i =>
      exact ofPiece present piece rfl (fun _ => (KeepsJournal.ofMoves (s.moves_restartAuthorization i)).journal)
        (.endAuthorization s i)
  | writeOff i =>
      exact ofPiece present piece rfl (fun _ => (KeepsJournal.ofBooks (s.books_writeOff i)).journal) (.writeOff s i)
  | settle i =>
      refine ofPiece present piece ?_ (fun _ => (KeepsJournal.restartSettle _ i).journal) (.settle s _ i)
      unfold State.restartSettle
      split <;> rfl
  | record =>
      have idle (kept : s.Journaled) (i : StationId) : (s.station i).session = none :=
        (kept.restart r present i).2 (by rw [index_of_record piece]; omega)
      exact ofPiece present piece rfl
        (fun kept => (s.moves_writeRestart idle r.cause r.settled.length).journalKept kept)
        (.ofStations (s.stations_writeRestart _ _) nofun nofun)
  | notices =>
      exact ofPiece present piece rfl (fun _ => (KeepsJournal.ofBooks (s.books_restartNotices _)).journal)
        (.ofStations (s.stations_restartNotices _) nofun nofun)
  | stations => exact ofNone .restartStations s.restart_restartStations

theorem restartStep : s.KeepsJournaled s.restartStep := by
  unfold State.restartStep
  split
  · exact refl s
  · rename_i present
    split
    · exact ofNone (.ofBooks rfl) rfl
    · exact makePiece present ‹_›

theorem restartSteps : ∀ (n : Nat) (s : State), s.KeepsJournaled (State.restartSteps n s)
  | 0, s => refl s
  | n + 1, s => restartStep.trans (restartSteps n s.restartStep)

/-- A restart that begins has made no piece yet. -/
theorem beginRestart (c : RestartCause) : s.KeepsJournaled (s.beginRestart c) := by
  refine ⟨fun kept => ⟨(KeepsJournal.ofBooks (s.books_beginRestart c)).journal kept.journal, fun r hr i => ?_⟩⟩
  rw [State.beginRestart, State.modStations_eq] at hr
  obtain rfl := Option.some.inj hr
  exact ⟨fun h => absurd h (Nat.not_lt_zero _), fun h => absurd h (Nat.not_lt_zero _)⟩

theorem doRestart (c : RestartCause) (n : Option Nat) : s.KeepsJournaled (s.doRestart c n) :=
  (beginRestart c).trans (restartSteps _ _)

/-! ### The host line -/

theorem answer (alive : s.alive = true) (kind : Byte) (r : Instr) : s.KeepsJournaled (s.answer kind r) :=
  ofAlive alive ((KeepsJournal.perform r).trans (.ofBooks rfl)) (s.perform_frame r).restart

theorem sendReply (kind : Byte) (a : Answer) (restarts : Bool) : s.KeepsJournaled (s.sendReply kind a restarts) :=
  quiet rfl rfl rfl

theorem takeFrame (alive : s.alive = true) (f : HostFrame) : s.KeepsJournaled (s.takeFrame f) := by
  unfold State.takeFrame
  split
  · exact sendReply _ _ _
  · split
    · exact sendReply _ _ _
    · exact sendReply _ _ _
    · exact answer alive _ _

theorem takeRequest : s.KeepsJournaled s.takeRequest := by
  unfold State.takeRequest
  split
  · rename_i free
    split
    · exact refl s
    · rename_i f rest _
      have taken : s.KeepsJournaled { s with receiveQueue := rest } := quiet rfl rfl rfl
      exact taken.trans (takeFrame (s := { s with receiveQueue := rest }) free.1 f)
  · exact refl s

theorem enqueue (f : HostFrame) : s.KeepsJournaled (s.enqueue f) := by
  unfold State.enqueue
  split <;> exact quiet rfl rfl rfl

theorem hunting (s : State) : s.KeepsJournaled { s with hostCondition := .hunting } := quiet rfl rfl rfl

theorem frameCompletes (kind : Byte) (body : List Byte) (check : BitVec 16) :
    s.KeepsJournaled (s.frameCompletes kind body check) := by
  unfold State.frameCompletes
  split
  · dsimp only
    split
    · exact (hunting s).trans (enqueue _)
    · exact hunting s
  · exact refl s

theorem hostRequest (kind : Byte) (r : Instr) : s.KeepsJournaled (s.hostRequest kind r) := by
  unfold State.hostRequest
  split
  · rename_i alive
    dsimp only
    split
    · split
      · exact (hunting s).trans (answer (s := { s with hostCondition := .hunting }) alive _ _)
      · exact (hunting s).trans (sendReply _ _ _)
    · exact (hunting s).trans (enqueue _)
  · exact refl s

theorem gapPasses : s.KeepsJournaled s.gapPasses := by
  unfold State.gapPasses
  split
  · exact hunting s
  · exact refl s

theorem startByte : s.KeepsJournaled s.startByte := by
  unfold State.startByte
  split
  · exact quiet rfl rfl rfl
  · exact refl s

theorem badLength (length : Byte) : s.KeepsJournaled (s.badLength length) := by
  unfold State.badLength
  split
  · dsimp only
    split
    · exact (hunting s).trans startByte
    · exact hunting s
  · exact refl s

theorem replyEnds (n : Option Nat) : s.KeepsJournaled (s.replyEnds n) := by
  have ended : s.KeepsJournaled { s with reply := none } := quiet rfl rfl rfl
  unfold State.replyEnds
  split
  · exact refl s
  · split
    · dsimp only
      split
      · exact ended.trans (doRestart _ _)
      · exact ended
    · exact refl s

/-! ### Lines and readers -/

theorem recognize (i : StationId) (n : Line) (l : Bool) : s.KeepsJournaled (s.recognize i n l) :=
  ofEvent (.recognize n l) (.recognize n l) fun dead => State.recognize_of_dead dead n l

theorem rawChange (i : StationId) (n : Line) (l : Bool) : s.KeepsJournaled (s.rawChange i n l) := by
  unfold State.rawChange State.setLine
  exact modStation rfl rfl

theorem readerStart (i : StationId) : s.KeepsJournaled (s.readerStart i) := by
  unfold State.readerStart
  split
  · exact modStation rfl rfl
  · exact refl s

theorem readerIdle (i : StationId) : s.KeepsJournaled (s.readerIdle i) := by
  unfold State.readerIdle
  split
  · exact modStation rfl rfl
  · exact refl s

theorem indicatorSent (i : StationId) : s.KeepsJournaled (s.indicatorSent i) := by
  unfold State.indicatorSent
  split
  · exact modStation rfl rfl
  · exact refl s

/-! ### The supply, the time base and the scrub -/

theorem testAlarm : s.KeepsJournaled s.testAlarm :=
  quiet s.books_testAlarm s.stations_testAlarm State.Served.testAlarm.restart

theorem pfailRises : s.KeepsJournaled s.pfailRises := by
  have recognized : s.KeepsJournaled { s with pfail := true } := quiet rfl rfl rfl
  unfold State.pfailRises
  split
  · dsimp only
    split
    · rename_i running
      have alive : s.alive = true := (Bool.and_eq_true_iff.mp running).1
      exact recognized.trans (ofAlive (s := { s with pfail := true }) alive (.ofBooks (State.books_enterShutdown _))
        (State.restart_enterShutdown _))
    · exact recognized
  · exact refl s

/-- With the volatile state a restart in progress is lost too (R178, R180). -/
theorem loseVolatile : s.KeepsJournaled s.loseVolatile :=
  ofNone (.ofBooks s.books_loseVolatile) (by rw [State.loseVolatile, State.modStations_eq])

theorem supplyFails (v : Bool) : s.KeepsJournaled (s.supplyFails v) := by
  have absent (t : State) (marker : Bool) : t.KeepsJournaled { t with
      mainSupply := false, pfail := false, cameUp := false, marker := marker } := quiet rfl rfl rfl
  exact loseVolatile.trans (absent _ _)

theorem supplyReturns (n : Option Nat) : s.KeepsJournaled (s.supplyReturns n) := by
  have supplied : s.KeepsJournaled { s with
      mainSupply := true, pfail := false, cameUp := s.cameUp || !s.mainSupply } := quiet rfl rfl rfl
  unfold State.supplyReturns
  dsimp only
  split
  · exact supplied
  · split
    · exact supplied
    · split
      · exact supplied.trans (doRestart _ _)
      · exact supplied

theorem resetAsserts : s.KeepsJournaled s.resetAsserts := by
  have asserted (t : State) : t.KeepsJournaled { t with resetPin := true } := quiet rfl rfl rfl
  exact loseVolatile.trans (asserted _)

theorem resetDeasserts (n : Option Nat) : s.KeepsJournaled (s.resetDeasserts n) := by
  have released : s.KeepsJournaled { s with resetPin := false } := quiet rfl rfl rfl
  unfold State.resetDeasserts
  dsimp only
  split
  · exact released
  · split
    · split
      · exact released
      · exact released.trans (doRestart _ _)
    · exact released.trans (doRestart _ _)

theorem secondPasses : s.KeepsJournaled s.secondPasses := by
  have passed : s.KeepsJournaled { s with stamp := wrapInc Config.wrap32 s.stamp, divider := 0 } := quiet rfl rfl rfl
  unfold State.secondPasses
  split
  · dsimp only
    split
    · exact passed.trans testAlarm
    · exact passed
  · exact refl s

theorem alarmFalls : s.KeepsJournaled s.alarmFalls := by
  unfold State.alarmFalls
  split
  · exact testAlarm
  · exact refl s

theorem scrub : s.KeepsJournaled s.scrub := by
  have read (t : State) (n : Nat) : t.KeepsJournaled (t.testedRead n).1 :=
    ofStations (.ofMoves (t.moves_testedRead n _)) (t.stations_testedRead n) (State.Served.testedRead n).restart
  unfold State.scrub
  split
  · have due : s.KeepsJournaled { s.reach (s.scrubDue.getD s.now) with
        scrubDue := some ((s.reach (s.scrubDue.getD s.now)).now + Config.scrubPeriod) } := quiet rfl rfl rfl
    exact due.trans ((read _ _).trans (quiet rfl rfl rfl))
  · exact refl s

/-- Time moves no session and no record (R132). -/
theorem tick : s.KeepsJournaled s.tick :=
  ofStations (.ofMove (.damage _)) rfl rfl

/-! ### Every command and every step -/

/-- A command whose meaning is the part `u`. -/
theorem ofNext (k : s.KeepsJournaled u) (h : (.next u : Host.Outcome State Fault Refusal) = .next t) :
    s.KeepsJournaled t := by
  cases h
  exact k

theorem exec {c : Instr} (h : Sys2Proof.Machine.exec c s = .next t) : s.KeepsJournaled t := by
  cases code : requestCode c with
  | some kind =>
      rw [exec_request code] at h
      exact ofNext (hostRequest _ _) h
  | none =>
      cases c with
      | hostFrameComplete kind body check => exact ofNext (frameCompletes kind body check) h
      | hostFrameGapTimeout => exact ofNext gapPasses h
      | requestTaken => exact ofNext takeRequest h
      | replySent n => exact ofNext (replyEnds n) h
      | rawLevelChange i m v => exact ofNext (rawChange i m v) h
      | lineLevelRecognized i m v => exact ofNext (recognize i m v) h
      | feed i => exact ofNext (recognize i .feed true) h
      | delivery i => exact ofNext (recognize i .deliver true) h
      | jamRise i => exact ofNext (recognize i .jam true) h
      | jamFall i => exact ofNext (recognize i .jam false) h
      | readyRise i => exact ofNext (recognize i .ready true) h
      | readyFall i => exact ofNext (recognize i .ready false) h
      | stoppedRise i => exact ofNext (recognize i .stopped true) h
      | transitExpiry i => exact ofNext (ofEvent .transitExpires .transitExpires State.transitExpires_of_dead) h
      | idleTimerExpiry i k =>
          exact ofNext (ofEvent (.idleExpires k) (.idleExpires k) fun dead => State.idleExpires_of_dead dead k) h
      | authTimerExpiry i => exact ofNext (ofEvent .authExpires .authExpires State.authExpires_of_dead) h
      | pauseAckExpiry i =>
          exact ofNext (ofEvent .pauseAckExpires (.ofBooks (s.books_pauseAckExpires i))
            State.pauseAckExpires_of_dead) h
      | purgeWindowExpiry i => exact ofNext (ofEvent .purgeExpires .purgeExpires State.purgeExpires_of_dead) h
      | scrubVisit => exact ofNext scrub h
      | timeBaseTick => exact ofNext secondPasses h
      | periodAlarmDue => exact ofNext alarmFalls h
      | cardFrame i card =>
          exact ofNext (ofEvent (.cardArrives card) (.cardArrives card)
            fun dead => State.cardArrives_of_dead dead card) h
      | endFrame i => exact ofNext (ofEvent .endArrives .endArrives State.endArrives_of_dead) h
      | malformedFrame i => exact ofNext (ofEvent .malformedArrives .malformedArrives State.malformedArrives_of_dead) h
      | readerGapTimeout i => exact ofNext (ofEvent .readerGap .readerGap State.readerGap_of_dead) h
      | indicatorFrameSent i => exact ofNext (indicatorSent i) h
      | pfailAsserted => exact ofNext pfailRises h
      | supplyFailure v => exact ofNext (supplyFails v) h
      | supplyReturn n => exact ofNext (supplyReturns n) h
      | resetPinAsserted => exact ofNext resetAsserts h
      | resetPinDeasserted n => exact ofNext (resetDeasserts n) h
      | hostStartByte => exact ofNext startByte h
      | hostBadLengthByte n => exact ofNext (badLength n) h
      | readerStartByte i => exact ofNext (readerStart i) h
      | readerIdleResume i => exact ofNext (readerIdle i) h
      | _ => exact nomatch code

theorem idle (h : s.idle = .next t) : s.KeepsJournaled t := by
  unfold State.idle at h
  split at h
  · exact ofNext restartStep h
  · split at h
    · exact exec h
    · exact ofNext tick h

theorem step (h : Sys2Proof.Machine.step s = .next t) : s.KeepsJournaled t := by
  unfold Sys2Proof.Machine.step at h
  split at h
  · rename_i c rest _
    exact trans (t := { s with pending := rest }) (quiet rfl rfl rfl) (exec h)
  · exact idle h

end State.KeepsJournaled

/-- Settles O58: every operation takes, trades and gives up reservations one by one beside the sessions, and a restart
writes its record when no session is left. -/
theorem stepKeepsJournal : Obligations.StepKeepsJournal := by
  intro s t journal restart h
  exact State.journaled_iff.mp ((State.KeepsJournaled.step h).kept (State.journaled_iff.mpr ⟨journal, restart⟩))

end Sys2Proof.Machine
end

section
/-! The journal's requests (R158, R159): the records on the host line, READ-JOURNAL and RELEASE-JOURNAL. -/

namespace Sys2Proof.Machine

/-! ### Records on the host line (R190) -/

theorem PaidBy.length_bytes (p : PaidBy) :
    p.bytes.length = match p with | .campus _ _ => 8 | .bank _ => 3 | .counter _ => 5 := by
  cases p <;> simp [PaidBy.bytes]

/-- The eight covered counts of a SETTLE record, four bytes each. -/
theorem flatMap_leBytes_covered (v : Vector Nat 8) : v.toList.flatMap (leBytes 4) =
    leBytes 4 v[0] ++ leBytes 4 v[1] ++ leBytes 4 v[2] ++ leBytes 4 v[3] ++ leBytes 4 v[4] ++ leBytes 4 v[5] ++
      leBytes 4 v[6] ++ leBytes 4 v[7] := by
  rw [toList_of_eight]
  simp only [List.flatMap_cons, List.flatMap_nil, List.append_nil, List.append_assoc]

/-- All of a SETTLE record but the payment field is 76 bytes. -/
theorem SettleRecord.length_bytes (r : SettleRecord) : r.bytes.length = r.paidBy.bytes.length + 76 := by
  rw [SettleRecord.bytes, flatMap_leBytes_covered]
  simp only [List.length_append, leBytes_length, List.length_cons, List.length_nil]
  omega

/-! ### The requests -/

section Journal

variable {s : State} {r : Record} {rest : List Record}

/-- An empty journal has nothing to read (R158). -/
theorem State.ownReadJournal_of_nil (empty : s.journal = []) : s.ownReadJournal = (s, .refuse .empty) := by
  unfold State.ownReadJournal
  split
  · rfl
  · rename_i present
    exact nomatch empty.symm.trans present

theorem State.ownReadJournal_of_cons (oldest : s.journal = r :: rest) :
    s.ownReadJournal = (s, .ok (leBytes 2 s.journal.length ++ r.bytes)) := by
  unfold State.ownReadJournal
  split
  · rename_i present
    exact nomatch oldest.symm.trans present
  · rename_i present
    cases oldest.symm.trans present
    rfl

theorem State.ownReleaseJournal_of_nil (empty : s.journal = []) (serial : BitVec 32) :
    s.ownReleaseJournal serial = (s, .refuse .empty) := by
  unfold State.ownReleaseJournal
  split
  · rfl
  · rename_i present
    exact nomatch empty.symm.trans present

/-- The oldest record leaves the journal by its own serial only (R159). -/
theorem State.ownReleaseJournal_of_cons (oldest : s.journal = r :: rest) (serial : BitVec 32) :
    s.ownReleaseJournal serial = if r.serial = serial.toNat
      then ({ s with journal := rest }, .ok (leBytes 2 rest.length ++ leBytes 2 (512 - rest.length - s.reservations)))
      else (s, { status := .mismatch, fields := leBytes 4 r.serial }) := by
  unfold State.ownReleaseJournal
  split
  · rename_i present
    exact nomatch oldest.symm.trans present
  · rename_i present
    cases oldest.symm.trans present
    rfl

theorem exec_readJournal_of_nil (h : s.Serving) (empty : s.journal = []) :
    exec .readJournal s = .next (s.replied 0xD0 12 []) := by
  rw [exec_readJournal h, State.ownReadJournal_of_nil (s := { s with hostCondition := .hunting }) empty]
  rfl

/-- READ-JOURNAL carries the number of records and the oldest one (R158). -/
theorem exec_readJournal_of_cons (h : s.Serving) (oldest : s.journal = r :: rest) :
    exec .readJournal s = .next (s.replied 0xD0 0 (leBytes 2 s.journal.length ++ r.bytes)) := by
  rw [exec_readJournal h, State.ownReadJournal_of_cons (s := { s with hostCondition := .hunting }) oldest]
  rfl

end Journal

/-- Settles O33: READ-JOURNAL carries the oldest record as it stands, which RELEASE-JOURNAL takes away by its serial. -/
theorem journalRequests : Obligations.JournalRequests := by
  refine ⟨fun s serving => ⟨exec_readJournal_of_nil serving, fun r rest oldest => ?_, fun r rest oldest =>
    ⟨r.bytes, ?_, exec_readJournal_of_cons serving oldest⟩⟩, fun s r rest serving oldest => ?_,
    fun s serial serving => ⟨fun empty => ?_, fun r rest oldest => ⟨fun same => ?_, fun other => ?_⟩⟩⟩
  · rw [exec_readJournal_of_cons serving oldest]
    simp only [Record.bytes, RestartRecord.bytes, List.append_assoc]
    rfl
  · rw [SettleRecord.length_bytes, PaidBy.length_bytes]
    cases r.paidBy <;> rfl
  · rw [exec_readJournal_of_cons serving oldest, Record.bytes, SettleRecord.bytes, flatMap_leBytes_covered]
    simp only [List.append_assoc]
    rfl
  · rw [exec_releaseJournal serving,
      State.ownReleaseJournal_of_nil (s := { s with hostCondition := .hunting }) empty]
    rfl
  · rw [exec_releaseJournal serving,
      State.ownReleaseJournal_of_cons (s := { s with hostCondition := .hunting }) oldest, if_pos same]
    rfl
  · rw [exec_releaseJournal serving,
      State.ownReleaseJournal_of_cons (s := { s with hostCondition := .hunting }) oldest, if_neg other]
    rfl

end Sys2Proof.Machine
end

section
/-! The host line (R162 to R166, R171): the assembly of frames, the taking of requests, the restart after RESET. -/

namespace Sys2Proof.Machine

/-! ### Frames in (R162, R163) -/

/-- A 0xC5 byte leaves the controller assembling: found hunting it begins, found assembling it changes nothing (R162). -/
theorem State.startByte_of_alive {s : State} (alive : s.alive = true) :
    s.startByte = { s with hostCondition := .assembling } := by
  unfold State.startByte
  cases condition : s.hostCondition with
  | hunting => exact if_pos ⟨alive, rfl⟩
  | assembling => rw [if_neg (by simp), ← condition]

/-- The gap leaves the controller hunting (R162). -/
theorem State.gapPasses_of_alive {s : State} (alive : s.alive = true) : s.gapPasses = s.taken := by
  unfold State.gapPasses
  cases condition : s.hostCondition with
  | hunting => rw [if_neg (by simp), State.taken, ← condition]
  | assembling => exact if_pos ⟨alive, rfl⟩

/-- A bad length byte leaves the controller hunting: the start byte 0xC5 is no bad length (R162). -/
theorem State.badLength_of_alive {s : State} (alive : s.alive = true) {b : Byte} (bad : b.toNat = 0 ∨ 241 < b.toNat) :
    s.badLength b = s.taken := by
  have noStart : b ≠ 0xC5 := by
    rintro rfl
    exact absurd bad (by decide)
  unfold State.badLength
  cases condition : s.hostCondition with
  | hunting => rw [if_neg (by simp), State.taken, ← condition]
  | assembling =>
    rw [if_pos ⟨alive, rfl, bad⟩]
    exact if_neg noStart

/-- Settles O3: one lemma for each of the three bytes and gaps; a complete frame is put into the queue as far as it has
room. -/
theorem hostFramesAssemble : Obligations.HostFramesAssemble := by
  refine ⟨fun s alive => ⟨congrArg Host.Outcome.next (State.startByte_of_alive alive),
    congrArg Host.Outcome.next (State.gapPasses_of_alive alive),
    fun b bad => congrArg Host.Outcome.next (State.badLength_of_alive alive bad)⟩, fun s kind body check alive short => ?_⟩
  show Host.Outcome.next (s.frameCompletes kind body check) = _
  rw [State.frameCompletes, if_pos alive]
  dsimp only
  rw [if_pos (show body.length ≤ Config.maxBody from short)]
  rfl

/-! ### Requests on a busy line, and in SHUTDOWN (R163, R164, R166) -/

/-- Only GET-STATUS, TAKE-NOTICE and RESET are served in SHUTDOWN (R166). -/
theorem servedInShutdown_eq_false {r : Instr} (status : r ≠ .getStatus) (notice : r ≠ .takeNotice) (reset : r ≠ .reset) :
    servedInShutdown r = false := by
  unfold servedInShutdown
  split
  · exact absurd rfl status
  · exact absurd rfl notice
  · exact absurd rfl reset
  · rfl

/-- Settles O5: a request on a busy line goes into the queue, and on a free one the fourth check of R164 refuses it. -/
theorem requestsWaitOrAreRefused : Obligations.RequestsWaitOrAreRefused := by
  refine ⟨fun s r kind code alive busy => ?_, fun s r kind code formed free down status notice reset => ?_⟩
  · rw [exec_request code, State.hostRequest_busy alive busy]
    rfl
  · rw [exec_request code, State.hostRequest_shutdown free down (bodyFits_requestBody code formed)
      (servedInShutdown_eq_false status notice reset) reset]
    rfl

/-- A well-formed request on a free line is answered in its own step (R164; log 9). -/
theorem exec_request_of_lineFree {s : State} {r : Instr} {kind : Byte} (code : requestCode r = some kind)
    (formed : r.wellFormed = true) (free : s.LineFree) : exec r s = .next (s.taken.answer kind r) := by
  rw [exec_request code, exec_of_lineFree free (bodyFits_requestBody code formed)]
  rfl

/-- Settles O6: what answers the request is its owner's part under the frame of R164, step 5, with the reply begun. -/
theorem everyRequestIsAnswered : Obligations.EveryRequestIsAnswered := by
  intro s r kind code formed free
  have frame := (s.taken.perform_frame r).rest
  refine ⟨(s.taken.perform r).1, (s.taken.perform r).2.status.code :: (s.taken.perform r).2.fields, ?_, nofun, ?_⟩
  · rw [exec_request_of_lineFree code formed free, State.answer, frame]
    rfl
  · rw [frame]
    exact ⟨rfl, rfl, rfl, rfl, rfl, rfl, rfl, rfl, rfl, rfl, rfl, rfl, rfl⟩

/-! ### The end of a reply (R164, R171) -/

theorem exec_replySent {s : State} {r : Reply} (alive : s.alive = true) (sending : s.reply = some r) (p : Option Nat) :
    exec (.replySent p) s = .next (if r.restarts then ({ s with reply := none } : State).doRestart .command p
      else { s with reply := none }) := by
  show Host.Outcome.next (s.replyEnds p) = _
  unfold State.replyEnds
  rw [sending]
  dsimp only
  rw [if_pos alive]

/-- A restart cut before its first piece (R180; log 15). -/
theorem State.doRestart_command_zero (s : State) : s.doRestart .command (some 0) =
    { s with
      cameUp := false
      restart := some
        { cause := .command, before := s.device, next := 0, settled := [], corrected := false, faulted := false }
      scrubDue := none
      hostCondition := .hunting
      receiveQueue := []
      linkOverrun := false
      reply := none
      stations := s.stations.map Station.beginRestart } :=
  State.modStations_eq _ _

/-- Settles O12: the restart of no piece is its beginning, which changes every station and nothing else of the retained
domain. -/
theorem resetRestartsAfterReply : Obligations.ResetRestartsAfterReply := by
  refine ⟨fun s free => exec_reset free, fun s r p alive sending plain => ?_, fun s r alive sending restarts => ?_⟩
  · rw [exec_replySent alive sending, plain]
    rfl
  · refine ⟨_, (exec_replySent alive sending _).trans (congrArg Host.Outcome.next (if_pos restarts)), ?_⟩
    rw [State.doRestart_command_zero]
    exact ⟨rfl, rfl, rfl, rfl, rfl, rfl, rfl, rfl⟩

end Sys2Proof.Machine
end

section
/-! Device requests and notices (R167, R169, R170, R173). -/

namespace Sys2Proof.Machine

/-! ### Device requests -/

end Sys2Proof.Machine
end

section
/-! Device requests and notices (R167, R169, R170, R173). -/

namespace Sys2Proof.Machine

/-! ### Device requests -/

section Requests

variable {s : State}

/-- GET-STATUS answers its report and clears the link-overrun flag, in every device state (R167). -/
theorem exec_getStatus_eq (free : s.LineFree) :
    exec .getStatus s = .next (({ s with linkOverrun := false } : State).replied 0x81 0 s.statusBytes) := by
  rw [exec_getStatus free]
  rfl

theorem deviceCode_eq (d : DeviceState) : deviceCode d = if d = .running then 0 else 1 := by cases d <;> rfl

/-- The enabled entries, counted by the mask (R188). -/
theorem State.countP_enabled (s : State) : s.notices.countP s.enabled =
    (s.notices.filter fun n => s.noticeMask.getLsbD (n.kind.priority - 1)).length :=
  List.countP_eq_length_filter

theorem State.ownSetDevice_eq (s : State) (mask : BitVec 16) : s.ownSetDevice mask =
    if mask.toNat < 4096 then ({ s with noticeMask := mask }, .ok (bytesOf 2 mask)) else (s, .refuse .badValue) := by
  unfold State.ownSetDevice
  by_cases inRange : mask.toNat < 4096
  · rw [if_neg (by omega), if_pos inRange]
  · rw [if_pos (by omega), if_neg inRange]

theorem exec_clearAll_of_sessions (serving : s.Serving) (busy : s.sessions ≠ []) :
    exec .clearAll s = .next (s.replied 0x87 6 []) := by
  rw [exec_clearAll serving, ← State.taken, State.ownClearAll, if_neg (show s.taken.sessions ≠ [] from busy)]
  rfl

/-- CLEAR-ALL with no session clears every station's meters and forced stops, the account table and its two notes
(R170, R143, R133). -/
theorem exec_clearAll_of_none (serving : s.Serving) (idle : s.sessions = []) :
    exec .clearAll s = .next (({ s with
        stations := s.stations.map Station.clearAll, slots := [], lastCorrected := none, lastFault := none } : State).replied
      0x87 0 []) := by
  rw [exec_clearAll serving, ← State.taken, State.ownClearAll, if_pos (show s.taken.sessions = [] from idle),
    State.modStations_eq]
  rfl

end Requests

/-- Settles O11: each request is its owning rule's answer; the report is compared field by field. -/
theorem deviceRequests : Obligations.DeviceRequests := by
  refine ⟨fun s m serving => ?_, fun s free => ?_, fun s free => ?_, fun s serving =>
    ⟨exec_clearAll_of_sessions serving, fun idle => ⟨_, exec_clearAll_of_none serving idle, rfl, fun i => ?_⟩⟩⟩
  · rw [exec_setDevice serving, ← State.taken, State.ownSetDevice_eq]
    split <;> rfl
  · rw [exec_getStatus_eq free, State.statusBytes, deviceCode_eq]
    simp only [List.append_assoc]
    exact ⟨_, rfl⟩
  · rw [exec_getStatus_eq free, State.statusBytes, deviceCode_eq, State.countP_enabled]
    congr 14
    · cases s.alarm <;> rfl
    · cases s.lastCorrected <;> rfl
    · cases s.lastFault <;> rfl
  · simp [State.station, State.replied, Station.clearAll]

/-! ### Notices (R173) -/

/-- A kind of lower priority number comes first, whatever the stations; within one kind the lower station does (R173). -/
theorem Notice.rank_le {m n : Notice} (inScope : n.station ≤ 8)
    (earlier : n.kind.priority < m.kind.priority ∨ (n.kind = m.kind ∧ n.station ≤ m.station)) : n.rank ≤ m.rank := by
  unfold Notice.rank
  rcases earlier with higher | ⟨same, station⟩
  · omega
  · rw [same]
    omega

/-- In a list that rises strictly, the least of the elements a test picks is the first it finds. -/
theorem find?_eq_of_least {p : Notice → Bool} {n : Notice} : ∀ {l : List Notice},
    l.Pairwise (fun a b => a.rank < b.rank) → n ∈ l → p n = true → (∀ m ∈ l, p m = true → n.rank ≤ m.rank) →
      l.find? p = some n
  | m :: rest, rising, mem, picked, least => by
    obtain ⟨head, tail⟩ := List.pairwise_cons.mp rising
    rcases List.mem_cons.mp mem with rfl | later
    · exact List.find?_cons_of_pos picked
    · have passed : ¬ p m = true := fun h => absurd (least m List.mem_cons_self h) (Nat.not_le.mpr (head n later))
      rw [List.find?_cons_of_neg passed]
      exact find?_eq_of_least tail later picked fun k hk => least k (List.mem_cons_of_mem m hk)

/-- No entry stands twice in a set that rises strictly. -/
theorem NoticesCanonical.nodup {l : List Notice} (h : NoticesCanonical l) : l.Nodup :=
  h.1.imp fun {a b} (lower : a.rank < b.rank) => by
    rintro rfl
    exact Nat.lt_irrefl _ lower

theorem NoticesCanonical.erase_eq {l : List Notice} (h : NoticesCanonical l) (n : Notice) :
    l.erase n = l.filter fun m => decide (m ≠ n) := by
  rw [h.nodup.erase_eq_filter]
  exact List.filter_congr fun m _ => by simp [bne, beq_eq_decide]

section TakeNotice

variable {s : State}

theorem State.ownTakeNotice_of_none (disabled : ∀ n ∈ s.notices, s.enabled n = false) :
    s.ownTakeNotice = (s, .ok [0, 0, 0]) := by
  have none : s.notices.find? s.enabled = none := List.find?_eq_none.mpr fun n hn => by simp [disabled n hn]
  rw [State.ownTakeNotice, none]
  rfl

/-- The entry found leaves the set (R173). -/
theorem State.ownTakeNotice_of_some (kept : s.NoticesKept) {n : Notice} (found : s.notices.find? s.enabled = some n) :
    s.ownTakeNotice = ({ s with notices := s.notices.filter fun m => decide (m ≠ n) },
      .ok (BitVec.ofNat 8 n.kind.priority :: BitVec.ofNat 8 n.station ::
        leBytes 2 ((s.notices.filter fun m => decide (m ≠ n)).countP s.enabled))) := by
  rw [State.ownTakeNotice, found, ← NoticesCanonical.erase_eq kept]
  rfl

end TakeNotice

/-- Settles O13: the set stands in the order of R173, so the first enabled entry is the least. -/
theorem takeNoticeByPriority : Obligations.TakeNoticeByPriority := by
  intro s free kept
  refine ⟨fun disabled => ?_, fun n mem enabled least => ?_⟩
  · rw [exec_takeNotice free, State.ownTakeNotice_of_none (s := { s with hostCondition := .hunting }) disabled]
    rfl
  · have found : s.notices.find? s.enabled = some n := find?_eq_of_least kept.1 mem enabled fun m hm picked =>
      Notice.rank_le (kept.2 n mem).1 (least m hm picked)
    rw [exec_takeNotice free, State.ownTakeNotice_of_some (s := { s with hostCondition := .hunting }) kept found]
    rfl

end Sys2Proof.Machine
end

section
/-! No operation of an owning block looks at the host line (R164, step 5): made with another receive queue and another
condition of the controller, it changes the same things and answers the same. -/

namespace Sys2Proof.Machine

/-- The part with its host line in the given condition and with the given frames queued. -/
def State.onLine (c : HostCondition) (q : List HostFrame) (s : State) : State :=
  { s with hostCondition := c, receiveQueue := q }

/-- What an operation leaves, with the host line as given, and what it answers. -/
def withLine {α : Type} (c : HostCondition) (q : List HostFrame) (p : State × α) : State × α := (p.1.onLine c q, p.2)

section OnLine

variable {s : State} {c : HostCondition} {q : List HostFrame} {i : StationId}

@[simp] theorem withLine_mk {α : Type} (a : α) : withLine c q (s, a) = (s.onLine c q, a) := rfl

/-- Either branch on the given line is either branch, on the given line. -/
@[simp] theorem State.onLine_ite {p : Prop} [Decidable p] (a b : State) :
    (if p then a.onLine c q else b.onLine c q) = (if p then a else b).onLine c q := by split <;> rfl

/-- Two branches that each are made on the given line are one choice made on it. -/
theorem withLine_ite {α : Type} {p : Prop} [Decidable p] {x y a b : State × α} (hx : x = withLine c q a)
    (hy : y = withLine c q b) : (if p then x else y) = withLine c q (if p then a else b) := by
  split
  · exact hx
  · exact hy

/-! ### What is read -/

@[simp] theorem State.station_onLine : (s.onLine c q).station i = s.station i := rfl
@[simp] theorem State.now_onLine : (s.onLine c q).now = s.now := rfl
@[simp] theorem State.stamp_onLine : (s.onLine c q).stamp = s.stamp := rfl
@[simp] theorem State.period_onLine : (s.onLine c q).period = s.period := rfl
@[simp] theorem State.slot_onLine (n : Nat) : (s.onLine c q).slot n = s.slot n := rfl
@[simp] theorem State.transitDue_onLine : (s.onLine c q).transitDue i = s.transitDue i := rfl

/-! ### Stations and notices -/

@[simp] theorem State.modStation_onLine (f : Station → Station) :
    (s.onLine c q).modStation i f = (s.modStation i f).onLine c q := rfl

@[simp] theorem State.modSession_onLine (f : Session → Session) :
    (s.onLine c q).modSession i f = (s.modSession i f).onLine c q := rfl

@[simp] theorem State.postAt_onLine (k : NoticeKind) : (s.onLine c q).postAt k i = (s.postAt k i).onLine c q := rfl

@[simp] theorem State.indicate_onLine (f : Indicator) :
    (s.onLine c q).indicate i f = (s.indicate i f).onLine c q := rfl

@[simp] theorem State.enterState_onLine (new : StationState) :
    (s.onLine c q).enterState i new = (s.enterState i new).onLine c q := rfl

@[simp] theorem State.enterOffline_onLine : (s.onLine c q).enterOffline i = (s.enterOffline i).onLine c q := rfl

@[simp] theorem State.reloadBoth_onLine : (s.onLine c q).reloadBoth i = (s.reloadBoth i).onLine c q := rfl

@[simp] theorem State.activity_onLine (t : TimerId) : (s.onLine c q).activity i t = (s.activity i t).onLine c q := by
  unfold State.activity
  by_cases off : (s.station i).state = .offline
  · simp [off]
  · by_cases save : (s.station i).state = .save
    · simp only [State.station_onLine, save, State.enterState_onLine, reduceCtorEq, if_false, if_true]
      split <;> rfl
    · simp only [State.station_onLine, off, save, if_false]
      split <;> rfl

/-! ### Accounts, periods and the journal -/

@[simp] theorem State.writeAccount_onLine (n : Nat) (a : Account) :
    (s.onLine c q).writeAccount n a = (s.writeAccount n a).onLine c q := by
  simp only [State.writeAccount, State.slot_onLine]
  split <;> rfl

@[simp] theorem State.testedRead_onLine (n : Nat) :
    (s.onLine c q).testedRead n = withLine c q (s.testedRead n) := by
  simp only [State.testedRead, State.slot_onLine]
  split
  · rfl
  · split
    · rfl
    · split <;> rfl

@[simp] theorem State.accountStep_onLine (x : Session) (cents : Nat) :
    (s.onLine c q).accountStep x cents = withLine c q (s.accountStep x cents) := by
  simp only [State.accountStep, State.testedRead_onLine]
  split
  · obtain ⟨t, read⟩ := s.testedRead _
    cases read <;> simp
  · rfl

@[simp] theorem State.testAlarm_onLine : (s.onLine c q).testAlarm = s.testAlarm.onLine c q :=
  State.onLine_ite (({ s with alarm := none } : State).turnPeriod) s

@[simp] theorem State.journalLowFrom_onLine (b : State) :
    (s.onLine c q).journalLowFrom (b.onLine c q) = (s.journalLowFrom b).onLine c q :=
  State.onLine_ite (s.post .journalLow 0) s

@[simp] theorem State.reserve_onLine : (s.onLine c q).reserve = s.reserve.onLine c q :=
  State.journalLowFrom_onLine (s := { s with reservations := s.reservations + 1 }) s

/-! ### Sessions -/

@[simp] theorem State.enterHolding_onLine (x : Session) :
    (s.onLine c q).enterHolding i x = (s.enterHolding i x).onLine c q := rfl

@[simp] theorem State.liftPause_onLine (x : Session) (byExtend : Bool) :
    (s.onLine c q).liftPause i x byExtend = (s.liftPause i x byExtend).onLine c q := by
  cases byExtend <;> rfl

@[simp] theorem State.evaluatePause_onLine (byExtend : Bool) :
    (s.onLine c q).evaluatePause i byExtend = (s.evaluatePause i byExtend).onLine c q := by
  simp only [State.evaluatePause, State.station_onLine]
  split
  · rfl
  · simp

@[simp] theorem State.createSession_onLine (p : Payment) (hold rate : Nat) (phase : Phase) :
    (s.onLine c q).createSession i p hold rate phase = (s.createSession i p hold rate phase).onLine c q := by
  have reserved := State.reserve_onLine (s := { s with sessionSerial := wrapInc Config.wrap32 s.sessionSerial })
    (c := c) (q := q)
  exact congrArg (fun t : State => (t.setSession i _).reloadBoth i) reserved

@[simp] theorem State.endWithoutRecord_onLine :
    (s.onLine c q).endWithoutRecord i = (s.endWithoutRecord i).onLine c q := rfl

@[simp] theorem State.settle_onLine (x : Session) (reason : CloseReason) :
    (s.onLine c q).settle i x reason = (s.settle i x reason).onLine c q := by
  simp only [State.settle, State.accountStep_onLine]
  obtain ⟨t, parked⟩ := s.accountStep x x.chargeCents
  rfl

@[simp] theorem State.settleInService_onLine (x : Session) (reason : CloseReason) :
    (s.onLine c q).settleInService i x reason = (s.settleInService i x reason).onLine c q := by
  simp [State.settleInService]

@[simp] theorem State.closeRequest_onLine (reason : CloseReason) :
    (s.onLine c q).closeRequest i reason = (s.closeRequest i reason).onLine c q := by
  simp only [State.closeRequest, State.station_onLine]
  split
  · rfl
  · simp

@[simp] theorem State.quietTest_onLine : (s.onLine c q).quietTest i = (s.quietTest i).onLine c q := by
  unfold State.quietTest
  cases present : (s.station i).session <;> simp [present]

@[simp] theorem State.endEvent_onLine (before : StationState) :
    (s.onLine c q).endEvent i before = (s.endEvent i before).onLine c q := by
  simp [State.endEvent]

@[simp] theorem State.emptyPathReport_onLine :
    (s.onLine c q).emptyPathReport i = (s.emptyPathReport i).onLine c q := by
  simp only [State.emptyPathReport, State.quietTest_onLine, State.station_onLine]
  split
  · rfl
  · split
    · rfl
    · split <;> simp

/-! ### Jams -/

@[simp] theorem State.openJam_onLine (cause : JamCause) :
    (s.onLine c q).openJam i cause = (s.openJam i cause).onLine c q := rfl

@[simp] theorem State.handOver_onLine : (s.onLine c q).handOver i = (s.handOver i).onLine c q := by
  simp [State.handOver]

@[simp] theorem State.endRecover_onLine : (s.onLine c q).endRecover i = (s.endRecover i).onLine c q := rfl

@[simp] theorem State.enterRecover_onLine : (s.onLine c q).enterRecover i = (s.enterRecover i).onLine c q := by
  simp [State.enterRecover]

@[simp] theorem State.exitTest_onLine : (s.onLine c q).exitTest i = (s.exitTest i).onLine c q := by
  simp [State.exitTest]

@[simp] theorem State.reportIfEmptied_onLine (before : List Sheet) :
    (s.onLine c q).reportIfEmptied i before = (s.reportIfEmptied i before).onLine c q := by
  simp [State.reportIfEmptied]

@[simp] theorem State.declareJam_onLine (cause : JamCause) :
    (s.onLine c q).declareJam i cause = (s.declareJam i cause).onLine c q := by
  simp only [State.declareJam, State.station_onLine]
  split <;> simp [State.offlineJam, State.foldJam, State.declareNew]

/-! ### Operations of the requests -/

@[simp] theorem State.startStation_onLine : (s.onLine c q).startStation i = (s.startStation i).onLine c q := by
  simp only [State.startStation, State.station_onLine, State.enterState_onLine, State.reloadBoth_onLine,
    State.declareJam_onLine, State.onLine_ite, State.endEvent_onLine]
  rfl

@[simp] theorem State.stopStation_onLine : (s.onLine c q).stopStation i = (s.stopStation i).onLine c q := by
  simp only [State.stopStation, State.station_onLine]
  split
  · rfl
  · simp

@[simp] theorem State.wakeStation_onLine : (s.onLine c q).wakeStation i = (s.wakeStation i).onLine c q := by
  simp [State.wakeStation]

@[simp] theorem State.openCounter_onLine (hold ref : Nat) :
    (s.onLine c q).openCounter i hold ref = (s.openCounter i hold ref).onLine c q := by
  by_cases save : (s.station i).state = .save <;> simp [State.openCounter, save]

@[simp] theorem State.acceptAuth_onLine (hold : Nat) :
    (s.onLine c q).acceptAuth i hold = (s.acceptAuth i hold).onLine c q := by
  simp [State.acceptAuth]

@[simp] theorem State.declineAuth_onLine : (s.onLine c q).declineAuth i = (s.declineAuth i).onLine c q := rfl

end OnLine

end Sys2Proof.Machine
end

section
/-! The answers to requests, and so to taken frames, beside the host line (R164). -/

namespace Sys2Proof.Machine

section OnLine

variable {s : State} {c : HostCondition} {q : List HostFrame}

/-! ### Device requests and notices -/

theorem State.ownGetStatus_onLine : (s.onLine c q).ownGetStatus = withLine c q s.ownGetStatus := rfl

theorem State.ownSetTime_onLine (x : BitVec 32) : (s.onLine c q).ownSetTime x = withLine c q (s.ownSetTime x) := by
  have tested := State.testAlarm_onLine (s := { s with stamp := x.toNat, timeUnset := false }) (c := c) (q := q)
  exact congrArg (fun t : State => (t, Answer.ok (leBytes 4 t.stamp ++ leBytes 2 t.period ++ [flag _]))) tested

theorem State.ownSetPeriodAlarm_onLine (p : Byte) (x : Option (BitVec 32)) :
    (s.onLine c q).ownSetPeriodAlarm p x = withLine c q (s.ownSetPeriodAlarm p x) := by
  have tested := State.testAlarm_onLine (s := { s with alarm := if p = 0 then none else x.map BitVec.toNat })
    (c := c) (q := q)
  exact withLine_ite rfl
    (congrArg (fun t : State => (t, Answer.ok (optional t.alarm (leBytes 4) ++ leBytes 2 t.period))) tested)

theorem State.ownTurnPeriod_onLine : (s.onLine c q).ownTurnPeriod = withLine c q s.ownTurnPeriod := rfl

theorem State.ownSetDevice_onLine (mask : BitVec 16) :
    (s.onLine c q).ownSetDevice mask = withLine c q (s.ownSetDevice mask) := withLine_ite rfl rfl

theorem State.ownReset_onLine : (s.onLine c q).ownReset = withLine c q s.ownReset := rfl

theorem State.ownClearAll_onLine : (s.onLine c q).ownClearAll = withLine c q s.ownClearAll := by
  refine withLine_ite ?_ rfl
  simp only [State.modStations_eq]
  rfl

theorem State.ownTakeNotice_onLine : (s.onLine c q).ownTakeNotice = withLine c q s.ownTakeNotice := by
  have same : (s.onLine c q).notices.find? (s.onLine c q).enabled = s.notices.find? s.enabled := rfl
  unfold State.ownTakeNotice
  rw [same]
  cases s.notices.find? s.enabled <;> rfl

section Stations

variable (n : Byte)

/-! ### Stations -/

theorem State.ownSetProfile_onLine (p : ProfileFields) :
    (s.onLine c q).ownSetProfile n p = withLine c q (s.ownSetProfile n p) := by
  unfold State.ownSetProfile
  cases stationOf n with
  | none => rfl
  | some i => exact withLine_ite rfl (withLine_ite rfl (withLine_ite (by simp) rfl))

theorem State.ownReadProfile_onLine : (s.onLine c q).ownReadProfile n = withLine c q (s.ownReadProfile n) := by
  unfold State.ownReadProfile
  cases stationOf n <;> rfl

theorem State.ownStartStation_onLine : (s.onLine c q).ownStartStation n = withLine c q (s.ownStartStation n) := by
  unfold State.ownStartStation
  cases stationOf n with
  | none => rfl
  | some i => exact withLine_ite rfl (by simp)

theorem State.ownStopStation_onLine : (s.onLine c q).ownStopStation n = withLine c q (s.ownStopStation n) := by
  unfold State.ownStopStation
  cases stationOf n with
  | none => rfl
  | some i => exact withLine_ite rfl (by simp)

theorem State.ownWakeStation_onLine : (s.onLine c q).ownWakeStation n = withLine c q (s.ownWakeStation n) := by
  unfold State.ownWakeStation
  cases stationOf n with
  | none => rfl
  | some i => exact withLine_ite rfl (by simp)

theorem State.ownReadStation_onLine : (s.onLine c q).ownReadStation n = withLine c q (s.ownReadStation n) := by
  unfold State.ownReadStation
  cases stationOf n <;> rfl

theorem State.ownReadJam_onLine : (s.onLine c q).ownReadJam n = withLine c q (s.ownReadJam n) := by
  unfold State.ownReadJam
  cases stationOf n with
  | none => rfl
  | some i =>
    simp only [State.station_onLine]
    split <;> rfl

theorem State.ownReadMeters_onLine : (s.onLine c q).ownReadMeters n = withLine c q (s.ownReadMeters n) := by
  unfold State.ownReadMeters
  cases stationOf n <;> rfl

/-! ### Sessions -/

theorem State.ownOpenSession_onLine (a h : BitVec 32) :
    (s.onLine c q).ownOpenSession n a h = withLine c q (s.ownOpenSession n a h) := by
  unfold State.ownOpenSession
  cases stationOf n with
  | none => rfl
  | some i =>
    refine withLine_ite rfl (withLine_ite rfl (withLine_ite rfl ?_))
    exact congrArg (fun t : State => (t, Answer.ok (leBytes 4 t.sessionSerial))) (State.openCounter_onLine _ _)

theorem State.ownEndSession_onLine : (s.onLine c q).ownEndSession n = withLine c q (s.ownEndSession n) := by
  unfold State.ownEndSession
  cases stationOf n with
  | none => rfl
  | some i =>
    simp only [State.station_onLine]
    split
    · rfl
    · exact withLine_ite (by simp) (withLine_ite rfl rfl)

theorem State.ownReadSession_onLine : (s.onLine c q).ownReadSession n = withLine c q (s.ownReadSession n) := by
  unfold State.ownReadSession
  cases stationOf n <;> rfl

theorem State.ownReadAuth_onLine : (s.onLine c q).ownReadAuth n = withLine c q (s.ownReadAuth n) := by
  unfold State.ownReadAuth
  cases stationOf n with
  | none => rfl
  | some i =>
    simp only [State.station_onLine]
    split
    · rfl
    · split
      · exact withLine_ite rfl rfl
      · rfl

theorem State.ownAuthResult_onLine (r : BitVec 16) (a : BitVec 32) :
    (s.onLine c q).ownAuthResult n r a = withLine c q (s.ownAuthResult n r a) := by
  unfold State.ownAuthResult
  cases stationOf n with
  | none => rfl
  | some i =>
    refine withLine_ite rfl ?_
    simp only [State.station_onLine]
    split
    · rfl
    · exact withLine_ite (withLine_ite (by simp) (by simp)) rfl

/-! ### Plans -/

theorem State.ownLoadPlan_onLine (f : List (BitVec 16)) :
    (s.onLine c q).ownLoadPlan n f = withLine c q (s.ownLoadPlan n f) :=
  withLine_ite rfl (withLine_ite rfl (withLine_ite rfl rfl))

theorem State.ownAmendPlan_onLine (m : BitVec 16) (v : List (BitVec 16)) :
    (s.onLine c q).ownAmendPlan n m v = withLine c q (s.ownAmendPlan n m v) :=
  withLine_ite rfl (withLine_ite rfl (withLine_ite rfl (withLine_ite rfl rfl)))

theorem State.ownReadPlan_onLine : (s.onLine c q).ownReadPlan n = withLine c q (s.ownReadPlan n) := withLine_ite rfl rfl

theorem State.ownQuote_onLine (r t k : Byte) : (s.onLine c q).ownQuote n r t k = withLine c q (s.ownQuote n r t k) :=
  withLine_ite rfl (withLine_ite rfl rfl)

end Stations

/-! ### Accounts -/

section Accounts

variable (slot : BitVec 16)

theorem State.ownLoadAccount_onLine (id : BitVec 40) (kind state rate : Byte) (f : List (BitVec 32)) :
    (s.onLine c q).ownLoadAccount slot id kind state rate f = withLine c q (s.ownLoadAccount slot id kind state rate f) := by
  refine withLine_ite rfl ?_
  simp only [State.period_onLine]
  split
  · rfl
  · exact withLine_ite rfl (withLine_ite rfl (withLine_ite rfl rfl))

theorem State.ownReadAccount_onLine : (s.onLine c q).ownReadAccount slot = withLine c q (s.ownReadAccount slot) :=
  withLine_ite rfl (congrArg (fun r : State × SlotRead => (r.1, Answer.ok (r.2.bytes slot.toNat s.period)))
    (State.testedRead_onLine slot.toNat))

theorem State.ownFindAccount_onLine (id : BitVec 40) :
    (s.onLine c q).ownFindAccount id = withLine c q (s.ownFindAccount id) := by
  have same : (s.onLine c q).lookup id.toNat = s.lookup id.toNat := rfl
  refine withLine_ite rfl ?_
  rw [same]
  cases s.lookup id.toNat with
  | none => rfl
  | some n =>
    exact congrArg (fun r : State × SlotRead => (r.1, Answer.ok (r.2.bytes n s.period))) (State.testedRead_onLine n)

theorem State.ownTopup_onLine (a : BitVec 32) : (s.onLine c q).ownTopup slot a = withLine c q (s.ownTopup slot a) := by
  refine withLine_ite rfl ?_
  rw [State.testedRead_onLine]
  obtain ⟨t, read⟩ := s.testedRead slot.toNat
  cases read with
  | content x =>
    simp only [withLine_mk]
    split
    · rfl
    · exact withLine_ite rfl (by simp)
  | _ => rfl

theorem State.ownSetLimit_onLine (l : BitVec 32) : (s.onLine c q).ownSetLimit slot l = withLine c q (s.ownSetLimit slot l) := by
  refine withLine_ite rfl ?_
  rw [State.testedRead_onLine]
  obtain ⟨t, read⟩ := s.testedRead slot.toNat
  cases read with
  | content x =>
    simp only [withLine_mk]
    split
    · rfl
    · exact withLine_ite rfl (by simp)
  | _ => rfl

theorem State.ownSetAccountState_onLine (state : Byte) :
    (s.onLine c q).ownSetAccountState slot state = withLine c q (s.ownSetAccountState slot state) := by
  refine withLine_ite rfl ?_
  rw [State.testedRead_onLine]
  obtain ⟨t, read⟩ := s.testedRead slot.toNat
  cases read with
  | content x => simp
  | _ => rfl

theorem State.ownDeleteAccount_onLine : (s.onLine c q).ownDeleteAccount slot = withLine c q (s.ownDeleteAccount slot) := by
  refine withLine_ite rfl ?_
  simp only [State.slot_onLine]
  split
  · rfl
  · exact withLine_ite rfl rfl

end Accounts

/-! ### The journal -/

theorem State.ownReadJournal_onLine : (s.onLine c q).ownReadJournal = withLine c q s.ownReadJournal := by
  cases present : s.journal with
  | nil => rw [State.ownReadJournal_of_nil present, State.ownReadJournal_of_nil (s := s.onLine c q) present]; rfl
  | cons r rest =>
    rw [State.ownReadJournal_of_cons present, State.ownReadJournal_of_cons (s := s.onLine c q) present]; rfl

theorem State.ownReleaseJournal_onLine (n : BitVec 32) :
    (s.onLine c q).ownReleaseJournal n = withLine c q (s.ownReleaseJournal n) := by
  cases present : s.journal with
  | nil => rw [State.ownReleaseJournal_of_nil present, State.ownReleaseJournal_of_nil (s := s.onLine c q) present]; rfl
  | cons r rest =>
    rw [State.ownReleaseJournal_of_cons present, State.ownReleaseJournal_of_cons (s := s.onLine c q) present]
    exact withLine_ite rfl rfl

end OnLine

/-- No owning block looks at the host line when it acts on a request (R164, step 5). -/
theorem State.serve_onLine (s : State) (c : HostCondition) (q : List HostFrame) (r : Instr) :
    (s.onLine c q).serve r = withLine c q (s.serve r) := by
  cases r with
  | getStatus => exact ownGetStatus_onLine
  | setTime => exact ownSetTime_onLine _
  | setPeriodAlarm => exact ownSetPeriodAlarm_onLine _ _
  | turnPeriod => exact ownTurnPeriod_onLine
  | setDevice => exact ownSetDevice_onLine _
  | reset => exact ownReset_onLine
  | clearAll => exact ownClearAll_onLine
  | takeNotice => exact ownTakeNotice_onLine
  | setProfile => exact ownSetProfile_onLine _ _
  | readProfile => exact ownReadProfile_onLine _
  | startStation => exact ownStartStation_onLine _
  | stopStation => exact ownStopStation_onLine _
  | wakeStation => exact ownWakeStation_onLine _
  | readStation => exact ownReadStation_onLine _
  | readJam => exact ownReadJam_onLine _
  | readMeters => exact ownReadMeters_onLine _
  | openSession => exact ownOpenSession_onLine _ _ _
  | endSession => exact ownEndSession_onLine _
  | readSession => exact ownReadSession_onLine _
  | readAuth => exact ownReadAuth_onLine _
  | authResult => exact ownAuthResult_onLine _ _ _
  | loadPlan => exact ownLoadPlan_onLine _ _
  | amendPlan => exact ownAmendPlan_onLine _ _ _
  | readPlan => exact ownReadPlan_onLine _
  | quote => exact ownQuote_onLine _ _ _ _
  | loadAccount => exact ownLoadAccount_onLine _ _ _ _ _ _
  | readAccount => exact ownReadAccount_onLine _
  | findAccount => exact ownFindAccount_onLine _
  | topup => exact ownTopup_onLine _ _
  | setLimit => exact ownSetLimit_onLine _ _
  | setAccountState => exact ownSetAccountState_onLine _ _
  | deleteAccount => exact ownDeleteAccount_onLine _
  | readJournal => exact ownReadJournal_onLine
  | releaseJournal => exact ownReleaseJournal_onLine _
  | _ => rfl

theorem State.perform_onLine (s : State) (c : HostCondition) (q : List HostFrame) (r : Instr) :
    (s.onLine c q).perform r = withLine c q (s.perform r) :=
  withLine_ite rfl (s.serve_onLine c q r)

/-- A request is answered alike whatever else waits on the host line (R164). -/
theorem State.answer_onLine (s : State) (c : HostCondition) (q : List HostFrame) (kind : Byte) (r : Instr) :
    (s.onLine c q).answer kind r = (s.answer kind r).onLine c q := by
  rw [State.answer, State.perform_onLine]
  rfl

end Sys2Proof.Machine
end

section
/-! What a taken frame carries (R164, R187, R188): the request read back from the body of its own frame. -/

namespace Sys2Proof.Machine

/-! ### Fields of a body -/

section Fields

variable {n : Nat}

/-- A field of full width read back from its own bytes (R188). -/
theorem field_bytesOf {w : Nat} (x : BitVec n) (width : n = 8 * w) (before after : List Byte) {k : Nat}
    (offset : before.length = k) : field n (before ++ (bytesOf w x ++ after)) k w = x := by
  have fits : x.toNat < 256 ^ w := by
    rw [show 256 ^ w = 2 ^ n by rw [width, Nat.pow_mul]]
    exact x.isLt
  rw [field, ← offset, List.drop_left, List.take_append_of_le_length (by simp), List.take_of_length_le (by simp), bytesOf,
    leNat_leBytes w _ fits, BitVec.ofNat_toNat, BitVec.setWidth_eq]

theorem field_bytesOf_last {w : Nat} (x : BitVec n) (width : n = 8 * w) (before : List Byte) {k : Nat}
    (offset : before.length = k) : field n (before ++ bytesOf w x) k w = x := by
  simpa using field_bytesOf x width before [] offset

theorem field_bytesOf_only {w : Nat} (x : BitVec n) (width : n = 8 * w) : field n (bytesOf w x) 0 w = x :=
  field_bytesOf_last x width [] rfl

end Fields

/-- A run of 2-byte numbers read back (R188). -/
theorem words16_flatMap : ∀ values : List (BitVec 16), words16 (values.flatMap (bytesOf 2)) = values
  | [] => rfl
  | v :: rest => by
    have head : BitVec.ofNat 16 (leNat (leBytes 2 v.toNat)) = v := by
      rw [leNat_leBytes 2 _ v.isLt, BitVec.ofNat_toNat, BitVec.setWidth_eq]
    have tail := words16_flatMap rest
    calc words16 (bytesOf 2 v ++ rest.flatMap (bytesOf 2))
        = BitVec.ofNat 16 (leNat (leBytes 2 v.toNat)) :: words16 (rest.flatMap (bytesOf 2)) := rfl
      _ = v :: rest := by rw [head, tail]

/-- A run of 4-byte numbers read back (R188). -/
theorem words32_flatMap : ∀ values : List (BitVec 32), words32 (values.flatMap (bytesOf 4)) = values
  | [] => rfl
  | v :: rest => by
    have head : BitVec.ofNat 32 (leNat (leBytes 4 v.toNat)) = v := by
      rw [leNat_leBytes 4 _ v.isLt, BitVec.ofNat_toNat, BitVec.setWidth_eq]
    have tail := words32_flatMap rest
    calc words32 (bytesOf 4 v ++ rest.flatMap (bytesOf 4))
        = BitVec.ofNat 32 (leNat (leBytes 4 v.toNat)) :: words32 (rest.flatMap (bytesOf 4)) := rfl
      _ = v :: rest := by rw [head, tail]

/-! ### The fields of each request -/

/-- The 28 bytes of a profile read back from a SET-PROFILE body (R36, R188). -/
theorem profileAt_profileBytes (n : Byte) (p : ProfileFields) : profileAt (n :: profileBytes p) = p := by
  have hold : field 32 (n :: profileBytes p) 2 4 = p.presetHold :=
    field_bytesOf p.presetHold rfl [n, p.plan] _ rfl
  have opening : field 32 (n :: profileBytes p) 6 4 = p.minOpening :=
    field_bytesOf p.minOpening rfl (n :: p.plan :: bytesOf 4 p.presetHold) _ rfl
  rw [profileAt, hold, opening]
  rfl

/-- The presence byte of SET-PERIOD-ALARM says whether the stamp follows (R188). -/
theorem requestFields_setPeriodAlarm {p : Byte} {x : Option (BitVec 32)} (formed : (p == 0) = x.isNone) :
    requestFields 0x03 (requestBody (.setPeriodAlarm p x)) = some (.setPeriodAlarm p x) := by
  cases x with
  | none =>
    obtain rfl : p = 0 := by simpa using formed
    rfl
  | some stamp =>
    have present : p ≠ 0 := by simpa using formed
    show some (Instr.setPeriodAlarm p (if p = 0 then none else some (field 32 (p :: bytesOf 4 stamp) 1 4))) = _
    have number : field 32 (p :: bytesOf 4 stamp) 1 4 = stamp := field_bytesOf_last stamp rfl [p] rfl
    rw [if_neg present, number]

theorem requestFields_amendPlan (n : Byte) (m : BitVec 16) (v : List (BitVec 16)) :
    requestFields 0x31 (requestBody (.amendPlan n m v)) = some (.amendPlan n m v) := by
  have mask : field 16 (requestBody (.amendPlan n m v)) 1 2 = m :=
    field_bytesOf m rfl [n] (v.flatMap (bytesOf 2)) rfl
  show some (Instr.amendPlan n (field 16 (requestBody (.amendPlan n m v)) 1 2) (words16 (v.flatMap (bytesOf 2)))) = _
  rw [mask, words16_flatMap]

theorem requestFields_loadAccount (slot : BitVec 16) (id : BitVec 40) (kind state rate : Byte) (f : List (BitVec 32)) :
    requestFields 0x40 (requestBody (.loadAccount slot id kind state rate f)) =
      some (.loadAccount slot id kind state rate f) := by
  have number : field 16 (requestBody (.loadAccount slot id kind state rate f)) 0 2 = slot :=
    field_bytesOf slot rfl [] _ rfl
  have identity : field 40 (requestBody (.loadAccount slot id kind state rate f)) 2 5 = id :=
    field_bytesOf id rfl (bytesOf 2 slot) ([kind, state, rate] ++ f.flatMap (bytesOf 4)) rfl
  show some (Instr.loadAccount (field 16 (requestBody (.loadAccount slot id kind state rate f)) 0 2)
    (field 40 (requestBody (.loadAccount slot id kind state rate f)) 2 5) kind state rate
    (words32 (f.flatMap (bytesOf 4)))) = _
  rw [number, identity, words32_flatMap]

/-- Every well-formed request is read back from its own kind and body (R187, R188). -/
theorem requestFields_requestBody {r : Instr} {kind : Byte} (code : requestCode r = some kind)
    (formed : r.wellFormed = true) : requestFields kind (requestBody r) = some r := by
  cases r <;> cases code
  case setTime x => exact congrArg (some <| Instr.setTime ·) (field_bytesOf_only x rfl)
  case setPeriodAlarm => exact requestFields_setPeriodAlarm (by simpa [Instr.wellFormed] using formed)
  case setDevice x => exact congrArg (some <| Instr.setDevice ·) (field_bytesOf_only x rfl)
  case setProfile n p => exact congrArg (some <| Instr.setProfile n ·) (profileAt_profileBytes n p)
  case openSession n a h =>
    exact congrArg₂ (some <| Instr.openSession n · ·) (field_bytesOf a rfl [n] _ rfl)
      (field_bytesOf_last h rfl (n :: bytesOf 4 a) rfl)
  case authResult n a x =>
    exact congrArg₂ (some <| Instr.authResult n · ·) (field_bytesOf a rfl [n] _ rfl)
      (field_bytesOf_last x rfl (n :: bytesOf 2 a) rfl)
  case loadPlan n f => exact congrArg (some <| Instr.loadPlan n ·) (words16_flatMap f)
  case amendPlan => exact requestFields_amendPlan _ _ _
  case loadAccount => exact requestFields_loadAccount _ _ _ _ _ _
  case readAccount x => exact congrArg (some <| Instr.readAccount ·) (field_bytesOf_only x rfl)
  case findAccount x => exact congrArg (some <| Instr.findAccount ·) (field_bytesOf_only x rfl)
  case topup n a =>
    exact congrArg₂ (some <| Instr.topup · ·) (field_bytesOf n rfl [] _ rfl) (field_bytesOf_last a rfl (bytesOf 2 n) rfl)
  case setLimit n a =>
    exact congrArg₂ (some <| Instr.setLimit · ·) (field_bytesOf n rfl [] _ rfl) (field_bytesOf_last a rfl (bytesOf 2 n) rfl)
  case setAccountState n b => exact congrArg (some <| Instr.setAccountState · b) (field_bytesOf n rfl [] [b] rfl)
  case deleteAccount x => exact congrArg (some <| Instr.deleteAccount ·) (field_bytesOf_only x rfl)
  case releaseJournal x => exact congrArg (some <| Instr.releaseJournal ·) (field_bytesOf_only x rfl)
  all_goals rfl

/-- Checks 2 and 3 of R164 find a well-formed request in its own frame. -/
theorem parseRequest_requestBody {r : Instr} {kind : Byte} (code : requestCode r = some kind)
    (formed : r.wellFormed = true) : parseRequest kind (requestBody r) = .request r := by
  simp only [parseRequest, requestFields_requestBody code formed, bodyFits_requestBody code formed, if_true]

end Sys2Proof.Machine
end

section
/-! The taking of a queued frame (R164). -/

namespace Sys2Proof.Machine

section Taken

variable {s : State} {f : HostFrame} {rest : List HostFrame}

/-- With no reply going out the oldest frame leaves the queue and is answered (R164). -/
theorem exec_requestTaken (alive : s.alive = true) (silent : s.reply = none) (queued : s.receiveQueue = f :: rest) :
    exec .requestTaken s = .next (({ s with receiveQueue := rest } : State).takeFrame f) := by
  show Host.Outcome.next s.takeRequest = _
  rw [State.takeRequest, if_pos ⟨alive, silent⟩, queued]

/-! ### The checks of a taken frame -/

theorem State.takeFrame_of_bad (bad : f.good = false) :
    s.takeFrame f = s.sendReply nakKind (.refuse .badFrame) false := if_pos bad

/-- A good frame is answered by what the second and third check make of it. -/
theorem State.takeFrame_of_good (good : f.good = true) : s.takeFrame f =
    match parseRequest f.kind f.body with
    | .unknownKind =>
        s.sendReply (if f.kind.toNat < 0x80 then replyKind f.kind else nakKind) (.refuse .unknownKind) false
    | .badLength => s.sendReply (replyKind f.kind) (.refuse .badLength) false
    | .request r => s.answer f.kind r :=
  if_neg (by simp [good])

theorem State.takeFrame_of_unknown (good : f.good = true) (unknown : requestFields f.kind f.body = none) :
    s.takeFrame f =
      s.sendReply (if f.kind.toNat < 0x80 then replyKind f.kind else nakKind) (.refuse .unknownKind) false := by
  rw [State.takeFrame_of_good good, parseRequest, unknown]

theorem State.takeFrame_of_badLength (good : f.good = true) (known : requestFields f.kind f.body ≠ none)
    (long : bodyFits f.kind f.body = false) :
    s.takeFrame f = s.sendReply (replyKind f.kind) (.refuse .badLength) false := by
  obtain ⟨r, fields⟩ := Option.ne_none_iff_exists'.mp known
  rw [State.takeFrame_of_good good, parseRequest, fields, long]
  rfl

/-- The frame of a well-formed request is answered as that request. -/
theorem State.takeFrame_of_request {r : Instr} {kind : Byte} (code : requestCode r = some kind)
    (formed : r.wellFormed = true) :
    s.takeFrame { kind := kind, body := requestBody r, good := true } = s.answer kind r := by
  rw [State.takeFrame_of_good rfl, parseRequest_requestBody code formed]

end Taken

/-- Settles O4: the three checks each have their answer; a well-formed request is read back from its frame, and the line
that it is taken from is nothing to the block that answers it. -/
theorem takenFramesAnswered : Obligations.TakenFramesAnswered := by
  refine ⟨fun s f rest alive silent queued => ⟨fun bad => ?_, fun good unknown => ?_, fun good known long => ?_⟩,
    fun s r kind rest code formed alive silent queued => ?_⟩
  · rw [exec_requestTaken alive silent queued, State.takeFrame_of_bad bad]
    rfl
  · rw [exec_requestTaken alive silent queued, State.takeFrame_of_unknown good unknown]
    rfl
  · rw [exec_requestTaken alive silent queued, State.takeFrame_of_badLength good known long]
    rfl
  · have free : (s.onLine .hunting []).LineFree := ⟨alive, silent, rfl⟩
    have sent : exec r (s.onLine .hunting []) = .next ((s.answer kind r).onLine .hunting []) :=
      (exec_request_of_lineFree code formed free).trans
        (congrArg Host.Outcome.next (s.answer_onLine .hunting [] kind r))
    have taken : (s.onLine s.hostCondition rest).takeFrame { kind := kind, body := requestBody r, good := true } =
        (s.answer kind r).onLine s.hostCondition rest :=
      (State.takeFrame_of_request code formed).trans (s.answer_onLine s.hostCondition rest kind r)
    exact ⟨_, sent, (exec_requestTaken alive silent queued).trans (congrArg Host.Outcome.next taken)⟩

end Sys2Proof.Machine
end

section
/-! The supply monitor (R176 to R179): the entry into SHUTDOWN, the loss of the volatile state, and the restart that each
trigger begins. -/

namespace Sys2Proof.Machine

variable {s : State}

/-! ### SHUTDOWN (R177) -/

/-- The entry into SHUTDOWN changes every station, and of the rest what R177 names. -/
theorem State.enterShutdown_eq (s : State) : s.enterShutdown = { s with
    device := .shutdown
    scrubDue := none
    stations := s.stations.map Station.shutDown
    notices := insertNotice ⟨.powerFail, 0⟩ s.notices } := by
  rw [State.enterShutdown, State.modStations_eq]
  rfl

@[simp] theorem State.station_enterShutdown (s : State) (i : StationId) :
    s.enterShutdown.station i = (s.station i).shutDown := by
  rw [State.enterShutdown, State.station_post, State.station_modStations]
  rfl

/-- A part whose outputs are not driven asserts none of them (R25). -/
theorem State.outputs_of_not_driven (dark : s.driven = false) (i : StationId) :
    s.permit i = false ∧ s.pause i = false ∧ s.save i = false := by
  simp [State.permit, State.pause, State.save, dark]

theorem State.pfailRises_of_running (running : s.running = true) :
    s.pfailRises = ({ s with pfail := true } : State).enterShutdown := by
  have supplied : s.mainSupply = true := by
    simp only [State.running, State.alive, Bool.and_eq_true] at running
    exact running.1.1.1.1
  rw [State.pfailRises, if_pos supplied]
  exact if_pos running

/-- Settles O49: PFAIL in the RUNNING device is the entry into SHUTDOWN. -/
theorem pfailShutsDown : Obligations.PfailShutsDown := by
  intro s running
  obtain ⟨t, shut⟩ : ∃ t, t = ({ s with pfail := true } : State).enterShutdown := ⟨_, rfl⟩
  have same : t = { s with
      device := .shutdown, pfail := true, scrubDue := none, stations := t.stations
      notices := insertNotice ⟨.powerFail, 0⟩ s.notices } := by
    rw [shut, State.enterShutdown_eq]
  have dark : t.driven = false := by rw [State.driven, same]; simp
  have station (i : StationId) : t.station i = (s.station i).shutDown := by rw [shut, State.station_enterShutdown]; rfl
  refine ⟨t, congrArg Host.Outcome.next ((State.pfailRises_of_running running).trans shut.symm), same, fun i => ?_⟩
  obtain ⟨permit, pause, save⟩ := State.outputs_of_not_driven dark i
  rw [station]
  exact ⟨rfl, rfl, rfl, rfl, rfl, rfl, rfl, rfl, rfl, rfl, permit, pause, save, fun m => by simp [Station.shutDown]⟩

/-! ### The loss of the volatile state (R178, R179) -/

/-- What the loss of the volatile state leaves: the retained items, the pins and the interval count as they stood. -/
theorem State.loseVolatile_eq (s : State) : s.loseVolatile = { s with
    restart := none
    scrubDue := none
    notices := []
    hostCondition := .hunting
    receiveQueue := []
    linkOverrun := false
    reply := none
    stations := s.stations.map Station.loseVolatile } := State.modStations_eq _ _

theorem State.station_loseVolatile (s : State) (i : StationId) :
    s.loseVolatile.station i = (s.station i).loseVolatile := State.station_modStations _ _ _

/-- A station without its volatile items: its timers stopped, its lines deasserted and untimed, its port empty. -/
theorem Station.loseVolatile_eq (st : Station) : st.loseVolatile = { st with
    timerA := .stopped, timerB := .stopped, authTimer := none, pauseTimer := none, purgeTimer := none
    lines := st.lines.map fun _ v => v.clear
    reader := { condition := .looking, sending := none, waiting := [] } } := rfl

/-- The stations of a part `t` that the volatile state of `s` is lost to. -/
structure State.VolatileLost (s t : State) : Prop where
  station : ∀ i, t.station i = (s.station i).loseVolatile

namespace State.VolatileLost

variable {t : State}

theorem eq (lost : s.VolatileLost t) (i : StationId) : t.station i = { s.station i with
    timerA := .stopped, timerB := .stopped, authTimer := none, pauseTimer := none, purgeTimer := none
    lines := (t.station i).lines, reader := { condition := .looking, sending := none, waiting := [] } } := by
  rw [lost.station]
  rfl

theorem lines (lost : s.VolatileLost t) (i : StationId) (m : Line) : (t.station i).lines.get m =
    { raw := ((s.station i).lines.get m).raw, level := false, timing := none } := by
  rw [lost.station, Station.loseVolatile_eq, Lines.get_map]
  rfl

end State.VolatileLost

theorem State.volatileLost_supplyFails (v : Bool) : s.VolatileLost (s.supplyFails v) := by
  refine ⟨fun i => ?_⟩
  rw [State.supplyFails, State.station]
  exact s.station_loseVolatile i

theorem State.volatileLost_resetAsserts : s.VolatileLost s.resetAsserts := by
  refine ⟨fun i => ?_⟩
  rw [State.resetAsserts, State.station]
  exact s.station_loseVolatile i

/-- A part that has lost the volatile state, undriven and with nothing pending, as R178 and R179 describe it. -/
theorem State.supplyFails_eq (s : State) (v : Bool) : s.supplyFails v = { s with
    mainSupply := false, pfail := false, cameUp := false, marker := s.marker && v, restart := none
    scrubDue := none, notices := [], hostCondition := .hunting, receiveQueue := [], linkOverrun := false
    reply := none, stations := (s.supplyFails v).stations } := by
  simp only [State.supplyFails, State.loseVolatile_eq]

theorem State.resetAsserts_eq (s : State) : s.resetAsserts = { s with
    resetPin := true, restart := none, scrubDue := none, notices := [], hostCondition := .hunting
    receiveQueue := [], linkOverrun := false, reply := none, stations := s.resetAsserts.stations } := by
  simp only [State.resetAsserts, State.loseVolatile_eq]

/-- Settles O50: both commands are the loss of the volatile state, beside the supply's own flags and the pin. -/
theorem volatileStateLost : Obligations.VolatileStateLost := by
  refine ⟨fun s c v command => ?_, fun s v => ⟨?_, ?_⟩⟩
  · have stations {t : State} (lost : s.VolatileLost t) (dark : t.driven = false) (i : StationId) :
        (t.station i).session = (s.station i).session ∧ (t.station i).path = (s.station i).path ∧
          (t.station i).jam = (s.station i).jam ∧ (t.station i).meters = (s.station i).meters ∧
          (t.station i).state = (s.station i).state ∧ (t.station i).profile = (s.station i).profile ∧
          (t.station i).timerA = .stopped ∧ (t.station i).timerB = .stopped ∧
          (t.station i).reader = { condition := .looking, sending := none, waiting := [] } ∧
          t.permit i = false ∧ t.pause i = false ∧ t.save i = false := by
      rw [lost.station]
      exact ⟨rfl, rfl, rfl, rfl, rfl, rfl, rfl, rfl, rfl, State.outputs_of_not_driven dark i⟩
    rcases command with rfl | ⟨rfl, rfl⟩
    · refine ⟨s.supplyFails v, rfl, ?_⟩
      have lost := stations (State.volatileLost_supplyFails (s := s) v)
        (by rw [State.driven, s.supplyFails_eq v]; rfl)
      rw [s.supplyFails_eq v] at lost ⊢
      exact ⟨rfl, rfl, rfl, rfl, rfl, rfl, rfl, rfl, rfl, rfl, rfl, rfl, rfl, rfl, rfl, rfl, rfl, rfl, lost⟩
    · refine ⟨s.resetAsserts, rfl, ?_⟩
      have lost := stations (State.volatileLost_resetAsserts (s := s))
        (by rw [State.driven, s.resetAsserts_eq]; simp)
      rw [s.resetAsserts_eq] at lost ⊢
      exact ⟨rfl, rfl, rfl, rfl, rfl, rfl, by simp [State.attn], by simp [State.alive], by simp, rfl, rfl, rfl, rfl, rfl,
        rfl, rfl, rfl, rfl, lost⟩
  · have lost := State.volatileLost_supplyFails (s := s) v
    exact ⟨_, rfl, s.supplyFails_eq v, fun i => ⟨lost.eq i, lost.lines i⟩⟩
  · have lost := State.volatileLost_resetAsserts (s := s)
    exact ⟨_, rfl, s.resetAsserts_eq, fun i => ⟨lost.eq i, lost.lines i⟩⟩

/-! ### The start of a restart (R179, R180) -/

/-- The record of a restart of the given cause that has made no piece yet. -/
def State.restartRecord (s : State) (cause : RestartCause) : Restart :=
  { cause := cause, before := s.device, next := 0, settled := [], corrected := false, faulted := false }

theorem State.beginRestart_eq (s : State) (cause : RestartCause) : s.beginRestart cause = { s with
    cameUp := false
    restart := some (s.restartRecord cause)
    scrubDue := none
    hostCondition := .hunting
    receiveQueue := []
    linkOverrun := false
    reply := none
    stations := s.stations.map Station.beginRestart } := State.modStations_eq _ _

@[simp] theorem State.station_beginRestart (s : State) (cause : RestartCause) (i : StationId) :
    (s.beginRestart cause).station i = (s.station i).beginRestart := State.station_modStations _ _ _

/-- The part once the supply is recognized as returned (R176). -/
def State.resupplied (s : State) : State :=
  { s with mainSupply := true, pfail := false, cameUp := s.cameUp || !s.mainSupply }

/-- The part once its RESET pin is deasserted (R179). -/
def State.unpinned (s : State) : State := { s with resetPin := false }

/-- The supply's return after a power-up or in SHUTDOWN begins a restart of cause SUPPLY (R179). -/
theorem State.supplyReturns_restarts (pin : s.resetPin = false) (idle : s.restart = none)
    (needed : s.mainSupply = false ∨ s.cameUp = true ∨ s.device = .shutdown) (p : Option Nat) :
    s.supplyReturns p = s.resupplied.doRestart .supply p := by
  have begins : (s.cameUp || !s.mainSupply) = true ∨ s.device = .shutdown := by
    rcases needed with h | h | h <;> simp [h]
  unfold State.supplyReturns
  dsimp only
  rw [if_neg (by simp [pin]), if_neg (by simp [idle]), if_pos begins]
  rfl

/-- The RESET pin's deassertion begins a restart of cause PIN, and after a power-up one of cause SUPPLY (R179). -/
theorem State.resetDeasserts_restarts {cause : RestartCause} (pin : s.resetPin = true) (supplied : s.mainSupply = true)
    (why : s.cameUp = false ∧ cause = .pin ∨ s.cameUp = true ∧ s.pfail = false ∧ cause = .supply) (p : Option Nat) :
    s.resetDeasserts p = s.unpinned.doRestart cause p := by
  unfold State.resetDeasserts
  rw [if_neg (by simp [pin, supplied])]
  rcases why with ⟨up, rfl⟩ | ⟨up, steady, rfl⟩
  · rw [if_neg (by simp [up])]
    rfl
  · rw [if_pos up, if_neg (by simp [steady])]
    rfl

/-- Settles O51: each trigger is a restart made as far as no piece, so its beginning. -/
theorem restartTriggers : Obligations.RestartTriggers := by
  intro s c cause trigger
  have begun (t : State) (device : t.device = s.device) (journal : t.journal = s.journal) (slots : t.slots = s.slots)
      (reservations : t.reservations = s.reservations) (station : ∀ i, t.station i = s.station i)
      (ends : exec c s = .next (t.doRestart cause (some 0))) :
      ∃ t, exec c s = .next t ∧
        t.restart = some { cause := cause, before := s.device, next := 0, settled := [], corrected := false,
                           faulted := false } ∧
        t.device = s.device ∧ t.cameUp = false ∧ t.receiveQueue = [] ∧ t.linkOverrun = false ∧ t.reply = none ∧
        t.hostCondition = .hunting ∧ t.journal = s.journal ∧ t.slots = s.slots ∧
        t.reservations = s.reservations ∧
        ∀ i, (t.station i).session = (s.station i).session ∧ (t.station i).path = (s.station i).path ∧
          (t.station i).state = (s.station i).state ∧ (t.station i).reader.waiting = [] ∧
          (t.station i).reader.condition = .looking := by
    refine ⟨_, ends, ?_⟩
    have stations (i : StationId) : (t.doRestart cause (some 0)).station i = (s.station i).beginRestart := by
      rw [← station]
      exact t.station_beginRestart cause i
    simp only [stations]
    rw [show t.doRestart cause (some 0) = t.beginRestart cause from rfl, State.beginRestart_eq]
    exact ⟨by rw [← device]; rfl, device, rfl, rfl, rfl, rfl, rfl, journal, slots, reservations,
      fun _ => ⟨rfl, rfl, rfl, rfl, rfl⟩⟩
  rcases trigger with ⟨rfl, pin, idle, rfl, needed⟩ | ⟨rfl, pin, supplied, why⟩
  · exact begun s.resupplied rfl rfl rfl rfl (fun _ => rfl)
      (congrArg Host.Outcome.next (State.supplyReturns_restarts pin idle needed (some 0)))
  · exact begun s.unpinned rfl rfl rfl rfl (fun _ => rfl)
      (congrArg Host.Outcome.next (State.resetDeasserts_restarts pin supplied why (some 0)))

end Sys2Proof.Machine
end

section
/-! The state after reset (R181, R186): every station at its start, nothing held, one record in the journal. -/

namespace Sys2Proof.Machine

@[simp] theorem State.station_reset (i : StationId) : State.reset.station i = .reset := by
  revert i
  decide

/-- No session stands at reset (R181). -/
theorem State.sessions_reset : State.reset.sessions = [] := by decide

theorem State.no_session_reset (i : StationId) (x : Session) : (State.reset.station i).session ≠ some x := by
  rw [State.station_reset]
  exact nofun

/-- Settles O54: no station holds anything, no slot is taken, and the journal holds its first record. -/
theorem resetIsSound : Obligations.ResetIsSound where
  bounded := ⟨fun i => by
    rw [State.station_reset]
    exact ⟨Nat.zero_le _, Nat.zero_le _, nofun⟩, Nat.zero_le _⟩
  notices := by
    have change (n : Notice) : n ∈ State.reset.notices → n.station ≤ 8 ∧ n.station ≠ 0 ∧ n.kind = .stationChange := by
      revert n
      decide
    refine ⟨by decide, fun n pending => ?_⟩
    obtain ⟨room, station, kind⟩ := change n pending
    exact ⟨room, by simp [station, kind, NoticeKind.forDevice]⟩
  slots := rfl
  identities := .nil
  holds := nofun
  boundSlots := fun i x _ present => absurd present (State.no_session_reset i x)
  authorizations := fun i x present => absurd present (State.no_session_reset i x)
  journal := by
    refine ⟨by rw [State.sessions_reset]; rfl, by decide, by decide, nofun⟩
  money := fun i => by
    rw [State.station_reset]
    exact nofun
  counts := fun i x present => absurd present (State.no_session_reset i x)
  jams := fun i => by
    rw [State.station_reset]
    exact ⟨nofun, nofun⟩
  restart := nofun

end Sys2Proof.Machine
end

section
/-! The pieces of a restart, each on its own (R182 to R184): an authorization ended, a path written off, a session
settled. -/

namespace Sys2Proof.Machine

variable {s : State} {i : StationId} {x : Session}

/-! ### Authorizations (R182) -/

/-- The station once a restart has ended its authorization, if it has one. -/
def Station.authorizationEnded (st : Station) : Station :=
  if st.session.any (fun x => decide (x.phase = .authorizing)) then { st with session := none, authTimer := none } else st

theorem Station.authorizationEnded_of_authorizing {st : Station} (present : st.session = some x)
    (phase : x.phase = .authorizing) : st.authorizationEnded = { st with session := none, authTimer := none } :=
  if_pos (by simp [present, phase])

theorem Station.authorizationEnded_of_other {st : Station} (other : ∀ x, st.session = some x → x.phase ≠ .authorizing) :
    st.authorizationEnded = st := by
  refine if_neg ?_
  cases present : st.session with
  | none => simp
  | some x => simpa using other x present

/-- An authorization that a restart ends gives its reservation up (R182, R58). -/
theorem State.restartAuthorization_of_authorizing (present : (s.station i).session = some x)
    (phase : x.phase = .authorizing) : s.restartAuthorization i =
      { s.setStation i (s.station i).authorizationEnded with reservations := s.reservations - 1 } := by
  rw [State.restartAuthorization, present, Station.authorizationEnded_of_authorizing present phase]
  exact if_pos phase

theorem State.restartAuthorization_of_other (other : ∀ x, (s.station i).session = some x → x.phase ≠ .authorizing) :
    s.restartAuthorization i = s := by
  unfold State.restartAuthorization
  split
  · exact if_neg (other _ ‹_›)
  · rfl

/-- What a restart makes of a station's authorization: of the rest of the part only the reservations may change. -/
theorem State.restartAuthorization_eq (s : State) (i : StationId) : s.restartAuthorization i =
    { s.setStation i (s.station i).authorizationEnded with reservations := (s.restartAuthorization i).reservations } := by
  by_cases other : ∀ x, (s.station i).session = some x → x.phase ≠ .authorizing
  · rw [State.restartAuthorization_of_other other, Station.authorizationEnded_of_other other, State.setStation_station]
  · push Not at other
    obtain ⟨x, present, phase⟩ := other
    rw [State.restartAuthorization_of_authorizing present phase]

/-! ### Write-offs (R183) -/

/-- The station out of JAMMED or RECOVER, with its record closed (R29). -/
def Station.jamLeft (st : Station) : Station :=
  if st.state = .jammed ∨ st.state = .recover then { st.leaveService with state := .offline } else st

/-- The station once a restart has written its path off (R121, R183). -/
def Station.pathLost (st : Station) (stamp : Nat) : Station :=
  if st.path = [] then st.jamLeft else (st.jamLeft.jamOpened .restart stamp).handOver.closeJam

/-- The notices once station `i` is out of JAMMED or RECOVER (R26). -/
def Station.jamLeftNotices (st : Station) (i : StationId) (ns : List Notice) : List Notice :=
  if st.state = .jammed ∨ st.state = .recover then insertNotice ⟨changeNotice st.state .offline, i.val + 1⟩ ns else ns

/-- The closing of a record touches it, its purge window and the meters. -/
theorem Station.closeJam_frame (st : Station) : st.closeJam = { st with
    purgeTimer := none, jam := st.closeJam.jam, meters := st.closeJam.meters } := by
  unfold Station.closeJam
  split
  · rfl
  · split <;> rfl

/-- Leaving JAMMED or RECOVER touches the state, the record, the meters and the timers. -/
theorem Station.jamLeft_frame (st : Station) : st.jamLeft = { st with
    state := if st.state = .jammed ∨ st.state = .recover then .offline else st.state
    jam := st.jamLeft.jam, meters := st.jamLeft.meters
    timerA := st.jamLeft.timerA, timerB := st.jamLeft.timerB, purgeTimer := st.jamLeft.purgeTimer } := by
  unfold Station.jamLeft
  split
  · rename_i jam
    rw [Station.leaveService, if_pos jam, st.closeJam_frame]
    rfl
  · rfl

/-- A station outside JAMMED and RECOVER has no record to close. -/
theorem Station.jamLeft_of_working {st : Station} (working : ¬ (st.state = .jammed ∨ st.state = .recover)) :
    st.jamLeft = st := if_neg working

theorem Station.state_jamLeft (st : Station) : ¬ (st.jamLeft.state = .jammed ∨ st.jamLeft.state = .recover) := by
  rw [st.jamLeft_frame]
  dsimp only
  split
  · rintro (h | h) <;> exact nomatch h
  · assumption

/-- The lost meter once a station's OPEN record, if it has one, is closed (R20, R29). -/
def Station.lostClosed (st : Station) : Nat :=
  match st.jam with
  | some r => if r.lost = none then (st.meters.lost + (r.inDoubt - r.purged)) % 100000000 else st.meters.lost
  | none => st.meters.lost

/-- A jam record with its lost count set, as a restart leaves it (R121). -/
def JamRecord.closed (r : JamRecord) : JamRecord := { r with lost := some (r.lost.getD (r.inDoubt - r.purged)) }

/-- A station whose record agrees with its state leaves JAMMED and RECOVER with the record closed (R29). -/
theorem Station.jamLeft_of_jamKept {st : Station} (kept : st.JamKept) :
    st.jamLeft.jam = st.jam.map JamRecord.closed ∧ st.jamLeft.meters.jammed = st.meters.jammed ∧
      st.jamLeft.meters.lost = st.lostClosed := by
  have working (shut : st.jamOpen = false) : st.jamLeft = st :=
    Station.jamLeft_of_working fun jam => by simp [kept.mpr jam] at shut
  cases jam : st.jam with
  | none =>
      rw [working (by simp [Station.jamOpen, jam]), Station.lostClosed, jam]
      exact ⟨rfl, rfl, rfl⟩
  | some r =>
      cases lost : r.lost with
      | none =>
          have state := kept.mp (by simp [Station.jamOpen, jam, lost])
          rw [Station.jamLeft, if_pos state, Station.leaveService_of_jam state jam lost, Station.lostClosed, jam]
          simp [JamRecord.closed, lost]
      | some n =>
          have same : r.closed = r := by
            rw [JamRecord.closed, lost, Option.getD_some, ← lost]
          rw [working (by simp [Station.jamOpen, jam, lost]), Station.lostClosed, jam]
          simp [same, lost]

/-- A write-off leaves the station's identity to the rest of the part: its profile, its lines and its reader. -/
theorem Station.pathLost_frame (st : Station) (stamp : Nat) : st.pathLost stamp = { st with
    state := st.jamLeft.state
    jam := (st.pathLost stamp).jam, jamSerial := (st.pathLost stamp).jamSerial
    meters := (st.pathLost stamp).meters
    timerA := st.jamLeft.timerA, timerB := st.jamLeft.timerB, purgeTimer := (st.pathLost stamp).purgeTimer
    session := (st.pathLost stamp).session
    path := [] } := by
  unfold Station.pathLost
  split
  · rename_i empty
    rw [st.jamLeft_frame]
    simp [empty]
  · rw [Station.closeJam_frame, st.jamLeft_frame]
    rfl

/-- A path that holds sheets goes into a record of cause RESTART, closed at once, and onto the meters (R183, R20). -/
theorem Station.pathLost_of_path {st : Station} (path : st.path ≠ []) (fits : st.path.length ≤ 4294967295)
    (stamp : Nat) : ∃ listed, st.pathLost stamp = st.jamLeft.writtenOff .restart stamp listed := by
  have same : st.jamLeft.path = st.path := by rw [Station.jamLeft_frame]
  obtain ⟨listed, jam⟩ := st.jamLeft.jam_handOver_opened .restart stamp rfl (same ▸ fits)
  refine ⟨listed, ?_⟩
  rw [Station.pathLost, if_neg path, Station.closeJam_of_open jam rfl]
  rfl

theorem Station.pathLost_of_empty {st : Station} (empty : st.path = []) (stamp : Nat) :
    st.pathLost stamp = st.jamLeft := if_pos empty

/-- The write-off changes its own station and may post the change of state (R183, R26). -/
theorem State.writeOff_eq (s : State) (i : StationId) : s.writeOff i =
    s.atStation i ((s.station i).pathLost s.stamp) ((s.station i).jamLeftNotices i s.notices) := by
  have left : (if (s.station i).state = .jammed ∨ (s.station i).state = .recover then s.enterOffline i else s) =
      s.atStation i (s.station i).jamLeft ((s.station i).jamLeftNotices i s.notices) := by
    unfold Station.jamLeft Station.jamLeftNotices
    split
    · have offline := s.enterOffline_atStation i (s.station i) s.notices
      rwa [State.atStation_station] at offline
    · rw [State.atStation_station]
  have path : (s.station i).jamLeft.path = (s.station i).path := by rw [Station.jamLeft_frame]
  simp only [State.writeOff, left, State.station_atStation_self, path, Station.pathLost]
  split
  · rfl
  · simp only [State.openJam_atStation, State.modStation_atStation]

/-! ### Settlements (R184) -/

/-- The account step of a settlement changes the account store alone, and what its tested read posts (R71, R130). -/
theorem State.accountStep_frame (s : State) (x : Session) (cents : Nat) :
    (s.accountStep x cents).1 = { s with
      slots := (s.accountStep x cents).1.slots
      lastCorrected := (s.accountStep x cents).1.lastCorrected
      lastFault := (s.accountStep x cents).1.lastFault
      notices := (s.accountStep x cents).1.notices } := by
  have tested (n : Nat) : (s.testedRead n).1 = { s with
      slots := (s.testedRead n).1.slots
      lastCorrected := (s.testedRead n).1.lastCorrected
      lastFault := (s.testedRead n).1.lastFault
      notices := (s.testedRead n).1.notices } := by
    rcases s.testedRead_cases n with ⟨_, h⟩ | ⟨x, _, ⟨_, h⟩ | ⟨_, _, h⟩ | ⟨_, _, h⟩ | ⟨_, _, h⟩⟩ <;> rw [h] <;> rfl
  have written (t : State) (n : Nat) (a : Account) : t.writeAccount n a =
      { t with slots := (t.writeAccount n a).slots } := by
    unfold State.writeAccount
    split <;> rfl
  unfold State.accountStep
  split
  · split
    · rename_i n _ _ t _ read
      have frame := tested n
      simp only [read] at frame
      rw [written]
      generalize (t.writeAccount n _).slots = slots
      dsimp only
      rw [frame]
    · rename_i n _ _ t _ _ read
      simpa only [read] using tested n
  · rfl

/-- A write of a slot that is not FREE leaves the numbers of the table (R124). -/
theorem map_fst_putSlot {n : Nat} {x y : Slot} : ∀ {l : List (Nat × Slot)}, (l.map Prod.fst).Pairwise (· < ·) →
    getSlot n l = some y → (putSlot n x l).map Prod.fst = l.map Prod.fst
  | (m, z) :: rest, rising, held => by
      by_cases here : m = n
      · subst here
        simp [putSlot]
      · rw [getSlot, if_neg here] at held
        obtain ⟨above, rising⟩ := List.pairwise_cons.mp rising
        have after : m < n := above n (List.mem_map_of_mem (f := Prod.fst) (mem_of_getSlot held))
        rw [putSlot, if_neg (by omega), if_neg (by omega)]
        simp [map_fst_putSlot rising held]

/-- The account step frees no slot and takes none (R71). -/
theorem State.map_fst_accountStep (kept : s.SlotsKept) (x : Session) (cents : Nat) :
    (s.accountStep x cents).1.slots.map Prod.fst = s.slots.map Prod.fst := by
  have rising := (slotsWf_iff.mp kept).1
  have tested (n : Nat) : (s.testedRead n).1.slots.map Prod.fst = s.slots.map Prod.fst := by
    rcases s.testedRead_cases n with ⟨_, h⟩ | ⟨x, held, ⟨_, h⟩ | ⟨_, _, h⟩ | ⟨_, _, h⟩ | ⟨_, _, h⟩⟩
    · exact congrArg (fun p => p.1.slots.map Prod.fst) h
    · exact congrArg (fun p => p.1.slots.map Prod.fst) h
    · exact congrArg (fun p => p.1.slots.map Prod.fst) h
    · exact (congrArg (fun p => p.1.slots.map Prod.fst) h).trans (map_fst_putSlot rising held)
    · exact (congrArg (fun p => p.1.slots.map Prod.fst) h).trans (map_fst_putSlot rising held)
  have written (t : State) (rising : (t.slots.map Prod.fst).Pairwise (· < ·)) (n : Nat) (a : Account) :
      (t.writeAccount n a).slots.map Prod.fst = t.slots.map Prod.fst := by
    unfold State.writeAccount
    split
    · rfl
    · exact map_fst_putSlot rising ‹_›
  unfold State.accountStep
  split
  · split
    · rename_i n _ _ t _ read
      have same : t.slots.map Prod.fst = s.slots.map Prod.fst := by simpa only [read] using tested n
      rw [written t (same ▸ rising), same]
    · rename_i n _ _ t _ _ read
      simpa only [read] using tested n
  · rfl

/-- The SETTLE record of a session (R151), whatever its account step found. -/
def State.settledRecord (s : State) (i : StationId) (x : Session) (reason : CloseReason) (identity : Nat) (parked : Bool) :
    SettleRecord :=
  settleRecord ((s.recordSerial + 1) % 4294967296) s.stamp identity i { x with parked := parked } ((x.charged + 5) / 10)
    reason

/-- What a settlement leaves (R70 to R72): the session gone, CLOSED to the reader, its record in the journal in place of
its reservation, and the account store as the account step leaves it. -/
theorem State.settle_eq (s : State) (i : StationId) (x : Session) (reason : CloseReason) :
    ∃ identity parked notices, s.settle i x reason = { s.setStation i { s.station i with
        session := none, reader := (s.station i).reader.produce (.closed ((x.charged + 5) / 10)) } with
      slots := (s.accountStep x x.chargeCents).1.slots
      lastCorrected := (s.accountStep x x.chargeCents).1.lastCorrected
      lastFault := (s.accountStep x x.chargeCents).1.lastFault
      notices := notices
      recordSerial := (s.recordSerial + 1) % 4294967296
      journal := s.journal ++ [.settle (s.settledRecord i x reason identity parked)]
      reservations := s.reservations - 1 } := by
  have frame := s.accountStep_frame x x.chargeCents
  unfold State.settle
  dsimp only
  generalize s.accountStep x x.chargeCents = step at frame ⊢
  obtain ⟨t, parked⟩ := step
  dsimp only at frame ⊢
  generalize identified : t.identityOf { x with parked := x.parked || parked } = identity
  refine ⟨identity, x.parked || parked, insertNotice ⟨.sessionClosed, i.val + 1⟩ t.notices, ?_⟩
  have written (r : Nat → SettleRecord) : t.writeSettle r =
      (t.journaled (r ((t.recordSerial + 1) % 4294967296))).atStation i (t.station i) t.notices :=
    ((t.journaled (r ((t.recordSerial + 1) % 4294967296))).atStation_station i).symm
  rw [written, State.indicate_atStation, State.postAt_atStation, State.setSession_atStation, frame]
  rfl

end Sys2Proof.Machine
end

section
/-! The order of a restart's pieces (R180), what every piece but the last keeps, and the restart made whole as its last
piece after the others. -/

namespace Sys2Proof.Machine

variable {s u : State} {r : Restart} {p : Piece}

/-! ### The order of the pieces -/

theorem restartPieces_validity : restartPieces[0]? = some .validity := rfl

theorem restartPieces_endAuthorization (i : StationId) : restartPieces[1 + i.val]? = some (.endAuthorization i) := by
  revert i
  decide

theorem restartPieces_notices : restartPieces[26]? = some .notices := rfl

theorem restartPieces_stations : restartPieces[27]? = some .stations := rfl

/-- Before the last piece there is a piece to make, and it is not the last. -/
theorem exists_restartPiece {n : Nat} (early : n < 27) : ∃ p, restartPieces[n]? = some p ∧ p ≠ .stations := by
  have each : ∀ n : Fin 27, restartPieces[n.val]?.any (fun p => decide (p ≠ .stations)) = true := by decide
  obtain ⟨p, piece, other⟩ := Option.any_eq_true _ _ |>.mp (each ⟨n, early⟩)
  exact ⟨p, piece, of_decide_eq_true other⟩

theorem State.restartStep_of_piece (present : s.restart = some r) (piece : restartPieces[r.next]? = some p) :
    s.restartStep = s.makePiece { r with next := r.next + 1 } p := by
  unfold State.restartStep
  simp only [present, piece]

theorem State.restartSteps_add (m n : Nat) (s : State) :
    State.restartSteps (m + n) s = State.restartSteps n (State.restartSteps m s) := by
  induction n with
  | zero => rfl
  | succ n ih => rw [← Nat.add_assoc, State.restartSteps_succ, ih, State.restartSteps_succ]

/-- What each of eight pieces adds to, station by station, holds of all eight. -/
theorem State.restartSteps_stations {Made : Nat → State → Prop}
    (made : ∀ (i : StationId) (u : State), Made i.val u → Made (i.val + 1) u.restartStep) (start : Made 0 s) :
    Made 8 (State.restartSteps 8 s) := by
  have upTo (m : Nat) (few : m ≤ 8) : Made m (State.restartSteps m s) := by
    induction m with
    | zero => exact start
    | succ m ih =>
        rw [State.restartSteps_succ]
        exact made ⟨m, few⟩ _ (ih (by omega))
  exact upTo 8 (Nat.le_refl 8)

/-! ### What every piece but the last keeps -/

/-- A station written in place of one with the same lines changes no line. -/
theorem State.lines_setStation {j : StationId} {st : Station} (same : st.lines = (s.station j).lines) (i : StationId) :
    ((s.setStation j st).station i).lines = (s.station i).lines := by
  rw [State.station_setStation]
  split
  · rename_i here
    rw [same, here]
  · rfl

/-- The notices with which a restart replaces the pending ones (R185). -/
def Restart.notices (r : Restart) : List Notice :=
  let closed := r.settled.foldl (fun ns i => insertNotice ⟨.sessionClosed, i.val + 1⟩ ns) []
  let faulted := if r.faulted then insertNotice ⟨.memoryFault, 0⟩ closed else closed
  if r.corrected then insertNotice ⟨.memoryCorrected, 0⟩ faulted else faulted

theorem State.restartNotices_eq (s : State) (r : Restart) : s.restartNotices r = { s with notices := r.notices } := by
  have closed : ∀ (l : List StationId) (ns : List Notice),
      l.foldl (fun acc i => acc.postAt .sessionClosed i) { s with notices := ns } =
        { s with notices := l.foldl (fun ns i => insertNotice ⟨.sessionClosed, i.val + 1⟩ ns) ns } := by
    intro l
    induction l with
    | nil => exact fun _ => rfl
    | cons i l ih => exact fun ns => ih (insertNotice ⟨.sessionClosed, i.val + 1⟩ ns)
  unfold State.restartNotices Restart.notices
  rw [closed]
  cases r.faulted <;> cases r.corrected <;> rfl

/-- The RESTART record joins the journal where there is room (R156). -/
theorem State.writeRestart_of_room (room : s.journal.length < 512) (cause : RestartCause) (settled : Nat) :
    ∃ notices, s.writeRestart cause settled = { s with
      recordSerial := (s.recordSerial + 1) % 4294967296
      journal := s.journal ++ [.restart
        { serial := (s.recordSerial + 1) % 4294967296, stamp := s.stamp, cause := cause, repeats := 1
          settled := settled }]
      notices := notices } := by
  have kept (t before : State) : ∃ notices, t.journalLowFrom before = { t with notices := notices } := by
    unfold State.journalLowFrom
    split
    · exact ⟨_, rfl⟩
    · exact ⟨t.notices, rfl⟩
  have fits : s.journal.length < Config.journalCapacity := room
  rw [State.writeRestart, if_pos fits]
  obtain ⟨notices, low⟩ := kept _ s
  exact ⟨notices, low⟩

/-- In a full journal the RESTART record is folded into the newest one (R156). -/
theorem State.writeRestart_of_full (full : ¬ s.journal.length < 512) (cause : RestartCause) (settled : Nat) :
    s.writeRestart cause settled = { s with journal := coalesceNewest s.stamp cause settled s.journal } := if_neg full

/-- `t` is a part that every piece of a restart but the last may make of `s`: the lines stand as the restart found them
(R4), as do the interval count, the commands that wait and PFAIL. -/
structure State.PieceKept (s t : State) : Prop where
  lines : ∀ i, (t.station i).lines = (s.station i).lines
  now : t.now = s.now
  pfail : t.pfail = s.pfail
  pending : t.pending = s.pending

/-- Every piece but the last leaves the restart in progress, counted by its record (R180). -/
theorem State.makePiece_frame (other : p ≠ .stations) :
    ∃ (t : State) (q : Restart), s.makePiece r p = { t with restart := some q } ∧ q.next = r.next ∧ s.PieceKept t := by
  cases p with
  | validity =>
      by_cases valid : s.marker = true
      · exact ⟨s, r, if_pos valid, rfl, fun _ => rfl, rfl, rfl, rfl⟩
      · refine ⟨s.loseRetained, _, if_neg valid, rfl, fun i => ?_, ?_, ?_, ?_⟩
        · rw [State.loseRetained, State.station_modStations]
          rfl
        all_goals rw [State.loseRetained, State.modStations_eq]
  | endAuthorization j =>
      refine ⟨_, r, rfl, rfl, ?_⟩
      rw [State.restartAuthorization_eq]
      refine ⟨State.lines_setStation (s := s) ?_, rfl, rfl, rfl⟩
      unfold Station.authorizationEnded
      split <;> rfl
  | writeOff j =>
      refine ⟨_, r, rfl, rfl, ?_⟩
      rw [State.writeOff_eq]
      refine ⟨State.lines_setStation (s := s) ?_, rfl, rfl, rfl⟩
      rw [Station.pathLost_frame]
  | settle j =>
      refine ⟨_, _, rfl, ?_⟩
      unfold State.restartSettle
      split
      · exact ⟨rfl, fun _ => rfl, rfl, rfl, rfl⟩
      · rename_i x _
        obtain ⟨identity, parked, notices, settled⟩ := s.settle_eq j x (restartReason r x)
        refine ⟨rfl, ?_⟩
        rw [settled]
        exact ⟨State.lines_setStation (s := s) rfl, rfl, rfl, rfl⟩
  | record =>
      refine ⟨_, r, rfl, rfl, ?_⟩
      by_cases room : s.journal.length < 512
      · obtain ⟨notices, written⟩ := State.writeRestart_of_room room r.cause r.settled.length
        rw [written]
        exact ⟨fun _ => rfl, rfl, rfl, rfl⟩
      · rw [State.writeRestart_of_full room]
        exact ⟨fun _ => rfl, rfl, rfl, rfl⟩
  | notices =>
      refine ⟨_, r, rfl, rfl, ?_⟩
      rw [State.restartNotices_eq]
      exact ⟨fun _ => rfl, rfl, rfl, rfl⟩
  | stations => exact absurd rfl other

/-- `u` is the part `s` in a restart that has made its first `n` pieces, not yet the last: its line units stand idle with
every level deasserted (R4). -/
structure State.Underway (s : State) (n : Nat) (u : State) : Prop where
  restart : ∃ r, u.restart = some r ∧ r.next = n
  lines : ∀ i, (u.station i).lines = (s.station i).lines.map fun _ v => v.clear
  now : u.now = s.now
  pfail : u.pfail = s.pfail
  pending : u.pending = s.pending

theorem State.underway_beginRestart (s : State) (cause : RestartCause) : s.Underway 0 (s.beginRestart cause) where
  restart := ⟨s.restartRecord cause, by rw [State.beginRestart_eq], rfl⟩
  lines i := by
    rw [State.station_beginRestart]
    rfl
  now := by rw [State.beginRestart_eq]
  pfail := by rw [State.beginRestart_eq]
  pending := by rw [State.beginRestart_eq]

/-- A restart before its last piece goes on to the next one. -/
theorem State.Underway.restartStep {n : Nat} (underway : s.Underway n u) (early : n < 27) :
    s.Underway (n + 1) u.restartStep := by
  obtain ⟨⟨r, present, rfl⟩, lines, now, pfail, pending⟩ := underway
  obtain ⟨p, piece, other⟩ := exists_restartPiece early
  obtain ⟨t, q, made, next, kept⟩ := State.makePiece_frame (s := u) (r := { r with next := r.next + 1 }) other
  rw [State.restartStep_of_piece present piece, made]
  exact ⟨⟨q, rfl, next⟩, fun i => (kept.lines i).trans (lines i), kept.now.trans now, kept.pfail.trans pfail,
    kept.pending.trans pending⟩

theorem State.underway_restartSteps (s : State) (cause : RestartCause) {n : Nat} (early : n ≤ 27) :
    s.Underway n (State.restartSteps n (s.beginRestart cause)) := by
  induction n with
  | zero => exact s.underway_beginRestart cause
  | succ n ih =>
      rw [State.restartSteps_succ]
      exact (ih (by omega)).restartStep early

/-! ### The restart made whole -/

/-- The last piece brings the stations back into service (R186). -/
theorem State.Underway.last (underway : s.Underway 27 u) : u.restartStep = u.restartStations := by
  obtain ⟨r, present, next⟩ := underway.restart
  rw [State.restartStep_of_piece present (p := .stations) (by rw [next, restartPieces_stations]), State.makePiece]

/-- A restart made whole is its last piece, after the 27 before. -/
theorem State.doRestart_whole (s : State) (cause : RestartCause) :
    s.doRestart cause none = (State.restartSteps 27 (s.beginRestart cause)).restartStations := by
  have count : restartPieces.length = 27 + 1 := rfl
  rw [State.doRestart, Option.getD_none, count, State.restartSteps_succ]
  exact (s.underway_restartSteps cause (Nat.le_refl 27)).last

/-- The restart of 28 pieces is the one made whole (log 15). -/
theorem State.doRestart_all (s : State) (cause : RestartCause) :
    s.doRestart cause (some 28) = s.doRestart cause none := by
  have count : restartPieces.length = 28 := rfl
  rw [State.doRestart, State.doRestart, Option.getD_none, count, Option.getD_some]

end Sys2Proof.Machine
end

section
/-! The last piece of a restart (R186): every station OFFLINE, the auto-start stations started, the line units watching
again. A restart's line units stand idle, so a start finds JAM and READY deasserted (R4). -/

namespace Sys2Proof.Machine

variable {s t u : State}

/-! ### The stations -/

/-- A station is started by its profile (R186). -/
def State.autoStart (s : State) (i : StationId) : State :=
  if (s.station i).profile.autoStart then s.startStation i else s

/-- The stations OFFLINE, and those of auto-start started in turn (R186). -/
def State.enterService (s : State) : State := allStations.foldl State.autoStart (allStations.foldl State.restartOffline s)

/-- The device RUNNING, and every line unit watching afresh (R186, R4). -/
def State.watch (s : State) : State :=
  let t : State := { s with device := .running, restart := none, scrubDue := some (s.now + Config.scrubPeriod) }
  t.modStations fun st => { st with lines := st.lines.map (LineState.restart t.now) }

/-- The alarm tested, and JOURNAL-LOW posted where the free count is low (R146, R161). -/
def State.retest (s : State) : State :=
  if s.testAlarm.freeRecords ≤ Config.journalLow then s.testAlarm.post .journalLow 0 else s.testAlarm

/-- The part brought back into service by the last piece of a restart (R186). -/
def State.broughtBack (s : State) : State := s.enterService.watch.retest

/-- The last piece brings the part back, and enters SHUTDOWN at once while PFAIL is recognized (R180). -/
theorem State.restartStations_eq (s : State) : s.restartStations =
    if s.broughtBack.pfail then s.broughtBack.enterShutdown else s.broughtBack := by
  unfold State.broughtBack
  unfold State.restartStations
  extract_lets off begun running watched tested posted
  have entered : s.enterService = begun := rfl
  have watching : begun.watch = watched := rfl
  have alarm : watched.testAlarm = tested := rfl
  have retested : watched.retest = posted := by rw [State.retest, alarm]
  rw [entered, watching, retested]

/-- JAM and READY are recognized deasserted at the station. -/
def Station.Dark (st : Station) : Prop := st.lines.jam.level = false ∧ st.lines.ready.level = false

/-- A station whose line unit has stood idle is dark (R4). -/
theorem Station.dark_of_clear {st : Station} {l : Lines} (clear : st.lines = l.map fun _ v => v.clear) : st.Dark := by
  rw [Station.Dark, clear]
  exact ⟨rfl, rfl⟩

theorem Station.lines_leaveService (st : Station) : st.leaveService.lines = st.lines ∧
    st.leaveService.profile = st.profile := by
  unfold Station.leaveService
  split
  · rw [st.closeJam_frame]
    exact ⟨rfl, rfl⟩
  · exact ⟨rfl, rfl⟩

theorem State.restartOffline_eq (s : State) (i : StationId) : s.restartOffline i =
    s.atStation i { (s.station i).leaveService with state := .offline }
      (insertNotice ⟨.stationChange, i.val + 1⟩ s.notices) := rfl

/-- A dark station is started NOT-READY with no jam (R27). -/
theorem State.startStation_of_dark {i : StationId} (dark : (s.station i).Dark) : s.startStation i =
    s.atStation i { s.station i with
      state := .notReady
      timerA := loadedTimer s.now ((s.station i).duration .a)
      timerB := loadedTimer s.now ((s.station i).duration .b) }
      (insertNotice ⟨.stationChange, i.val + 1⟩ s.notices) := by
  obtain ⟨jam, ready⟩ := dark
  have notice : changeNotice (s.station i).state .notReady = .stationChange := by
    cases (s.station i).state <;> rfl
  have entered := s.enterState_atStation i (s.station i) s.notices .notReady
  rw [State.atStation_station, notice] at entered
  unfold State.startStation
  simp only [jam, ready, Bool.false_eq_true, if_false, entered, State.reloadBoth_atStation]
  refine State.endEvent_of_not_ready ?_ _
  rw [State.station_atStation_self]
  exact nofun

/-- What taking stations out of service and into it makes of the part: the stations, their lines aside, and
STATION-CHANGE postings. -/
structure State.EntersService (s t : State) : Prop where
  rest : t = { s with stations := t.stations, notices := t.notices }
  lines : ∀ i, (t.station i).lines = (s.station i).lines
  kept : ∀ n ∈ s.notices, n ∈ t.notices
  posted : ∀ n ∈ t.notices, n ∈ s.notices ∨ ∃ i : StationId, n = ⟨.stationChange, i.val + 1⟩

namespace State.EntersService

theorem refl (s : State) : s.EntersService s := ⟨rfl, fun _ => rfl, fun _ => id, fun _ => .inl⟩

theorem trans (h : s.EntersService t) (k : t.EntersService u) : s.EntersService u where
  rest := by rw [k.rest, h.rest]
  lines i := (k.lines i).trans (h.lines i)
  kept n pending := k.kept n (h.kept n pending)
  posted n pending := (k.posted n pending).elim (h.posted n) .inr

/-- One station that keeps its lines, with its change posted. -/
theorem atStation (i : StationId) {st : Station} (same : st.lines = (s.station i).lines) :
    s.EntersService (s.atStation i st (insertNotice ⟨.stationChange, i.val + 1⟩ s.notices)) where
  rest := rfl
  lines := State.lines_setStation same
  kept _ pending := mem_insertNotice_of_mem pending
  posted _ pending := (mem_insertNotice pending).elim (fun same => .inr ⟨i, same⟩) .inl

theorem restartOffline (s : State) (i : StationId) : s.EntersService (s.restartOffline i) :=
  atStation i (s.station i).lines_leaveService.1

theorem autoStart {i : StationId} (dark : (s.station i).Dark) : s.EntersService (s.autoStart i) := by
  unfold State.autoStart
  split
  · rw [State.startStation_of_dark dark]
    exact atStation i rfl
  · exact refl s

theorem dark (h : s.EntersService t) (dark : ∀ i, (s.station i).Dark) (i : StationId) : (t.station i).Dark := by
  rw [Station.Dark, h.lines]
  exact dark i

theorem foldl {f : State → StationId → State}
    (one : ∀ (t : State) (i : StationId), (∀ j, (t.station j).Dark) → t.EntersService (f t i)) :
    ∀ (l : List StationId) (s : State), (∀ j, (s.station j).Dark) → s.EntersService (l.foldl f s)
  | [], s, _ => refl s
  | i :: l, s, dark => (one s i dark).trans (foldl one l (f s i) ((one s i dark).dark dark))

theorem fits (h : s.EntersService t) (fits : ∀ n ∈ s.notices, n.Scoped) : ∀ n ∈ t.notices, n.Scoped := by
  intro n pending
  rcases h.posted n pending with before | ⟨i, rfl⟩
  · exact fits n before
  · exact ⟨Nat.succ_le_of_lt i.isLt, by simp [NoticeKind.forDevice]⟩

end State.EntersService

theorem State.entersService_offline (s : State) (l : List StationId) (dark : ∀ i, (s.station i).Dark) :
    s.EntersService (l.foldl State.restartOffline s) :=
  .foldl (fun t i _ => .restartOffline t i) l s dark

theorem State.entersService_started (dark : ∀ i, (s.station i).Dark) :
    (allStations.foldl State.restartOffline s).EntersService s.enterService := by
  rw [State.enterService]
  exact .foldl (fun _ i dark => .autoStart (dark i)) _ _ ((s.entersService_offline allStations dark).dark dark)

theorem State.entersService_enterService (dark : ∀ i, (s.station i).Dark) : s.EntersService s.enterService :=
  (s.entersService_offline allStations dark).trans (State.entersService_started dark)

/-- Each station taken OFFLINE has its change pending (R186). -/
theorem State.stationChange_offline {i : StationId} {l : List StationId} (mem : i ∈ l) (dark : ∀ j, (s.station j).Dark)
    (fits : ∀ n ∈ s.notices, n.Scoped) : ⟨.stationChange, i.val + 1⟩ ∈ (l.foldl State.restartOffline s).notices := by
  induction l generalizing s with
  | nil => exact absurd mem List.not_mem_nil
  | cons j l ih =>
      have one : s.EntersService (s.restartOffline j) := .restartOffline s j
      rw [List.foldl_cons]
      rcases List.mem_cons.mp mem with rfl | later
      · refine ((s.restartOffline i).entersService_offline l (one.dark dark)).kept _ ?_
        rw [State.restartOffline_eq, State.notices_atStation]
        exact mem_insertNotice_self ⟨Nat.succ_le_of_lt i.isLt, by simp [NoticeKind.forDevice]⟩ fits
      · exact ih later (one.dark dark) (one.fits fits)

/-- Each dark station leaves service and enters it again by its auto-start, its idle timers aside (R186). -/
theorem State.station_enterService (dark : ∀ i, (s.station i).Dark) (i : StationId) :
    s.enterService.station i = { (s.station i).leaveService with
      state := if (s.station i).profile.autoStart then .notReady else .offline
      timerA := (s.enterService.station i).timerA
      timerB := (s.enterService.station i).timerB } := by
  obtain ⟨off, same, worked⟩ := State.station_foldl_allStations (f := State.restartOffline)
    (fun _ _ => .trans (.modStation _) (.postAt _ _)) s i
  rw [State.restartOffline_eq, State.station_atStation_self, same] at worked
  obtain ⟨u, before, started⟩ := State.station_foldl_allStations (f := State.autoStart) (fun t j => by
    unfold State.autoStart
    split
    · exact .startStation
    · exact .refl _ _) (allStations.foldl State.restartOffline s) i
  rw [worked] at before
  have here : (u.station i).Dark := by
    rw [before, Station.Dark, (s.station i).lines_leaveService.1]
    exact dark i
  have whole : s.enterService.station i = (u.autoStart i).station i := started
  rw [whole, State.autoStart]
  by_cases auto : (s.station i).profile.autoStart = true
  · rw [if_pos (by rw [before]; exact (congrArg Profile.autoStart (s.station i).lines_leaveService.2).trans auto),
      State.startStation_of_dark here, State.station_atStation_self, before, if_pos auto]
  · rw [if_neg (by rw [before]; exact fun h => auto ((congrArg Profile.autoStart (s.station i).lines_leaveService.2) ▸ h)),
      before, if_neg auto]

/-! ### The device and its tests -/

theorem State.watch_eq (s : State) : s.watch = { s with
    device := .running, restart := none, scrubDue := some (s.now + Config.scrubPeriod), stations := s.watch.stations } := by
  rw [State.watch, State.modStations_eq]

theorem State.station_watch (s : State) (i : StationId) : s.watch.station i =
    { s.station i with lines := (s.station i).lines.map (LineState.restart s.now) } := by
  rw [State.watch, State.station_modStations]
  rfl

/-- The test of the alarm may turn the period, with its notice (R146). -/
theorem State.testAlarm_frame (s : State) : s.testAlarm = { s with
      period := s.testAlarm.period, alarm := s.testAlarm.alarm, notices := s.testAlarm.notices } ∧
    (s.testAlarm.notices = s.notices ∨ s.testAlarm.notices = insertNotice ⟨.periodTurned, 0⟩ s.notices) := by
  unfold State.testAlarm
  split
  · exact ⟨rfl, .inr rfl⟩
  · exact ⟨rfl, .inl rfl⟩

/-- A free count of 32 or below, read from the records and reservations (R160). -/
theorem State.freeRecords_le_iff (s : State) :
    s.freeRecords ≤ Config.journalLow ↔ 480 ≤ s.journal.length + s.reservations := by
  have free : s.freeRecords = 512 - s.journal.length - s.reservations := rfl
  rw [free, Config.journalLow]
  omega

/-- What the tests after a restart make of the part: the period and its alarm, PERIOD-TURNED and JOURNAL-LOW postings. -/
structure State.Retested (s t : State) : Prop where
  rest : t = { s with period := t.period, alarm := t.alarm, notices := t.notices }
  kept : ∀ n ∈ s.notices, n ∈ t.notices
  posted : ∀ n ∈ t.notices, n ∈ s.notices ∨ n = ⟨.periodTurned, 0⟩ ∨
    n = ⟨.journalLow, 0⟩ ∧ 480 ≤ s.journal.length + s.reservations
  low : (∀ n ∈ s.notices, n.Scoped) → 480 ≤ s.journal.length + s.reservations → ⟨.journalLow, 0⟩ ∈ t.notices

theorem State.retested_retest (s : State) : s.Retested s.retest := by
  obtain ⟨frame, notices⟩ := s.testAlarm_frame
  have kept (n : Notice) (pending : n ∈ s.notices) : n ∈ s.testAlarm.notices := by
    rcases notices with same | turned
    · rwa [same]
    · rw [turned]
      exact mem_insertNotice_of_mem pending
  have posted (n : Notice) (pending : n ∈ s.testAlarm.notices) : n ∈ s.notices ∨ n = ⟨.periodTurned, 0⟩ := by
    rcases notices with same | turned
    · exact .inl (same ▸ pending)
    · exact (mem_insertNotice (turned ▸ pending)).symm
  have mark : s.testAlarm.freeRecords ≤ Config.journalLow ↔ 480 ≤ s.journal.length + s.reservations := by
    rw [State.freeRecords_le_iff, frame]
  unfold State.retest
  split
  · rename_i few
    refine ⟨by rw [State.post, frame], fun n pending => mem_insertNotice_of_mem (kept n pending), fun n pending => ?_,
      fun fits _ => mem_insertNotice_self ⟨Nat.zero_le _, by simp [NoticeKind.forDevice]⟩ fun n pending => ?_⟩
    · rcases mem_insertNotice pending with low | before
      · exact .inr (.inr ⟨low, mark.mp few⟩)
      · exact (posted n before).imp_right .inl
    · rcases posted n pending with before | rfl
      · exact fits n before
      · exact ⟨Nat.zero_le _, by simp [NoticeKind.forDevice]⟩
  · rename_i many
    exact ⟨frame, kept, fun n pending => (posted n pending).imp_right .inl, fun _ low => absurd (mark.mpr low) many⟩

/-- What the last piece of a restart makes of the part `s`, before a recognized PFAIL acts (R186). -/
structure State.Back (s t : State) : Prop where
  rest : t = { s with
    device := .running, restart := none, scrubDue := some (s.now + Config.scrubPeriod), stations := t.stations
    period := t.period, alarm := t.alarm, notices := t.notices }
  station : ∀ i, t.station i = { (s.station i).leaveService with
    state := if (s.station i).profile.autoStart then .notReady else .offline
    lines := (s.station i).lines.map (LineState.restart s.now)
    timerA := (t.station i).timerA
    timerB := (t.station i).timerB }
  kept : ∀ n ∈ s.notices, n ∈ t.notices
  posted : ∀ n ∈ t.notices, n ∈ s.notices ∨ (∃ i : StationId, n = ⟨.stationChange, i.val + 1⟩) ∨
    n = ⟨.periodTurned, 0⟩ ∨ n = ⟨.journalLow, 0⟩ ∧ 480 ≤ s.journal.length + s.reservations
  changed : ∀ i : StationId, ⟨.stationChange, i.val + 1⟩ ∈ t.notices
  low : 480 ≤ s.journal.length + s.reservations → ⟨.journalLow, 0⟩ ∈ t.notices

theorem State.back_broughtBack (dark : ∀ i, (s.station i).Dark) (fits : ∀ n ∈ s.notices, n.Scoped) :
    s.Back s.broughtBack := by
  have entered : s.EntersService s.enterService := State.entersService_enterService dark
  have tested : s.enterService.watch.Retested s.broughtBack := s.enterService.watch.retested_retest
  have watched : s.enterService.watch.notices = s.enterService.notices := by rw [State.watch_eq]
  have count : s.enterService.watch.journal.length + s.enterService.watch.reservations =
      s.journal.length + s.reservations := by rw [State.watch_eq, entered.rest]
  have kept (n : Notice) (pending : n ∈ s.enterService.notices) : n ∈ s.broughtBack.notices :=
    tested.kept n (by rwa [watched])
  refine ⟨?_, fun i => ?_, fun n pending => kept n (entered.kept n pending), fun n pending => ?_, fun i => ?_,
    fun low => tested.low (by rw [watched]; exact entered.fits fits) (by rwa [count])⟩
  · rw [tested.rest, State.watch_eq, entered.rest]
  · have same : s.broughtBack.station i = s.enterService.watch.station i := by
      rw [State.station, tested.rest, State.station]
    have now : s.enterService.now = s.now := by rw [entered.rest]
    rw [same, State.station_watch, entered.lines, now, State.station_enterService dark]
  · rcases tested.posted n pending with before | turned | ⟨low, few⟩
    · rw [watched] at before
      exact (entered.posted n before).imp_right .inl
    · exact .inr (.inr (.inl turned))
    · rw [count] at few
      exact .inr (.inr (.inr ⟨low, few⟩))
  · refine kept _ ?_
    exact (State.entersService_started dark).kept _
      (State.stationChange_offline (l := allStations) (by revert i; decide) dark fits)

end Sys2Proof.Machine
end

section
/-! The commands that begin a restart (R179, R171), and a restart made piece by piece (R180; logs 3, 15). -/

namespace Sys2Proof.Machine

variable {s t u : State} {c : Option Nat → Instr} {cause : RestartCause}

/-! ### The triggers -/

/-- The command `c`, with the pieces that it makes, begins a restart of the given cause (R171, R179). -/
def State.Begins (s : State) (c : Option Nat → Instr) (cause : RestartCause) : Prop :=
  (c = .supplyReturn ∧ s.resetPin = false ∧ (s.mainSupply = false ∨ s.device = .shutdown) ∧ cause = .supply) ∨
  (c = .resetPinDeasserted ∧ s.resetPin = true ∧ s.mainSupply = true ∧ s.cameUp = false ∧ cause = .pin) ∨
  (c = .replySent ∧ s.alive = true ∧ (∃ r, s.reply = some r ∧ r.restarts = true) ∧ cause = .command)

/-- `u` is the part `s` as a trigger has it when its restart begins: the supply, the pin and the reply aside, as it was. -/
structure State.Triggered (s u : State) : Prop where
  rest : u = { s with
    mainSupply := u.mainSupply, pfail := u.pfail, resetPin := u.resetPin, cameUp := u.cameUp, reply := u.reply }

/-- A trigger is a restart of the part that it leaves, without PFAIL where the supply returns (R176). -/
theorem State.Begins.exec (begins : s.Begins c cause) (idle : s.restart = none) :
    ∃ u, s.Triggered u ∧ (cause = .supply ∨ s.pfail = false → u.pfail = false) ∧
      ∀ p, exec (c p) s = .next (u.doRestart cause p) := by
  rcases begins with ⟨rfl, pin, needed, rfl⟩ | ⟨rfl, pin, supplied, up, rfl⟩ | ⟨rfl, alive, ⟨r, sending, restarts⟩, rfl⟩
  · exact ⟨s.resupplied, ⟨rfl⟩, fun _ => rfl, fun p => congrArg Host.Outcome.next
      (State.supplyReturns_restarts pin idle (needed.imp_right .inr) p)⟩
  · exact ⟨s.unpinned, ⟨rfl⟩, fun h => h.resolve_left nofun, fun p => congrArg Host.Outcome.next
      (State.resetDeasserts_restarts pin supplied (.inl ⟨up, rfl⟩) p)⟩
  · exact ⟨{ s with reply := none }, ⟨rfl⟩, fun h => h.resolve_left nofun, fun p =>
      (exec_replySent alive sending p).trans (congrArg Host.Outcome.next (if_pos restarts))⟩

/-- Each of the three commands leaves no restart in progress, whatever the pieces, or is a restart. -/
theorem exec_restarts_or_not (idle : s.restart = none)
    (command : c = .supplyReturn ∨ c = .resetPinDeasserted ∨ c = .replySent) :
    (∃ t : State, t.restart = none ∧ ∀ p, exec (c p) s = .next t) ∨
      ∃ (u : State) (cause : RestartCause), u.pending = s.pending ∧ ∀ p, exec (c p) s = .next (u.doRestart cause p) := by
  rcases command with rfl | rfl | rfl
  · by_cases none : s.resetPin = true ∨ ¬ ((s.cameUp || !s.mainSupply) = true ∨ s.device = .shutdown)
    · refine .inl ⟨s.resupplied, idle, fun p => congrArg Host.Outcome.next ?_⟩
      unfold State.supplyReturns
      dsimp only
      rcases none with pin | quiet
      · exact if_pos pin
      · split
        · rfl
        · split
          · rfl
          · rfl
    · obtain ⟨pin, needed⟩ := not_or.mp none
      refine .inr ⟨s.resupplied, .supply, rfl, fun p => congrArg Host.Outcome.next ?_⟩
      refine State.supplyReturns_restarts (Bool.eq_false_iff.mpr pin) idle ?_ p
      rw [not_not, Bool.or_eq_true, Bool.not_eq_true'] at needed
      exact needed.elim (fun h => h.elim (.inr ∘ .inl) .inl) (.inr ∘ .inr)
  · by_cases none : s.resetPin = false ∨ s.mainSupply = false
    · exact .inl ⟨s.unpinned, idle, fun p => congrArg Host.Outcome.next (if_pos none)⟩
    · obtain ⟨pin, supplied⟩ := not_or.mp none
      rw [Bool.not_eq_false] at pin supplied
      cases up : s.cameUp with
      | false =>
          exact .inr ⟨s.unpinned, .pin, rfl, fun p => congrArg Host.Outcome.next
            (State.resetDeasserts_restarts pin supplied (.inl ⟨up, rfl⟩) p)⟩
      | true =>
          cases steady : s.pfail with
          | false =>
              exact .inr ⟨s.unpinned, .supply, rfl, fun p => congrArg Host.Outcome.next
                (State.resetDeasserts_restarts pin supplied (.inr ⟨up, steady, rfl⟩) p)⟩
          | true =>
              refine .inl ⟨s.unpinned, idle, fun p => congrArg Host.Outcome.next ?_⟩
              rw [State.resetDeasserts, if_neg none, if_pos up, if_pos steady]
              rfl
  · cases sending : s.reply with
    | none =>
        refine .inl ⟨s, idle, fun p => congrArg Host.Outcome.next ?_⟩
        rw [State.replyEnds, sending]
    | some r =>
        cases alive : s.alive with
        | false =>
            refine .inl ⟨s, idle, fun p => congrArg Host.Outcome.next ?_⟩
            rw [State.replyEnds, sending]
            exact if_neg (by simp [alive])
        | true =>
            by_cases restarts : r.restarts = true
            · exact .inr ⟨{ s with reply := none }, .command, rfl, fun p =>
                (exec_replySent alive sending p).trans (congrArg Host.Outcome.next (if_pos restarts))⟩
            · exact .inl ⟨{ s with reply := none }, idle, fun p =>
                (exec_replySent alive sending p).trans (congrArg Host.Outcome.next (if_neg restarts))⟩

/-! ### Piece by piece (R180; logs 3, 15) -/

/-- With a restart in progress and no command waiting a step makes its next piece (log 3). -/
theorem step_of_restart (quiet : s.pending = []) (present : s.restart.isSome = true) : step s = .next s.restartStep := by
  unfold step State.idle
  rw [quiet]
  exact if_pos present

/-- A restart is over once its 28 pieces are made. -/
theorem State.restart_restartSteps (s : State) (cause : RestartCause) {n : Nat} (all : 28 ≤ n) :
    (State.restartSteps n (s.beginRestart cause)).restart = none := by
  induction n, all using Nat.le_induction with
  | base =>
      have whole : State.restartSteps 28 (s.beginRestart cause) = _ :=
        (s.doRestart_all cause).trans (s.doRestart_whole cause)
      rw [whole]
      exact State.restart_restartStations _
  | succ n _ ih =>
      rw [State.restartSteps_succ, State.restartStep, ih]
      exact ih

/-- A restart in progress after its first `n` pieces goes on, by a step, as the one made as far as `n + 1`. -/
theorem State.step_doRestart (quiet : s.pending = []) {n : Nat}
    (present : (s.doRestart cause (some n)).restart.isSome = true) :
    step (s.doRestart cause (some n)) = .next (s.doRestart cause (some (n + 1))) := by
  have early : n ≤ 27 := by
    by_contra late
    rw [show s.doRestart cause (some n) = State.restartSteps n (s.beginRestart cause) from rfl,
      s.restart_restartSteps cause (by omega)] at present
    exact nomatch present
  have underway := s.underway_restartSteps cause early
  have next : s.doRestart cause (some (n + 1)) = (State.restartSteps n (s.beginRestart cause)).restartStep :=
    State.restartSteps_succ _ _
  rw [next]
  exact step_of_restart (underway.pending.trans quiet) present

/-- The pieces of a restart follow one another, and the restart of 28 of them is the one made whole. -/
theorem exec_restart_pieces {n : Nat} (quiet : s.pending = []) (idle : s.restart = none)
    (command : c = .supplyReturn ∨ c = .resetPinDeasserted ∨ c = .replySent) :
    exec (c (some 28)) s = exec (c none) s ∧
      (exec (c (some n)) s = .next u → u.restart.isSome = true → step u = exec (c (some (n + 1))) s) := by
  rcases exec_restarts_or_not idle command with ⟨t, none, made⟩ | ⟨t, cause, pending, made⟩
  · simp only [made]
    refine ⟨trivial, fun same present => ?_⟩
    cases same
    rw [none] at present
    exact nomatch present
  · simp only [made]
    refine ⟨congrArg Host.Outcome.next (t.doRestart_all cause), fun same present => ?_⟩
    cases same
    exact State.step_doRestart (pending.trans quiet) present

/-! ### The notices of a restart (R185, R161) -/

/-- Where every entry is within its scope, a posted set holds the entry posted and those it held. -/
theorem mem_insertNotice_iff {m n : Notice} {l : List Notice} (fits : n.Scoped) (within : ∀ k ∈ l, k.Scoped) :
    m ∈ insertNotice n l ↔ m = n ∨ m ∈ l := by
  refine ⟨mem_insertNotice, ?_⟩
  rintro (rfl | before)
  · exact mem_insertNotice_self fits within
  · exact mem_insertNotice_of_mem before

/-- The notices of the sessions that a restart has settled. -/
theorem mem_closedNotices {m : Notice} (l : List StationId) {ns : List Notice} (within : ∀ k ∈ ns, k.Scoped) :
    (∀ k ∈ l.foldl (fun ns i => insertNotice ⟨.sessionClosed, i.val + 1⟩ ns) ns, k.Scoped) ∧
      (m ∈ l.foldl (fun ns i => insertNotice ⟨.sessionClosed, i.val + 1⟩ ns) ns ↔
        m ∈ ns ∨ ∃ i ∈ l, m = ⟨.sessionClosed, i.val + 1⟩) := by
  induction l generalizing ns with
  | nil => exact ⟨within, by simp⟩
  | cons i l ih =>
      have fits : Notice.Scoped ⟨.sessionClosed, i.val + 1⟩ :=
        ⟨Nat.succ_le_of_lt i.isLt, by simp [NoticeKind.forDevice]⟩
      obtain ⟨all, mem⟩ := ih (ns := insertNotice ⟨.sessionClosed, i.val + 1⟩ ns) fun k pending =>
        (mem_insertNotice pending).elim (fun same => same ▸ fits) (within k)
      refine ⟨all, mem.trans ?_⟩
      rw [mem_insertNotice_iff fits within]
      simp only [List.mem_cons, exists_eq_or_imp]
      tauto

/-- The notices of a restart: SESSION-CLOSED for each settled session, and what the settlements found in memory. -/
theorem Restart.mem_notices (r : Restart) (m : Notice) : (∀ k ∈ r.notices, k.Scoped) ∧
    (m ∈ r.notices ↔ (∃ i ∈ r.settled, m = ⟨.sessionClosed, i.val + 1⟩) ∨ (r.faulted = true ∧ m = ⟨.memoryFault, 0⟩) ∨
      r.corrected = true ∧ m = ⟨.memoryCorrected, 0⟩) := by
  obtain ⟨all, closed⟩ := mem_closedNotices (m := m) r.settled (ns := []) nofun
  have fault : Notice.Scoped ⟨.memoryFault, 0⟩ := ⟨Nat.zero_le _, by simp [NoticeKind.forDevice]⟩
  have correction : Notice.Scoped ⟨.memoryCorrected, 0⟩ := ⟨Nat.zero_le _, by simp [NoticeKind.forDevice]⟩
  have posted {n : Notice} (fits : n.Scoped) {l : List Notice} (within : ∀ k ∈ l, k.Scoped) (b : Bool) :
      (∀ k ∈ if b then insertNotice n l else l, k.Scoped) ∧
        (m ∈ (if b then insertNotice n l else l) ↔ m ∈ l ∨ b = true ∧ m = n) := by
    cases b
    · exact ⟨within, by simp⟩
    · refine ⟨fun k pending => (mem_insertNotice pending).elim (fun same => same ▸ fits) (within k), ?_⟩
      rw [if_pos rfl, mem_insertNotice_iff fits within]
      tauto
  obtain ⟨faultedAll, faulted⟩ := posted fault all r.faulted
  obtain ⟨correctedAll, corrected⟩ := posted correction faultedAll r.corrected
  refine ⟨correctedAll, corrected.trans ?_⟩
  rw [faulted, closed]
  simp [or_assoc]

/-- Before the last piece the notices are those of the restart's record (R185). -/
theorem State.notices_restartSteps (s : State) (cause : RestartCause) :
    ∃ r, (State.restartSteps 26 (s.beginRestart cause)).restart = some r ∧
      State.restartSteps 27 (s.beginRestart cause) =
        { State.restartSteps 26 (s.beginRestart cause) with
          notices := r.notices, restart := some { r with next := r.next + 1 } } := by
  obtain ⟨r, present, next⟩ := (s.underway_restartSteps cause (n := 26) (by omega)).restart
  refine ⟨r, present, ?_⟩
  rw [State.restartSteps_succ, State.restartStep_of_piece present (p := .notices) (by rw [next, restartPieces_notices]),
    State.makePiece, State.restartNotices_eq]
  rfl

/-- What the last piece of a restart finds it brings back, before a recognized PFAIL acts. -/
theorem State.back_restartSteps (s : State) (cause : RestartCause) :
    (State.restartSteps 27 (s.beginRestart cause)).Back (State.restartSteps 27 (s.beginRestart cause)).broughtBack := by
  have underway := s.underway_restartSteps cause (Nat.le_refl 27)
  obtain ⟨r, _, posted⟩ := s.notices_restartSteps cause
  refine State.back_broughtBack (fun i => Station.dark_of_clear (underway.lines i)) ?_
  rw [posted]
  exact (r.mem_notices ⟨.powerFail, 0⟩).1

/-- A restart made whole while PFAIL is not recognized brings the part back. -/
theorem State.doRestart_of_steady (s : State) (cause : RestartCause) (steady : s.pfail = false) :
    s.doRestart cause none = (State.restartSteps 27 (s.beginRestart cause)).broughtBack := by
  have still : (State.restartSteps 27 (s.beginRestart cause)).broughtBack.pfail = false := by
    rw [(s.back_restartSteps cause).rest]
    exact (s.underway_restartSteps cause (Nat.le_refl 27)).pfail.trans steady
  rw [s.doRestart_whole, State.restartStations_eq, if_neg (by simp [still])]

theorem State.back_doRestart (s : State) (cause : RestartCause) (steady : s.pfail = false) :
    (State.restartSteps 27 (s.beginRestart cause)).Back (s.doRestart cause none) := by
  rw [s.doRestart_of_steady cause steady]
  exact s.back_restartSteps cause

/-- A restart made whole ends with JOURNAL-LOW pending exactly at a free count of 32 or below (R161). -/
theorem State.journalLow_doRestart (s : State) (cause : RestartCause) (steady : s.pfail = false) :
    ⟨.journalLow, 0⟩ ∈ (s.doRestart cause none).notices ↔
      480 ≤ (s.doRestart cause none).journal.length + (s.doRestart cause none).reservations := by
  have back := s.back_doRestart cause steady
  obtain ⟨r, _, posted⟩ := s.notices_restartSteps cause
  have count : (s.doRestart cause none).journal.length + (s.doRestart cause none).reservations =
      (State.restartSteps 27 (s.beginRestart cause)).journal.length +
        (State.restartSteps 27 (s.beginRestart cause)).reservations := by rw [back.rest]
  rw [count]
  refine ⟨fun pending => ?_, back.low⟩
  rcases back.posted _ pending with before | ⟨i, change⟩ | turned | ⟨_, few⟩
  · rw [posted] at before
    rcases (r.mem_notices _).2.mp before with ⟨i, _, same⟩ | ⟨_, same⟩ | ⟨_, same⟩ <;> exact nomatch same
  · exact nomatch change
  · exact nomatch turned
  · exact few

end Sys2Proof.Machine
end

section
/-! A restart that finds the retained domain lost (R181, R149, R186). -/

namespace Sys2Proof.Machine

variable {s u : State} {r : Restart}

/-! ### A part with nothing to wind down -/

/-- The station has no session and no path, and stands outside JAMMED and RECOVER. -/
structure Station.Idle (st : Station) : Prop where
  session : st.session = none
  path : st.path = []
  working : ¬ (st.state = .jammed ∨ st.state = .recover)

/-- At an idle station the pieces that end, write off and settle change nothing but the count of pieces (R182 to R184). -/
theorem State.makePiece_of_idle {i : StationId} {p : Piece} (idle : (s.station i).Idle)
    (kind : p = .endAuthorization i ∨ p = .writeOff i ∨ p = .settle i) : s.makePiece r p = { s with restart := some r } := by
  obtain ⟨session, path, working⟩ := idle
  rcases kind with rfl | rfl | rfl
  · rw [State.makePiece, State.restartAuthorization_of_other (by simp [session])]
  · rw [State.makePiece, State.writeOff, if_neg working, if_pos path]
  · have none : s.restartSettle r i = (s, r) := by
      unfold State.restartSettle
      rw [session]
    rw [State.makePiece, none]

/-- Eight such pieces, one for each station. -/
theorem State.restartSteps_of_idle {k : Nat} {kind : StationId → Piece} (idle : ∀ i, (s.station i).Idle)
    (order : ∀ i : StationId, restartPieces[k + i.val]? = some (kind i))
    (work : ∀ i, kind i = .endAuthorization i ∨ kind i = .writeOff i ∨ kind i = .settle i)
    (present : s.restart = some { r with next := k }) :
    State.restartSteps 8 s = { s with restart := some { r with next := k + 8 } } := by
  refine State.restartSteps_stations (Made := fun m u => u = { s with restart := some { r with next := k + m } })
    (fun i u made => ?_) ?_
  · subst made
    rw [State.restartStep_of_piece rfl (order i)]
    exact State.makePiece_of_idle (idle i) (work i)
  · show s = { s with restart := some { r with next := k } }
    rw [← present]

/-- A part with nothing to wind down goes from the second piece to the RESTART record with no other change. -/
theorem State.restartSteps_to_record (idle : ∀ i, (s.station i).Idle) (present : s.restart = some { r with next := 1 }) :
    State.restartSteps 24 s = { s with restart := some { r with next := 25 } } := by
  rw [show (24 : Nat) = 8 + 8 + 8 from rfl, State.restartSteps_add, State.restartSteps_add,
    State.restartSteps_of_idle idle restartPieces_endAuthorization (fun _ => .inl rfl) present,
    State.restartSteps_of_idle (s := { s with restart := some { r with next := 9 } }) idle restartPieces_writeOff
      (fun _ => .inr (.inl rfl)) rfl,
    State.restartSteps_of_idle (s := { s with restart := some { r with next := 17 } }) idle restartPieces_settle
      (fun _ => .inr (.inr rfl)) rfl]

/-! ### The last piece where no station starts by itself -/

theorem State.foldl_restartOffline : ∀ (l : List StationId) (s : State), l.foldl State.restartOffline s =
    { s with
      stations := (l.foldl State.restartOffline s).stations
      notices := l.foldl (fun ns i => insertNotice ⟨.stationChange, i.val + 1⟩ ns) s.notices }
  | [], _ => rfl
  | i :: l, s => by
      rw [List.foldl_cons, State.foldl_restartOffline l, State.restartOffline_eq]
      rfl

theorem State.foldl_autoStart_of_manual (manual : ∀ i, (s.station i).profile.autoStart = false) (l : List StationId) :
    l.foldl State.autoStart s = s := by
  induction l with
  | nil => rfl
  | cons i l ih => rwa [List.foldl_cons, State.autoStart, if_neg (by simp [manual])]

/-- With no auto-start, no alarm and a free count above 32 the last piece takes every station OFFLINE and posts
STATION-CHANGE alone. -/
theorem State.broughtBack_of_manual (manual : ∀ i, (s.station i).profile.autoStart = false) (alarm : s.alarm = none)
    (room : s.journal.length + s.reservations < 480) :
    s.broughtBack = { s with
      device := .running, restart := none, scrubDue := some (s.now + Config.scrubPeriod)
      stations := s.broughtBack.stations
      notices := allStations.foldl (fun ns i => insertNotice ⟨.stationChange, i.val + 1⟩ ns) s.notices } ∧
    ∀ i, s.broughtBack.station i = { (s.station i).leaveService with
      state := .offline, lines := (s.broughtBack.station i).lines } := by
  have offline (i : StationId) : (allStations.foldl State.restartOffline s).station i =
      { (s.station i).leaveService with state := .offline } := by
    obtain ⟨u, same, worked⟩ := State.station_foldl_allStations (f := State.restartOffline)
      (fun _ _ => .trans (.modStation _) (.postAt _ _)) s i
    rw [worked, State.restartOffline_eq, State.station_atStation_self, same]
  have entered : s.enterService = allStations.foldl State.restartOffline s :=
    State.foldl_autoStart_of_manual (fun i => by
      rw [offline]
      exact (congrArg Profile.autoStart (s.station i).lines_leaveService.2).trans (manual i)) _
  have untested : s.enterService.watch.testAlarm = s.enterService.watch := State.testAlarm_of_ahead fun a some => by
    rw [State.watch_eq, entered, State.foldl_restartOffline, alarm] at some
    exact nomatch some
  have many : ¬ s.enterService.watch.freeRecords ≤ Config.journalLow := by
    rw [State.freeRecords_le_iff, State.watch_eq, entered, State.foldl_restartOffline]
    exact Nat.not_le.mpr room
  have back : s.broughtBack = s.enterService.watch := by
    rw [State.broughtBack, State.retest, untested, if_neg many]
  refine ⟨?_, fun i => ?_⟩
  · rw [back, State.watch_eq, entered, State.foldl_restartOffline]
  · rw [back, State.station_watch, entered, offline]

/-! ### The restart -/

/-- The part whose restart has found the retained domain lost (R181), with the restart's record as given. -/
def State.retainLost (s : State) (r : Restart) : State :=
  { State.reset with
    pending := s.pending
    now := s.now
    scrubDue := none
    journal := []
    recordSerial := 0
    notices := s.notices
    stations := s.stations.map fun st => st.beginRestart.loseRetained
    restart := some r
    freeCount := s.freeCount }

/-- The record of a restart that found the retained domain lost, after `n` pieces (R181). -/
def lostRestart (n : Nat) : Restart :=
  { cause := .retainLost, before := .running, next := n, settled := [], corrected := false, faulted := false }

theorem State.station_retainLost (s : State) (r : Restart) (i : StationId) :
    (s.retainLost r).station i = (s.station i).beginRestart.loseRetained := by
  simp [State.retainLost, State.station]

/-- The first piece finds the marker invalid (R181). -/
theorem State.restartSteps_of_lost (lost : s.marker = false) (pin : s.resetPin = false) :
    State.restartSteps 1 (s.resupplied.beginRestart .supply) = s.retainLost (lostRestart 1) := by
  show (s.resupplied.beginRestart .supply).restartStep = _
  rw [State.beginRestart_eq, State.restartStep_of_piece rfl restartPieces_validity, State.makePiece, if_neg]
  · simp only [State.loseRetained, State.modStations_eq, Vector.map_map, State.resupplied, pin]
    rfl
  · simp [State.resupplied, lost]

/-- The part whose restart, the retained domain lost, has all but its last piece made: one record in its journal, and
nothing pending. -/
def State.lostWound (s : State) : State :=
  { s.retainLost (lostRestart 27) with recordSerial := 1, journal := State.reset.journal, notices := [] }

/-- After its first piece such a restart finds nothing to wind down: its RESTART record is the first of the journal. -/
theorem State.restartSteps_of_retainLost (lost : s.marker = false) (pin : s.resetPin = false) :
    State.restartSteps 27 (s.resupplied.beginRestart .supply) = s.lostWound := by
  have idle (i : StationId) : ((s.retainLost (lostRestart 1)).station i).Idle := by
    rw [State.station_retainLost]
    exact ⟨rfl, rfl, by rintro (h | h) <;> exact nomatch h⟩
  have wound : State.restartSteps 24 (s.retainLost (lostRestart 1)) = s.retainLost (lostRestart 25) :=
    State.restartSteps_to_record (r := lostRestart 1) idle rfl
  have recorded : ∃ notices, (s.retainLost (lostRestart 25)).restartStep =
      { s.retainLost (lostRestart 26) with
        recordSerial := 1, journal := State.reset.journal, notices := notices } := by
    obtain ⟨notices, written⟩ := State.writeRestart_of_room (s := s.retainLost (lostRestart 25))
      (by decide : ([] : List Record).length < 512) .retainLost 0
    refine ⟨notices, ?_⟩
    rw [State.restartStep_of_piece rfl restartPieces_record, State.makePiece]
    exact congrArg (fun t : State => { t with restart := some (lostRestart 26) }) written
  obtain ⟨notices, recorded⟩ := recorded
  rw [show (27 : Nat) = 1 + 24 + 1 + 1 from rfl, State.restartSteps_succ, State.restartSteps_succ, State.restartSteps_add,
    State.restartSteps_of_lost lost pin, wound, recorded, State.restartStep_of_piece rfl restartPieces_notices,
    State.makePiece, State.restartNotices_eq]
  rfl

/-- Settles O52: the pieces after the first find nothing to wind down, and no station starts by itself. -/
theorem retainedLossResets : Obligations.RetainedLossResets := by
  intro s p lost off pin idle whole
  have run : exec (.supplyReturn p) s = .next s.lostWound.broughtBack := by
    have begins : s.supplyReturns p = s.resupplied.doRestart .supply p :=
      State.supplyReturns_restarts pin idle (.inl off) p
    have back : s.resupplied.doRestart .supply none = s.lostWound.broughtBack := by
      rw [State.doRestart_of_steady _ _ rfl, State.restartSteps_of_retainLost lost pin]
    rcases whole with rfl | rfl
    · exact congrArg Host.Outcome.next (begins.trans back)
    · exact congrArg Host.Outcome.next (begins.trans ((State.doRestart_all _ _).trans back))
  have station (i : StationId) : s.lostWound.station i = (s.station i).beginRestart.loseRetained :=
    s.station_retainLost (lostRestart 27) i
  have changes : allStations.foldl (fun ns i => insertNotice ⟨.stationChange, i.val + 1⟩ ns) [] = State.reset.notices := by
    decide
  obtain ⟨rest, stations⟩ := State.broughtBack_of_manual (s := s.lostWound) (fun i => by rw [station]; rfl) rfl
    (show (1 : Nat) < 480 by decide)
  refine ⟨_, run, ?_, fun i => ?_⟩
  · refine rest.trans ?_
    rw [show s.lostWound.notices = [] from rfl, changes]
    rfl
  · have still : (s.station i).beginRestart.loseRetained.leaveService = (s.station i).beginRestart.loseRetained := by
      rw [Station.leaveService, if_neg (by rintro (h | h) <;> exact nomatch h)]
      rfl
    have here := stations i
    rw [station, still] at here
    generalize s.lostWound.broughtBack.station i = st at here ⊢
    generalize st.lines = lines at here
    subst here
    rfl

end Sys2Proof.Machine
end

section
/-! Nothing that a restart does looks at PFAIL, but the end of its last piece (R180): made with PFAIL recognized or not,
every operation changes the same things. -/

namespace Sys2Proof.Machine

/-- The part with PFAIL recognized as given (R176). -/
def State.withPfail (b : Bool) (s : State) : State := { s with pfail := b }

section PfailBlind

variable {s : State} {b : Bool} {i : StationId}

@[simp] theorem State.withPfail_ite {p : Prop} [Decidable p] (t u : State) :
    (if p then t.withPfail b else u.withPfail b) = (if p then t else u).withPfail b := by split <;> rfl

/-! ### What is read -/

@[simp] theorem State.station_withPfail : (s.withPfail b).station i = s.station i := rfl
@[simp] theorem State.now_withPfail : (s.withPfail b).now = s.now := rfl
@[simp] theorem State.stamp_withPfail : (s.withPfail b).stamp = s.stamp := rfl
@[simp] theorem State.slot_withPfail (n : Nat) : (s.withPfail b).slot n = s.slot n := rfl

/-! ### Stations and notices -/

@[simp] theorem State.modStation_withPfail (f : Station → Station) :
    (s.withPfail b).modStation i f = (s.modStation i f).withPfail b := rfl
@[simp] theorem State.setSession_withPfail (x : Option Session) :
    (s.withPfail b).setSession i x = (s.setSession i x).withPfail b := rfl
@[simp] theorem State.post_withPfail (k : NoticeKind) (n : Nat) :
    (s.withPfail b).post k n = (s.post k n).withPfail b := rfl
@[simp] theorem State.postAt_withPfail (k : NoticeKind) : (s.withPfail b).postAt k i = (s.postAt k i).withPfail b := rfl
@[simp] theorem State.indicate_withPfail (f : Indicator) :
    (s.withPfail b).indicate i f = (s.indicate i f).withPfail b := rfl
@[simp] theorem State.enterState_withPfail (new : StationState) :
    (s.withPfail b).enterState i new = (s.enterState i new).withPfail b := rfl
@[simp] theorem State.enterOffline_withPfail : (s.withPfail b).enterOffline i = (s.enterOffline i).withPfail b := rfl
@[simp] theorem State.reloadBoth_withPfail : (s.withPfail b).reloadBoth i = (s.reloadBoth i).withPfail b := rfl

/-! ### Accounts, the period alarm and the journal -/

@[simp] theorem State.writeAccount_withPfail (n : Nat) (a : Account) :
    (s.withPfail b).writeAccount n a = (s.writeAccount n a).withPfail b := by
  simp only [State.writeAccount, State.slot_withPfail]
  split <;> rfl

@[simp] theorem State.testedRead_withPfail (n : Nat) :
    (s.withPfail b).testedRead n = (s.testedRead n).map (State.withPfail b) id := by
  simp only [State.testedRead, State.slot_withPfail]
  split
  · rfl
  · split
    · rfl
    · split <;> rfl

@[simp] theorem State.accountStep_withPfail (x : Session) (cents : Nat) :
    (s.withPfail b).accountStep x cents = (s.accountStep x cents).map (State.withPfail b) id := by
  simp only [State.accountStep, State.testedRead_withPfail]
  split
  · obtain ⟨t, read⟩ := s.testedRead _
    cases read with
    | content y => exact congrArg (·, false) (State.writeAccount_withPfail (s := t) _ _)
    | _ => rfl
  · rfl

@[simp] theorem State.testAlarm_withPfail : (s.withPfail b).testAlarm = s.testAlarm.withPfail b :=
  State.withPfail_ite (({ s with alarm := none } : State).turnPeriod) s

@[simp] theorem State.journalLowFrom_withPfail (before : State) :
    (s.withPfail b).journalLowFrom (before.withPfail b) = (s.journalLowFrom before).withPfail b :=
  State.withPfail_ite (s.post .journalLow 0) s

@[simp] theorem State.writeRestart_withPfail (cause : RestartCause) (n : Nat) :
    (s.withPfail b).writeRestart cause n = (s.writeRestart cause n).withPfail b := by
  by_cases room : s.journal.length < Config.journalCapacity
  · have fits : (s.withPfail b).journal.length < Config.journalCapacity := room
    rw [State.writeRestart, State.writeRestart, if_pos fits, if_pos room]
    symm
    exact (State.journalLowFrom_withPfail s).symm
  · have full : ¬ (s.withPfail b).journal.length < Config.journalCapacity := room
    rw [State.writeRestart, State.writeRestart, if_neg full, if_neg room]
    rfl

/-! ### Sessions -/

@[simp] theorem State.enterHolding_withPfail (x : Session) :
    (s.withPfail b).enterHolding i x = (s.enterHolding i x).withPfail b := rfl

@[simp] theorem State.liftPause_withPfail (x : Session) (byExtend : Bool) :
    (s.withPfail b).liftPause i x byExtend = (s.liftPause i x byExtend).withPfail b := by
  cases byExtend <;> rfl

@[simp] theorem State.evaluatePause_withPfail (byExtend : Bool) :
    (s.withPfail b).evaluatePause i byExtend = (s.evaluatePause i byExtend).withPfail b := by
  simp only [State.evaluatePause, State.station_withPfail]
  split
  · rfl
  · simp

@[simp] theorem State.endWithoutRecord_withPfail :
    (s.withPfail b).endWithoutRecord i = (s.endWithoutRecord i).withPfail b := rfl

@[simp] theorem State.settle_withPfail (x : Session) (reason : CloseReason) :
    (s.withPfail b).settle i x reason = (s.settle i x reason).withPfail b := by
  simp only [State.settle, State.accountStep_withPfail]
  obtain ⟨t, parked⟩ := s.accountStep x x.chargeCents
  rfl

@[simp] theorem State.settleInService_withPfail (x : Session) (reason : CloseReason) :
    (s.withPfail b).settleInService i x reason = (s.settleInService i x reason).withPfail b := by
  simp [State.settleInService]

@[simp] theorem State.closeRequest_withPfail (reason : CloseReason) :
    (s.withPfail b).closeRequest i reason = (s.closeRequest i reason).withPfail b := by
  simp only [State.closeRequest, State.station_withPfail]
  split
  · rfl
  · simp

@[simp] theorem State.quietTest_withPfail : (s.withPfail b).quietTest i = (s.quietTest i).withPfail b := by
  unfold State.quietTest
  cases present : (s.station i).session <;> simp [present]

@[simp] theorem State.endEvent_withPfail (before : StationState) :
    (s.withPfail b).endEvent i before = (s.endEvent i before).withPfail b := by
  simp [State.endEvent]

@[simp] theorem State.emptyPathReport_withPfail :
    (s.withPfail b).emptyPathReport i = (s.emptyPathReport i).withPfail b := by
  simp only [State.emptyPathReport, State.quietTest_withPfail, State.station_withPfail]
  split
  · rfl
  · split
    · rfl
    · split <;> simp

/-! ### Jams -/

@[simp] theorem State.openJam_withPfail (cause : JamCause) :
    (s.withPfail b).openJam i cause = (s.openJam i cause).withPfail b := rfl

@[simp] theorem State.handOver_withPfail : (s.withPfail b).handOver i = (s.handOver i).withPfail b := by
  simp [State.handOver]

@[simp] theorem State.endRecover_withPfail : (s.withPfail b).endRecover i = (s.endRecover i).withPfail b := rfl

@[simp] theorem State.enterRecover_withPfail : (s.withPfail b).enterRecover i = (s.enterRecover i).withPfail b := by
  simp [State.enterRecover]

@[simp] theorem State.exitTest_withPfail : (s.withPfail b).exitTest i = (s.exitTest i).withPfail b := by
  simp [State.exitTest]

@[simp] theorem State.reportIfEmptied_withPfail (before : List Sheet) :
    (s.withPfail b).reportIfEmptied i before = (s.reportIfEmptied i before).withPfail b := by
  simp [State.reportIfEmptied]

@[simp] theorem State.declareJam_withPfail (cause : JamCause) :
    (s.withPfail b).declareJam i cause = (s.declareJam i cause).withPfail b := by
  simp only [State.declareJam, State.station_withPfail]
  split <;> simp [State.offlineJam, State.foldJam, State.declareNew]

@[simp] theorem State.startStation_withPfail : (s.withPfail b).startStation i = (s.startStation i).withPfail b := by
  simp only [State.startStation, State.station_withPfail, State.enterState_withPfail, State.reloadBoth_withPfail,
    State.declareJam_withPfail, State.withPfail_ite, State.endEvent_withPfail]
  rfl

/-! ### The pieces of a restart (R181 to R186) -/

@[simp] theorem State.restartAuthorization_withPfail :
    (s.withPfail b).restartAuthorization i = (s.restartAuthorization i).withPfail b := by
  simp only [State.restartAuthorization, State.station_withPfail]
  split
  · simp
  · rfl

@[simp] theorem State.writeOff_withPfail : (s.withPfail b).writeOff i = (s.writeOff i).withPfail b := by
  rw [State.writeOff_eq, State.writeOff_eq]
  rfl

@[simp] theorem State.restartSettle_withPfail (r : Restart) :
    (s.withPfail b).restartSettle r i = (s.restartSettle r i).map (State.withPfail b) id := by
  have read (x : Session) : (s.withPfail b).settlementRead x = s.settlementRead x := rfl
  simp only [State.restartSettle, State.station_withPfail, State.settle_withPfail, read]
  split <;> rfl

theorem State.makePiece_withPfail {p : Piece} (other : p ≠ .stations) (r : Restart) :
    (s.withPfail b).makePiece r p = (s.makePiece r p).withPfail b := by
  have noted (t : State) (q : Option Restart) :
      ({ t.withPfail b with restart := q } : State) = ({ t with restart := q } : State).withPfail b := rfl
  cases p with
  | validity =>
      have lost : (s.withPfail b).loseRetained = s.loseRetained.withPfail b := by
        simp only [State.loseRetained, State.modStations_eq]
        rfl
      by_cases valid : s.marker = true
      · have here : (s.withPfail b).marker = true := valid
        rw [State.makePiece, State.makePiece, if_pos here, if_pos valid, noted]
      · have here : ¬ (s.withPfail b).marker = true := valid
        rw [State.makePiece, State.makePiece, if_neg here, if_neg valid, lost, noted]
  | endAuthorization i => simp only [State.makePiece, State.restartAuthorization_withPfail, noted]
  | writeOff i => simp only [State.makePiece, State.writeOff_withPfail, noted]
  | settle i =>
      simp only [State.makePiece, State.restartSettle_withPfail, Prod.map_fst, Prod.map_snd, noted]
      rfl
  | record => simp only [State.makePiece, State.writeRestart_withPfail, noted]
  | notices =>
      simp only [State.makePiece, State.restartNotices_eq]
      rfl
  | stations => exact absurd rfl other

theorem State.beginRestart_withPfail (cause : RestartCause) :
    (s.withPfail b).beginRestart cause = (s.beginRestart cause).withPfail b := by
  rw [State.beginRestart_eq, State.beginRestart_eq]
  rfl

/-- A restart as far as its last piece is the same with PFAIL recognized and without (R180). -/
theorem State.restartSteps_withPfail (cause : RestartCause) {n : Nat} (early : n ≤ 27) :
    State.restartSteps n ((s.withPfail b).beginRestart cause) =
      (State.restartSteps n (s.beginRestart cause)).withPfail b := by
  induction n with
  | zero => exact State.beginRestart_withPfail cause
  | succ n ih =>
      obtain ⟨r, present, rfl⟩ := (s.underway_restartSteps cause (n := n) (by omega)).restart
      obtain ⟨p, piece, other⟩ := exists_restartPiece early
      rw [State.restartSteps_succ, State.restartSteps_succ, ih (by omega),
        State.restartStep_of_piece (s := (State.restartSteps r.next (s.beginRestart cause)).withPfail b) present piece,
        State.restartStep_of_piece present piece, State.makePiece_withPfail other]

/-! ### The last piece (R186) -/

theorem State.foldl_withPfail {f : State → StationId → State}
    (blind : ∀ (s : State) (i : StationId), f (s.withPfail b) i = (f s i).withPfail b) :
    ∀ (l : List StationId) (s : State), l.foldl f (s.withPfail b) = (l.foldl f s).withPfail b
  | [], _ => rfl
  | i :: l, s => by rw [List.foldl_cons, blind, State.foldl_withPfail blind l, List.foldl_cons]

/-- What the last piece brings back is the same with PFAIL recognized and without. -/
theorem State.broughtBack_withPfail (s : State) (b : Bool) :
    (s.withPfail b).broughtBack = s.broughtBack.withPfail b := by
  have started (t : State) (i : StationId) : (t.withPfail b).autoStart i = (t.autoStart i).withPfail b := by
    simp [State.autoStart]
  have entered : (s.withPfail b).enterService = s.enterService.withPfail b := by
    rw [State.enterService, State.foldl_withPfail fun _ _ => rfl, State.foldl_withPfail started, State.enterService]
  have watched (t : State) : (t.withPfail b).watch = t.watch.withPfail b := by
    simp only [State.watch, State.modStations_eq]
    rfl
  have retested (t : State) : (t.withPfail b).retest = t.retest.withPfail b := by
    have free (t : State) : (t.withPfail b).freeRecords = t.freeRecords := rfl
    simp only [State.retest, State.testAlarm_withPfail, free, State.post_withPfail, State.withPfail_ite]
  rw [State.broughtBack, entered, watched, retested, State.broughtBack]

end PfailBlind

end Sys2Proof.Machine
end

section
/-! PFAIL and a restart (R176, R177, R180), and the pieces of a restart as steps (R182 to R184, R156). -/

namespace Sys2Proof.Machine

variable {s u v : State} {r : Restart} {i : StationId} {x : Session}

/-! ### PFAIL and a restart -/

/-- Within a restart PFAIL only waits, and the supply's return undoes it (R180, R176). -/
theorem exec_pfail_in_restart (supplied : s.mainSupply = true) (present : s.restart = some r) (p : Option Nat) :
    exec .pfailAsserted s = .next { s with pfail := true } ∧
      exec (.supplyReturn p) s = .next { s with pfail := false } := by
  have stopped : ¬ s.running = true := by simp [State.running, State.alive, present]
  have same : s.resupplied = { s with pfail := false } := by simp [State.resupplied, supplied]
  refine ⟨congrArg Host.Outcome.next ?_, congrArg Host.Outcome.next ?_⟩
  · rw [State.pfailRises, if_pos supplied]
    exact if_neg stopped
  · rw [← same]
    unfold State.supplyReturns
    dsimp only
    split
    · rfl
    · rw [if_pos (by simp [present])]
      rfl

theorem State.withPfail_of_pfail {b : Bool} (flag : s.pfail = b) : s.withPfail b = s := by
  rw [← flag]
  rfl

theorem State.pfail_withPfail {b : Bool} : (s.withPfail b).pfail = b := rfl

theorem State.pfail_broughtBack (v : State) : v.broughtBack.pfail = v.pfail := by
  have same := v.broughtBack_withPfail v.pfail
  rw [State.withPfail_of_pfail rfl] at same
  exact (congrArg State.pfail same).trans State.pfail_withPfail

/-- A last piece that finds PFAIL recognized is the one without it, followed by the entry into SHUTDOWN (R180). -/
theorem State.restartStations_of_pfail (recognized : v.pfail = true) :
    v.restartStations = ((v.withPfail false).restartStations.withPfail true).enterShutdown := by
  have back : (v.withPfail false).restartStations = v.broughtBack.withPfail false := by
    rw [State.restartStations_eq, v.broughtBack_withPfail false]
    exact if_neg nofun
  have flag := v.pfail_broughtBack.trans recognized
  rw [back, State.restartStations_eq, if_pos flag]
  generalize v.broughtBack = t at flag
  exact congrArg State.enterShutdown (State.withPfail_of_pfail flag).symm

/-- The entry into SHUTDOWN at the end of a restart: beside the device and the notices it touches every station's session,
timers and candidate timings (R177). -/
theorem State.enterShutdown_after (u : State) : ∃ t, (u.withPfail true).enterShutdown = t ∧
    t = { u with
      device := .shutdown, pfail := true, scrubDue := none, stations := t.stations
      notices := insertNotice ⟨.powerFail, 0⟩ u.notices } ∧
    ∀ i, t.station i = { u.station i with
        session := (u.station i).session.map fun x => { x with suspended := true }
        timerA := .stopped, timerB := .stopped, authTimer := none, pauseTimer := none, purgeTimer := none
        lines := (t.station i).lines } ∧
      ∀ m : Line, (t.station i).lines.get m = { (u.station i).lines.get m with timing := none } := by
  refine ⟨_, rfl, ?_, fun i => ?_⟩
  · rw [State.enterShutdown_eq]
    rfl
  · rw [State.station_enterShutdown]
    exact ⟨rfl, fun m => Lines.get_map _ _ m⟩

/-- The restarts that PFAIL may outlast: one that makes its last piece, and one made whole of cause PIN or COMMAND. -/
theorem restart_outlasted {run : State → Host.Outcome State Fault Refusal} (recognized : s.pfail = true)
    (restarts : (run = step ∧ s.pending = [] ∧ ∃ r, s.restart = some r ∧ r.next = 27) ∨
      (run = exec (.resetPinDeasserted none) ∧ s.restart = none ∧ s.resetPin = true ∧ s.mainSupply = true ∧
        s.cameUp = false) ∨
      (run = exec (.replySent none) ∧ s.restart = none ∧ s.alive = true ∧
        ∃ r, s.reply = some r ∧ r.restarts = true)) :
    ∃ v : State, v.pfail = true ∧ run s = .next v.restartStations ∧
      run (s.withPfail false) = .next (v.withPfail false).restartStations := by
  have whole (t : State) (cause : RestartCause) (flag : t.pfail = true) :
      ∃ v : State, v.pfail = true ∧ t.doRestart cause none = v.restartStations ∧
        (t.withPfail false).doRestart cause none = (v.withPfail false).restartStations :=
    ⟨_, (t.underway_restartSteps cause (Nat.le_refl 27)).pfail.trans flag, t.doRestart_whole cause, by
      rw [State.doRestart_whole, State.restartSteps_withPfail cause (Nat.le_refl 27)]⟩
  rcases restarts with ⟨rfl, quiet, r, present, next⟩ | ⟨rfl, _, pin, supplied, up⟩ | ⟨rfl, _, alive, r, sending, restarts⟩
  · have last (t : State) (pending : t.pending = []) (same : t.restart = some r) : step t = .next t.restartStations := by
      rw [step_of_restart pending (by simp [same]),
        State.restartStep_of_piece same (p := .stations) (by rw [next, restartPieces_stations]), State.makePiece]
    exact ⟨s, recognized, last s quiet present, last (s.withPfail false) quiet present⟩
  · obtain ⟨v, flag, here, there⟩ := whole s.unpinned .pin recognized
    refine ⟨v, flag, congrArg Host.Outcome.next ?_, congrArg Host.Outcome.next ?_⟩
    · rw [← here]
      exact State.resetDeasserts_restarts pin supplied (.inl ⟨up, rfl⟩) none
    · rw [← there]
      exact State.resetDeasserts_restarts (s := s.withPfail false) pin supplied (.inl ⟨up, rfl⟩) none
  · obtain ⟨v, flag, here, there⟩ := whole { s with reply := none } .command recognized
    refine ⟨v, flag, ?_, ?_⟩
    · rw [← here, exec_replySent alive sending, if_pos restarts]
    · rw [← there, exec_replySent (s := s.withPfail false) alive sending, if_pos restarts]
      rfl

/-- PFAIL still recognized at the end of a restart brings SHUTDOWN at once, and changes nothing else of what the restart
leaves (R180; log 41). -/
theorem restart_meets_pfail {run : State → Host.Outcome State Fault Refusal} (recognized : s.pfail = true)
    (restarts : (run = step ∧ s.pending = [] ∧ ∃ r, s.restart = some r ∧ r.next = 27) ∨
      (run = exec (.resetPinDeasserted none) ∧ s.restart = none ∧ s.resetPin = true ∧ s.mainSupply = true ∧
        s.cameUp = false) ∨
      (run = exec (.replySent none) ∧ s.restart = none ∧ s.alive = true ∧
        ∃ r, s.reply = some r ∧ r.restarts = true))
    (without : run (s.withPfail false) = .next u) : run s = .next (u.withPfail true).enterShutdown := by
  obtain ⟨v, flag, here, there⟩ := restart_outlasted recognized restarts
  obtain rfl : (v.withPfail false).restartStations = u := Host.Outcome.next.inj (there.symm.trans without)
  rw [here, State.restartStations_of_pfail flag]

/-! ### The pieces as steps -/

/-- The step that makes piece `p` of the restart in progress. -/
theorem step_of_piece {p : Piece} (quiet : s.pending = []) (present : s.restart = some r)
    (piece : restartPieces[r.next]? = some p) : step s = .next (s.makePiece { r with next := r.next + 1 } p) := by
  rw [step_of_restart quiet (by simp [present]), State.restartStep_of_piece present piece]

/-- The close reason of a session that a restart settles (R184): its own, POWER, or RESET. -/
theorem restartReason_eq (r : Restart) (x : Session) : restartReason r x = (match x.phase with
    | .closing reason => reason
    | _ => if r.cause = .supply ∨ r.cause = .retainLost ∨ r.before = .shutdown then .power else .reset) := by
  obtain ⟨cause, before, next, settled, corrected, faulted⟩ := r
  unfold restartReason
  cases x.phase with
  | closing reason => rfl
  | _ => cases cause <;> cases before <;> rfl

theorem step_endAuthorization (quiet : s.pending = []) (present : s.restart = some r) (next : r.next = 1 + i.val)
    (session : (s.station i).session = some x) (phase : x.phase = .authorizing) :
    step s = .next { s.setStation i { s.station i with session := none, authTimer := none } with
      reservations := s.reservations - 1, restart := some { r with next := r.next + 1 } } := by
  rw [step_of_piece quiet present (next ▸ restartPieces_endAuthorization i), State.makePiece,
    State.restartAuthorization_of_authorizing session phase, Station.authorizationEnded_of_authorizing session phase]

theorem step_no_authorization (quiet : s.pending = []) (present : s.restart = some r) (next : r.next = 1 + i.val)
    (session : (s.station i).session = some x) (phase : x.phase ≠ .authorizing) :
    step s = .next { s with restart := some { r with next := r.next + 1 } } := by
  have other (y : Session) (same : (s.station i).session = some y) : y.phase ≠ .authorizing :=
    Option.some.inj (session.symm.trans same) ▸ phase
  rw [step_of_piece quiet present (next ▸ restartPieces_endAuthorization i), State.makePiece,
    State.restartAuthorization_of_other other]

theorem step_writeOff {e : Sheet} {rest : List Sheet} (quiet : s.pending = []) (present : s.restart = some r)
    (next : r.next = 9 + i.val) (path : (s.station i).path = e :: rest) (room : rest.length ≤ 8) :
    ∃ t q, step s = .next t ∧ t.restart = some { r with next := r.next + 1 } ∧ (t.station i).path = [] ∧
      (t.station i).jam = some q ∧ q.cause = .restart ∧ q.stamp = s.stamp ∧ q.inDoubt = rest.length + 1 ∧
      q.purged = 0 ∧ q.lost = some (rest.length + 1) ∧
      q.serial = ((s.station i).jamSerial + 1) % 65536 ∧ t.journal = s.journal ∧ t.slots = s.slots ∧
      t.reservations = s.reservations ∧ ∀ j, j ≠ i → t.station j = s.station j := by
  obtain ⟨holds, count, fits⟩ := path_of_cons path room
  obtain ⟨listed, lost⟩ := Station.pathLost_of_path holds fits s.stamp
  have left : (s.station i).jamLeft.path.length = rest.length + 1 ∧
      (s.station i).jamLeft.jamSerial = (s.station i).jamSerial := by
    rw [Station.jamLeft_frame]
    exact ⟨count, rfl⟩
  obtain ⟨length, serial⟩ := left
  rw [step_of_piece quiet present (next ▸ restartPieces_writeOff i), State.makePiece, State.writeOff_eq, lost]
  have station : (State.station { s.atStation i ((s.station i).jamLeft.writtenOff .restart s.stamp listed)
        ((s.station i).jamLeftNotices i s.notices) with restart := some { r with next := r.next + 1 } } i) =
      (s.station i).jamLeft.writtenOff .restart s.stamp listed := s.station_setStation_self i _
  refine ⟨_, { (s.station i).jamLeft.newRecord .restart s.stamp (s.station i).jamLeft.path.length listed with
      lost := some (s.station i).jamLeft.path.length }, rfl, rfl, ?_, ?_, rfl, rfl, length, rfl, congrArg some length,
    congrArg (fun n => (n + 1) % 65536) serial, rfl, rfl, rfl, fun j other => s.station_setStation_of_ne other _⟩
  · rw [station]
    rfl
  · rw [station]
    rfl

theorem step_settle {ref : Nat} (quiet : s.pending = []) (present : s.restart = some r) (next : r.next = 17 + i.val)
    (session : (s.station i).session = some x) (payment : x.payment = .counter ref) :
    ∃ t q, step s = .next t ∧
      t.restart = some { r with next := r.next + 1, settled := r.settled ++ [i] } ∧
      (t.station i).session = none ∧ t.journal = s.journal ++ [.settle q] ∧
      q.serial = (s.recordSerial + 1) % 4294967296 ∧ q.sessionSerial = x.serial ∧ q.closed = s.stamp ∧
      q.charged = (x.charged + 5) / 10 ∧ q.reason = restartReason r x ∧
      t.reservations = s.reservations - 1 ∧ t.slots = s.slots ∧
      ∀ j, j ≠ i → t.station j = s.station j := by
  have read : s.settlementRead x = none := by rw [State.settlementRead, payment]
  have settled := s.settle_atStation i (s.station i) s.notices payment (restartReason r x)
  rw [State.atStation_station] at settled
  rw [step_of_piece quiet present (next ▸ restartPieces_settle i), State.makePiece]
  have work : s.restartSettle { r with next := r.next + 1 } i = (s.settle i x (restartReason r x),
      { r with next := r.next + 1, settled := r.settled ++ [i] }) := by
    unfold State.restartSettle
    simp only [session, read, reduceCtorEq, decide_false, Bool.or_false]
    rfl
  rw [work, settled]
  exact ⟨_, s.counterRecord i x (restartReason r x), rfl, rfl, congrArg Station.session (s.station_setStation_self i _),
    rfl, rfl, rfl, rfl, rfl, rfl, rfl, rfl, fun j other => s.station_setStation_of_ne other _⟩

theorem step_record (quiet : s.pending = []) (present : s.restart = some r) (next : r.next = 25)
    (room : s.journal.length < 512) :
    ∃ t, step s = .next t ∧ t.restart = some { r with next := r.next + 1 } ∧
      t.journal = s.journal ++ [.restart
        { serial := (s.recordSerial + 1) % 4294967296, stamp := s.stamp, cause := r.cause, repeats := 1
          settled := r.settled.length }] ∧
      t.reservations = s.reservations ∧ t.slots = s.slots ∧ ∀ j, t.station j = s.station j := by
  obtain ⟨notices, written⟩ := State.writeRestart_of_room room r.cause r.settled.length
  rw [step_of_piece quiet present (next ▸ restartPieces_record), State.makePiece, written]
  exact ⟨_, rfl, rfl, rfl, rfl, rfl, fun _ => rfl⟩

end Sys2Proof.Machine
end

section
/-! The passes of a restart over the stations (R182 to R184), each as one change of the part. -/

namespace Sys2Proof.Machine

variable {s t u v : State} {r : Restart} {k m : Nat}

/-! ### The passes that end authorizations and write off paths (R182, R183) -/

/-- `v` is the part `s` once a pass that begins with piece `k` has changed its first `m` stations by `f`. -/
structure State.Swept (s : State) (r : Restart) (k : Nat) (f : Station → Station) (m : Nat) (v : State) : Prop where
  rest : ∃ reservations notices stations, v = { s with
    restart := some { r with next := k + m }, reservations := reservations, notices := notices, stations := stations }
  station : ∀ i, v.station i = if i.val < m then f (s.station i) else s.station i

/-- One station more. -/
theorem State.station_setStation_of_pass {f : Station → Station} {i : StationId}
    (before : ∀ j, v.station j = if j.val < i.val then f (s.station j) else s.station j) (j : StationId) :
    (v.setStation i (f (s.station i))).station j = if j.val < i.val + 1 then f (s.station j) else s.station j := by
  rcases Nat.lt_trichotomy j.val i.val with earlier | here | later
  · rw [State.station_setStation_of_ne v (Fin.ne_of_lt earlier), before, if_pos earlier, if_pos (by omega)]
  · obtain rfl := Fin.ext here
    rw [State.station_setStation_self, if_pos (Nat.lt_succ_self _)]
  · rw [State.station_setStation_of_ne v (Fin.ne_of_gt later), before, if_neg (by omega), if_neg (by omega)]

theorem State.swept_restartSteps {kind : StationId → Piece} {f : Station → Station}
    (order : ∀ i : StationId, restartPieces[k + i.val]? = some (kind i))
    (work : ∀ (v : State) (q : Restart) (i : StationId), v.stamp = s.stamp → ∃ reservations notices,
      v.makePiece q (kind i) = { v.setStation i (f (v.station i)) with
        restart := some q, reservations := reservations, notices := notices })
    (present : s.restart = some { r with next := k }) : s.Swept r k f 8 (State.restartSteps 8 s) := by
  refine State.restartSteps_stations (Made := s.Swept r k f) (fun i v swept => ?_)
    ⟨⟨s.reservations, s.notices, s.stations, ?_⟩, fun i => ?_⟩
  · obtain ⟨⟨reservations, notices, stations, rfl⟩, station⟩ := swept
    obtain ⟨reservations', notices', worked⟩ := work
      { s with
        restart := some { r with next := k + i.val }
        reservations := reservations, notices := notices, stations := stations }
      { r with next := k + i.val + 1 } i rfl
    rw [State.restartStep_of_piece rfl (order i), worked]
    have here := station i
    rw [if_neg (Nat.lt_irrefl _)] at here
    rw [here]
    exact ⟨⟨_, _, _, rfl⟩, State.station_setStation_of_pass station⟩
  · show s = { s with restart := some { r with next := k } }
    rw [← present]
  · rw [if_neg (Nat.not_lt_zero _)]

theorem State.Swept.whole {f : Station → Station} (swept : s.Swept r k f 8 v) (i : StationId) :
    v.station i = f (s.station i) := by
  rw [swept.station, if_pos i.isLt]

/-- The authorizations ended, by pieces 1 to 8. -/
theorem State.swept_authorizations (present : s.restart = some { r with next := 1 }) :
    s.Swept r 1 Station.authorizationEnded 8 (State.restartSteps 8 s) :=
  State.swept_restartSteps restartPieces_endAuthorization (fun v q i _ => ⟨_, v.notices,
    congrArg (fun t : State => { t with restart := some q }) (v.restartAuthorization_eq i)⟩) present

/-- The paths written off, by pieces 9 to 16. -/
theorem State.swept_paths (present : s.restart = some { r with next := 9 }) :
    s.Swept r 9 (fun st => st.pathLost s.stamp) 8 (State.restartSteps 8 s) := by
  refine State.swept_restartSteps restartPieces_writeOff (fun v q i stamp => ⟨v.reservations,
    (v.station i).jamLeftNotices i v.notices, ?_⟩) present
  have wrote := congrArg (fun t : State => { t with restart := some q }) (v.writeOff_eq i)
  rw [stamp] at wrote
  exact wrote

/-! ### The settlements (R184) -/

theorem State.slotsKept_accountStep (kept : s.SlotsKept) (x : Session) (cents : Nat) :
    (s.accountStep x cents).1.SlotsKept := by
  have read (n : Nat) : (s.testedRead n).1.SlotsKept := State.slotsWf_testedRead s n kept
  unfold State.accountStep
  split
  · rename_i n _
    have tested := read n
    split
    · rename_i t _ same
      rw [same] at tested
      exact State.slotsWf_writeAccount t _ _ tested
    · rename_i t _ _ same
      rwa [same] at tested
  · exact kept

/-- `q` is the SETTLE record of a session, with its station, that a restart settles (R184, R151). -/
def Restart.SettlesAs (r : Restart) (stamp : Nat) (p : StationId × Session) (q : Record) : Prop :=
  ∃ serial identity parked, q = .settle (settleRecord serial stamp identity p.1 { p.2 with parked := parked }
    ((p.2.charged + 5) / 10) (restartReason r p.2))

/-- The sessions at the first `m` stations, with their stations in order. -/
def State.sessionsUpTo (s : State) (m : Nat) : List (StationId × Session) :=
  (allStations.take m).filterMap fun i => (s.station i).session.map fun x => (i, x)

theorem take_allStations_succ (i : StationId) : allStations.take (i.val + 1) = allStations.take i.val ++ [i] := by
  revert i
  decide

theorem State.sessionsUpTo_succ_of_none {i : StationId} (absent : (s.station i).session = none) :
    s.sessionsUpTo (i.val + 1) = s.sessionsUpTo i.val := by
  rw [State.sessionsUpTo, take_allStations_succ, List.filterMap_append]
  simp [State.sessionsUpTo, absent]

theorem State.sessionsUpTo_succ_of_some {i : StationId} {x : Session} (present : (s.station i).session = some x) :
    s.sessionsUpTo (i.val + 1) = s.sessionsUpTo i.val ++ [(i, x)] := by
  rw [State.sessionsUpTo, take_allStations_succ, List.filterMap_append]
  simp [State.sessionsUpTo, present]

/-- The records of the settlements: one for each session, in order, their serials following the part's (R150, R155). -/
structure State.Records (s : State) (r : Restart) (sessions : List (StationId × Session)) (records : List Record) :
    Prop where
  each : List.Forall₂ (r.SettlesAs s.stamp) sessions records
  serials : ∀ k q, records[k]? = some q → q.serial = (s.recordSerial + k + 1) % 4294967296

theorem State.Records.append {sessions : List (StationId × Session)} {records : List Record} {p : StationId × Session}
    {q : Record} (made : s.Records r sessions records) (settles : r.SettlesAs s.stamp p q)
    (serial : q.serial = (s.recordSerial + records.length + 1) % 4294967296) :
    s.Records r (sessions ++ [p]) (records ++ [q]) := by
  refine ⟨List.rel_append made.each (.cons settles .nil), fun k q' at_k => ?_⟩
  rcases Nat.lt_trichotomy k records.length with before | rfl | after
  · rw [List.getElem?_append_left before] at at_k
    exact made.serials k q' at_k
  · rw [List.getElem?_concat_length] at at_k
    exact Option.some.inj at_k ▸ serial
  · rw [List.getElem?_eq_none (by simp; omega)] at at_k
    exact nomatch at_k

/-- `v` is the part `s` once the pass of settlements has settled its first `m` stations. -/
structure State.Settling (s : State) (r : Restart) (m : Nat) (records : List Record) (v : State) : Prop where
  rest : ∃ restart slots lastCorrected lastFault journal reservations recordSerial notices stations, v = { s with
    restart := restart, slots := slots, lastCorrected := lastCorrected, lastFault := lastFault, journal := journal
    reservations := reservations, recordSerial := recordSerial, notices := notices, stations := stations }
  journal : v.journal = s.journal ++ records
  restart : ∃ settled corrected faulted,
    v.restart = some { r with next := 17 + m, settled := settled, corrected := corrected, faulted := faulted } ∧
      settled.length = records.length ∧
      ∀ i : StationId, i ∈ settled ↔ i.val < m ∧ (s.station i).session.isSome
  station : ∀ i, ∃ reader, v.station i =
    if i.val < m then { s.station i with session := none, reader := reader } else s.station i
  slots : v.SlotsKept
  numbers : v.slots.map Prod.fst = s.slots.map Prod.fst
  made : s.Records r (s.sessionsUpTo m) records
  next : v.recordSerial % 4294967296 = (s.recordSerial + records.length) % 4294967296
  unwritten : records = [] → v.recordSerial = s.recordSerial

theorem State.restartSettle_of_none {i : StationId} (absent : (s.station i).session = none) (r : Restart) :
    s.restartSettle r i = (s, r) := by
  unfold State.restartSettle
  rw [absent]

theorem State.restartSettle_of_some {i : StationId} {x : Session} (present : (s.station i).session = some x) :
    s.restartSettle r i = (s.settle i x (restartReason r x), { r with
      settled := r.settled ++ [i]
      corrected := r.corrected || decide (s.settlementRead x = some .correctable)
      faulted := r.faulted || decide (s.settlementRead x = some .uncorrectable) }) := by
  unfold State.restartSettle
  rw [present]

/-- The pass goes over a station without a session. -/
theorem State.Settling.of_none {i : StationId} {records : List Record} (settling : s.Settling r i.val records v)
    (absent : (s.station i).session = none) : s.Settling r (i.val + 1) records v.restartStep := by
  obtain ⟨⟨restart, slots, lastCorrected, lastFault, journal, reservations, recordSerial, notices, stations, rfl⟩, written,
    ⟨settled, corrected, faulted, rfl, length, mem⟩, station, kept, numbers, made, next, unwritten⟩ := settling
  obtain ⟨reader, here⟩ := station i
  rw [if_neg (Nat.lt_irrefl _)] at here
  rw [State.restartStep_of_piece rfl (restartPieces_settle i), State.makePiece,
    State.restartSettle_of_none (by rw [here, absent])]
  refine ⟨⟨_, _, _, _, _, _, _, _, _, rfl⟩, written, ⟨settled, corrected, faulted, rfl, length, fun j => ?_⟩, fun j => ?_, kept,
    numbers, ?_, next, unwritten⟩
  · rw [mem]
    by_cases same : j = i
    · simp [same, absent]
    · have : j.val ≠ i.val := fun h => same (Fin.ext h)
      exact and_congr_left' (by omega)
  · by_cases same : j = i
    · subst same
      refine ⟨(s.station j).reader, ?_⟩
      rw [if_pos (Nat.lt_succ_self _), ← absent]
      exact here
    · obtain ⟨reader, there⟩ := station j
      refine ⟨reader, ?_⟩
      have : j.val ≠ i.val := fun h => same (Fin.ext h)
      have still : j.val < i.val + 1 ↔ j.val < i.val := by omega
      simp only [still]
      exact there
  · rwa [State.sessionsUpTo_succ_of_none absent]

/-- The pass settles the session of a station. -/
theorem State.Settling.of_some {i : StationId} {x : Session} {records : List Record}
    (settling : s.Settling r i.val records v) (present : (s.station i).session = some x) :
    ∃ q, s.Settling r (i.val + 1) (records ++ [q]) v.restartStep := by
  obtain ⟨rest, journal, ⟨settled, corrected, faulted, restart, length, mem⟩, station, kept, numbers, made, next, unwritten⟩ :=
    settling
  obtain ⟨_, here⟩ := station i
  rw [if_neg (Nat.lt_irrefl _)] at here
  obtain ⟨identity, parked, notices, settles⟩ := v.settle_eq i x (restartReason r x)
  refine ⟨.settle (v.settledRecord i x (restartReason r x) identity parked), ?_⟩
  have stamp : v.stamp = s.stamp := by
    obtain ⟨_, _, _, _, _, _, _, _, _, rfl⟩ := rest
    rfl
  have work : ∃ corrected' faulted', v.restartStep = { v.settle i x (restartReason r x) with
      restart := some { r with
        next := 17 + (i.val + 1), settled := settled ++ [i], corrected := corrected', faulted := faulted' } } := by
    have made := State.restartStep_of_piece restart (restartPieces_settle i)
    rw [State.makePiece, State.restartSettle_of_some (here ▸ present)] at made
    exact ⟨_, _, made⟩
  obtain ⟨corrected', faulted', work⟩ := work
  rw [work, settles]
  refine ⟨?_, ?_, ⟨settled ++ [i], corrected', faulted', rfl, by simp [length], fun j => ?_⟩, fun j => ?_,
    State.slotsKept_accountStep kept x _, (State.map_fst_accountStep kept x _).trans numbers, ?_, ?_, ?_⟩
  · obtain ⟨_, _, _, _, _, _, _, _, _, rfl⟩ := rest
    exact ⟨_, _, _, _, _, _, _, _, _, rfl⟩
  · rw [← List.append_assoc, ← journal]
  · rw [List.mem_append, mem, List.mem_singleton]
    by_cases same : j = i
    · simp [same, present]
    · have : j.val ≠ i.val := fun h => same (Fin.ext h)
      simp only [same, or_false]
      exact and_congr_left' (by omega)
  · by_cases same : j = i
    · subst same
      refine ⟨(v.station j).reader.produce (.closed ((x.charged + 5) / 10)), ?_⟩
      rw [if_pos (Nat.lt_succ_self _), ← here]
      exact v.station_setStation_self j _
    · obtain ⟨reader, there⟩ := station j
      refine ⟨reader, ?_⟩
      have : j.val ≠ i.val := fun h => same (Fin.ext h)
      have still : j.val < i.val + 1 ↔ j.val < i.val := by omega
      simp only [still, ← there]
      exact v.station_setStation_of_ne same _
  · rw [State.sessionsUpTo_succ_of_some present]
    refine made.append ⟨(v.recordSerial + 1) % 4294967296, identity, parked, ?_⟩ ?_
    · rw [State.settledRecord, stamp]
    · show (v.recordSerial + 1) % 4294967296 = _
      omega
  · rw [List.length_append, List.length_singleton]
    show (v.recordSerial + 1) % 4294967296 % 4294967296 = _
    omega
  · exact fun nothing => absurd nothing (by simp)

/-- The sessions settled, by pieces 17 to 24. -/
theorem State.settling_restartSteps (kept : s.SlotsKept) (present : s.restart = some { r with next := 17 })
    (fresh : r.settled = []) : ∃ records, s.Settling r 8 records (State.restartSteps 8 s) := by
  refine State.restartSteps_stations (Made := fun m v => ∃ records, s.Settling r m records v) ?_ ⟨[], ?_⟩
  · rintro i v ⟨records, settling⟩
    cases session : (s.station i).session with
    | none => exact ⟨records, settling.of_none session⟩
    | some x =>
        obtain ⟨q, one⟩ := settling.of_some session
        exact ⟨_, one⟩
  · refine ⟨⟨_, _, _, _, _, _, _, _, _, rfl⟩, by rw [List.append_nil], ⟨[], r.corrected, r.faulted, ?_, rfl, by simp⟩,
      fun i => ⟨(s.station i).reader, rfl⟩, kept, rfl, ⟨.nil, nofun⟩, rfl, fun _ => rfl⟩
    rw [present, ← fresh]

end Sys2Proof.Machine
end

section
/-! The 27 pieces before the last, for a part whose retained domain is whole (R181 to R185). -/

namespace Sys2Proof.Machine

variable {s t u v c d : State} {r : Restart} {cause : RestartCause} {records : List Record}

/-! ### Authorizations and paths -/

/-- A station whose authorization is ended keeps any other session. -/
theorem Station.authorizationEnded_eq (st : Station) : st.authorizationEnded = { st with
    session := st.session.filter fun x => decide (x.phase ≠ .authorizing)
    authTimer := st.authorizationEnded.authTimer } := by
  cases session : st.session with
  | none =>
      rw [Station.authorizationEnded_of_other (by simp [session]), Option.filter_none, ← session]
  | some x =>
      by_cases phase : x.phase = .authorizing
      · rw [Station.authorizationEnded_of_authorizing session phase]
        have dropped : (some x).filter (fun x => decide (x.phase ≠ .authorizing)) = none := by simp [phase]
        rw [dropped]
      · rw [Station.authorizationEnded_of_other (by simp [session, phase])]
        have kept : (some x).filter (fun x => decide (x.phase ≠ .authorizing)) = some x := by simp [phase]
        rw [kept, ← session]

/-- The station once a restart has ended its authorization and written its path off (R180, R182, R183). -/
def Station.woundUp (st : Station) (stamp : Nat) : Station := st.beginRestart.authorizationEnded.pathLost stamp

/-- The session that a restart finds at the station to settle (R184). -/
def Station.toSettle (st : Station) : Option Session :=
  (st.session.filter fun x => decide (x.phase ≠ .authorizing)).map fun x =>
    if st.path = [] then x else x.handedOver st.path

theorem Station.session_woundUp {st : Station} (fits : st.path.length ≤ 4294967295) (stamp : Nat) :
    (st.woundUp stamp).session = st.toSettle := by
  have ended := st.beginRestart.authorizationEnded_eq
  have path : st.beginRestart.authorizationEnded.path = st.path := by rw [ended]; rfl
  have session : st.beginRestart.authorizationEnded.session =
      st.session.filter fun x => decide (x.phase ≠ .authorizing) := by rw [ended]; rfl
  rw [Station.woundUp, Station.toSettle, ← session, ← path]
  rw [← path] at fits
  generalize st.beginRestart.authorizationEnded = a at fits ⊢
  by_cases empty : a.path = []
  · rw [Station.pathLost_of_empty empty, a.jamLeft_frame]
    simp [empty]
  · obtain ⟨listed, lost⟩ := Station.pathLost_of_path empty fits stamp
    have left : a.jamLeft.session = a.session ∧ a.jamLeft.path = a.path := by
      rw [a.jamLeft_frame]
      exact ⟨rfl, rfl⟩
    rw [lost]
    simp only [if_neg empty]
    show a.jamLeft.session.map (fun x => x.handedOver a.jamLeft.path) = _
    rw [left.1, left.2]

/-- The first piece finds the marker valid (R181). -/
theorem State.restartStep_of_marker (valid : s.marker = true) : (s.beginRestart cause).restartStep =
    { s.beginRestart cause with restart := some { s.restartRecord cause with next := 1 } } := by
  rw [State.restartStep_of_piece (r := s.restartRecord cause) (by rw [State.beginRestart_eq]) restartPieces_validity,
    State.makePiece, if_pos (by rw [State.beginRestart_eq]; exact valid)]
  rfl

/-- `c` is the part `s` in a restart that has only its sessions left to settle: of the retained items that the
settlements use none has changed. -/
structure State.WoundUp (s : State) (cause : RestartCause) (c : State) : Prop where
  restart : c.restart = some { s.restartRecord cause with next := 17 }
  slots : c.slots = s.slots
  journal : c.journal = s.journal
  stamp : c.stamp = s.stamp
  serial : c.recordSerial = s.recordSerial
  station : ∀ i, c.station i = (s.station i).woundUp s.stamp

theorem State.Swept.keeps {k m : Nat} {f : Station → Station} (swept : s.Swept r k f m v) :
    v.restart = some { r with next := k + m } ∧ v.slots = s.slots ∧ v.journal = s.journal ∧ v.stamp = s.stamp ∧
      v.recordSerial = s.recordSerial := by
  obtain ⟨⟨_, _, _, rfl⟩, _⟩ := swept
  exact ⟨rfl, rfl, rfl, rfl, rfl⟩

/-- The pieces up to the settlements. -/
theorem State.woundUp_restartSteps (valid : s.marker = true) :
    s.WoundUp cause (State.restartSteps 17 (s.beginRestart cause)) := by
  have begun : (s.beginRestart cause).slots = s.slots ∧ (s.beginRestart cause).journal = s.journal ∧
      (s.beginRestart cause).stamp = s.stamp ∧ (s.beginRestart cause).recordSerial = s.recordSerial := by
    rw [State.beginRestart_eq]
    exact ⟨rfl, rfl, rfl, rfl⟩
  have first : State.restartSteps 1 (s.beginRestart cause) = _ := State.restartStep_of_marker valid
  rw [show (17 : Nat) = 1 + 8 + 8 from rfl, State.restartSteps_add, State.restartSteps_add, first]
  have begins (i : StationId) := s.station_beginRestart cause i
  generalize s.beginRestart cause = a at begun begins
  have ended := State.swept_authorizations (r := s.restartRecord cause)
    (s := { a with restart := some { s.restartRecord cause with next := 1 } }) rfl
  generalize State.restartSteps 8 { a with restart := some { s.restartRecord cause with next := 1 } } = b at ended
  obtain ⟨here, slots, journal, stamp, serial⟩ := ended.keeps
  have lost := State.swept_paths here
  obtain ⟨there, slots', journal', stamp', serial'⟩ := lost.keeps
  refine ⟨there, ?_, ?_, ?_, ?_, fun i => ?_⟩
  · rw [slots', slots, begun.1]
  · rw [journal', journal, begun.2.1]
  · rw [stamp', stamp, begun.2.2.1]
  · rw [serial', serial, begun.2.2.2]
  · rw [lost.whole, ended.whole, stamp, Station.woundUp, ← begins i, begun.2.2.1]
    rfl

/-! ### Settlements, the RESTART record, the notices -/

/-- The sessions that a restart of the part settles, with their stations in order. -/
def State.sessionsToSettle (s : State) : List (StationId × Session) :=
  allStations.filterMap fun i => (s.station i).toSettle.map fun x => (i, x)

/-- `t` is the part `s` in a restart with its last piece left: every session settled, by the records given. -/
structure State.Wound (s : State) (cause : RestartCause) (records : List Record) (t : State) : Prop where
  station : ∀ i, ∃ reader, t.station i = { (s.station i).woundUp s.stamp with session := none, reader := reader }
  numbers : t.slots.map Prod.fst = s.slots.map Prod.fst
  made : s.Records (s.restartRecord cause) s.sessionsToSettle records
  room : s.journal.length + records.length < 512 → t.journal = s.journal ++ records ++ [.restart
    { serial := (s.recordSerial + records.length + 1) % 4294967296, stamp := s.stamp, cause := cause, repeats := 1
      settled := records.length }]
  full : s.journal.length = 512 → records = [] →
    t.journal = coalesceNewest s.stamp cause 0 s.journal ∧ t.recordSerial = s.recordSerial
  closed : ∀ i : StationId, ⟨.sessionClosed, i.val + 1⟩ ∈ t.notices ↔ (s.station i).toSettle.isSome

theorem State.Settling.stamp {m : Nat} (settling : s.Settling r m records v) : v.stamp = s.stamp := by
  obtain ⟨_, _, _, _, _, _, _, _, _, rfl⟩ := settling.rest
  rfl

/-- The RESTART record changes the journal, its serial and the notices (R156). -/
theorem State.writeRestart_frame (s : State) (cause : RestartCause) (settled : Nat) :
    (∀ i, (s.writeRestart cause settled).station i = s.station i) ∧ (s.writeRestart cause settled).slots = s.slots ∧
      (s.journal.length < 512 → (s.writeRestart cause settled).journal = s.journal ++ [.restart
        { serial := (s.recordSerial + 1) % 4294967296, stamp := s.stamp, cause := cause, repeats := 1
          settled := settled }]) ∧
      (s.journal.length = 512 → (s.writeRestart cause settled).journal = coalesceNewest s.stamp cause settled s.journal ∧
        (s.writeRestart cause settled).recordSerial = s.recordSerial) := by
  by_cases room : s.journal.length < 512
  · obtain ⟨notices, written⟩ := State.writeRestart_of_room room cause settled
    rw [written]
    exact ⟨fun _ => rfl, rfl, fun _ => rfl, fun full => absurd room (by omega)⟩
  · rw [State.writeRestart_of_full room]
    exact ⟨fun _ => rfl, rfl, fun less => absurd less room, fun _ => ⟨rfl, rfl⟩⟩

/-- The pieces up to the last one (R181 to R185). -/
theorem State.wound_restartSteps (valid : s.marker = true) (slots : s.SlotsKept)
    (fits : ∀ i, (s.station i).path.length ≤ 4294967295) (cause : RestartCause) :
    ∃ records, s.Wound cause records (State.restartSteps 27 (s.beginRestart cause)) := by
  have up : s.WoundUp cause (State.restartSteps 17 (s.beginRestart cause)) := State.woundUp_restartSteps valid
  have present : ∀ n, State.restartSteps (17 + n) (s.beginRestart cause) =
      State.restartSteps n (State.restartSteps 17 (s.beginRestart cause)) := fun n => State.restartSteps_add 17 n _
  rw [show (27 : Nat) = 17 + 8 + 1 + 1 from rfl, State.restartSteps_succ, State.restartSteps_succ, present]
  generalize State.restartSteps 17 (s.beginRestart cause) = c at up
  obtain ⟨records, settling⟩ := State.settling_restartSteps (s := c) (r := s.restartRecord cause)
    (by rw [State.SlotsKept, up.slots]; exact slots) up.restart rfl
  generalize State.restartSteps 8 c = d at settling
  refine ⟨records, ?_⟩
  obtain ⟨settled, corrected, faulted, restart, length, mem⟩ := settling.restart
  have session (i : StationId) : (c.station i).session = (s.station i).toSettle := by
    rw [up.station, Station.session_woundUp (fits i)]
  have sessions : c.sessionsUpTo 8 = s.sessionsToSettle := by
    have each : ∀ l : List StationId, (l.filterMap fun i => (c.station i).session.map fun x => (i, x)) =
        l.filterMap fun i => (s.station i).toSettle.map fun x => (i, x) := fun l => by simp only [session]
    exact each allStations
  obtain ⟨stations, slotsKept, room, full⟩ := d.writeRestart_frame cause settled.length
  have made : s.Records (s.restartRecord cause) s.sessionsToSettle records := by
    obtain ⟨each, serials⟩ := settling.made
    rw [sessions, up.stamp] at each
    rw [up.serial] at serials
    exact ⟨each, serials⟩
  have journal : d.journal = s.journal ++ records := by rw [settling.journal, up.journal]
  have stamp : d.stamp = s.stamp := settling.stamp.trans up.stamp
  have next := settling.next
  rw [up.serial] at next
  have recorded : d.restartStep = { d.writeRestart cause settled.length with
      restart := some { s.restartRecord cause with
        next := 26, settled := settled, corrected := corrected, faulted := faulted } } :=
    State.restartStep_of_piece restart restartPieces_record
  rw [recorded]
  generalize d.writeRestart cause settled.length = e at stations slotsKept room full
  rw [State.restartStep_of_piece rfl restartPieces_notices, State.makePiece, State.restartNotices_eq]
  refine ⟨fun i => ?_, ?_, made, fun less => ?_, fun whole none => ?_, fun i => ?_⟩
  · obtain ⟨reader, here⟩ := settling.station i
    rw [if_pos i.isLt, up.station] at here
    exact ⟨reader, (stations i).trans here⟩
  · exact (congrArg _ slotsKept).trans (settling.numbers.trans (congrArg _ up.slots))
  · have fewer : d.journal.length < 512 := by rw [journal, List.length_append]; exact less
    have wrote := room fewer
    rw [journal, stamp, length] at wrote
    have serial : (d.recordSerial + 1) % 4294967296 = (s.recordSerial + records.length + 1) % 4294967296 := by omega
    rw [serial] at wrote
    exact wrote
  · subst none
    rw [List.append_nil] at journal
    obtain ⟨wrote, serial⟩ := full (by rw [journal]; exact whole)
    rw [journal, stamp, length] at wrote
    exact ⟨wrote, serial.trans ((settling.unwritten rfl).trans up.serial)⟩
  · have closed := (Restart.mem_notices { s.restartRecord cause with
      next := 27, settled := settled, corrected := corrected, faulted := faulted } ⟨.sessionClosed, i.val + 1⟩).2
    refine closed.trans ?_
    rw [← session]
    constructor
    · rintro (⟨j, settledHere, same⟩ | ⟨_, same⟩ | ⟨_, same⟩)
      · have : i = j := Fin.ext (by simpa using same)
        exact this ▸ ((mem j).mp settledHere).2
      · exact nomatch same
      · exact nomatch same
    · exact fun some => .inl ⟨i, (mem i).mpr ⟨i.isLt, some⟩, rfl⟩

end Sys2Proof.Machine
end

section
/-! A restart made whole (R180 to R186): what it leaves at each station, and the records of the sessions it settles. -/

namespace Sys2Proof.Machine

variable {s t u v : State} {st : Station} {r : Restart} {cause : RestartCause} {records : List Record} {i : StationId}

/-! ### A station wound up -/

/-- A station wound up has an empty path, no OPEN record and its profile (R183). -/
theorem Station.woundUp_frame (st : Station) (stamp : Nat) : (st.woundUp stamp).path = [] ∧
    (st.woundUp stamp).profile = st.profile ∧
    ¬ ((st.woundUp stamp).state = .jammed ∨ (st.woundUp stamp).state = .recover) := by
  have ended := st.beginRestart.authorizationEnded_eq
  have profile : st.beginRestart.authorizationEnded.profile = st.profile := by rw [ended]; rfl
  rw [Station.woundUp, Station.pathLost_frame]
  exact ⟨rfl, profile, Station.state_jamLeft _⟩

/-- The record and the meters of a station wound up whose path was empty: its record is closed (R29). -/
theorem Station.woundUp_of_empty (kept : st.JamKept) (empty : st.path = []) (stamp : Nat) :
    (st.woundUp stamp).jam = st.jam.map JamRecord.closed ∧ (st.woundUp stamp).meters.jammed = st.meters.jammed ∧
      (st.woundUp stamp).meters.lost = st.lostClosed := by
  have ended := st.beginRestart.authorizationEnded_eq
  rw [Station.woundUp, Station.pathLost_of_empty (by rw [ended]; exact empty), ended]
  exact Station.jamLeft_of_jamKept (st := { st.beginRestart with session := _, authTimer := _ }) kept

/-- The record and the meters of a station wound up whose path held sheets: they are written off (R183, R20). -/
theorem Station.woundUp_of_path (kept : st.JamKept) (path : st.path ≠ []) (fits : st.path.length ≤ 4294967295)
    (stamp : Nat) :
    (∃ q, (st.woundUp stamp).jam = some q ∧ q.cause = .restart ∧ q.stamp = stamp ∧ q.inDoubt = st.path.length ∧
      q.purged = 0 ∧ q.lost = some st.path.length) ∧
      (st.woundUp stamp).meters.jammed = (st.meters.jammed + st.path.length) % 100000000 ∧
      (st.woundUp stamp).meters.lost = (st.lostClosed + st.path.length) % 100000000 := by
  have ended := st.beginRestart.authorizationEnded_eq
  have same : st.beginRestart.authorizationEnded.path = st.path := by rw [ended]; rfl
  have left : st.beginRestart.authorizationEnded.jamLeft.meters.jammed = st.meters.jammed ∧
      st.beginRestart.authorizationEnded.jamLeft.meters.lost = st.lostClosed := by
    rw [ended]
    exact (Station.jamLeft_of_jamKept (st := { st.beginRestart with session := _, authTimer := _ }) kept).2
  have length : st.beginRestart.authorizationEnded.jamLeft.path.length = st.path.length := by
    rw [Station.jamLeft_frame, same]
  obtain ⟨listed, lost⟩ := Station.pathLost_of_path (same ▸ path) (same ▸ fits) stamp
  rw [Station.woundUp, lost]
  generalize st.beginRestart.authorizationEnded.jamLeft = a at left length
  refine ⟨⟨_, rfl, rfl, rfl, length, rfl, congrArg some length⟩, ?_, ?_⟩
  · rw [← left.1, ← length]
    rfl
  · rw [← left.2, ← length]
    rfl

/-! ### The last piece at a station wound up -/

/-- A line that starts afresh after a restart (R4). -/
theorem LineState.restart_clear (now : Nat) (m : Line) (l : LineState) : LineState.restart now m l.clear =
    { raw := l.raw, level := false, timing := if l.raw then some ⟨now, decide (m = .feed ∨ m = .deliver)⟩ else none } := by
  have counted : lineCounted m = decide (m = .feed ∨ m = .deliver) := by cases m <;> rfl
  rw [LineState.restart, counted]
  rfl

/-- What a restart made whole leaves at a station that it has wound up (R186). -/
theorem State.Back.station_woundUp (back : v.Back t) (wound : s.Wound cause records v)
    (lines : (v.station i).lines = (s.station i).lines.map fun _ l => l.clear) (now : v.now = s.now) :
    (t.station i).session = none ∧ (t.station i).path = [] ∧ (t.station i).profile = (s.station i).profile ∧
      (t.station i).state = (if (s.station i).profile.autoStart then .notReady else .offline) ∧
      (t.station i).jam = ((s.station i).woundUp s.stamp).jam ∧
      (t.station i).meters = ((s.station i).woundUp s.stamp).meters ∧
      ∀ m : Line, (t.station i).lines.get m =
        { raw := ((s.station i).lines.get m).raw, level := false
          timing := if ((s.station i).lines.get m).raw then
              some ⟨s.now, decide (m = .feed ∨ m = .deliver)⟩ else none } := by
  obtain ⟨path, profile, working⟩ := (s.station i).woundUp_frame s.stamp
  obtain ⟨reader, here⟩ := wound.station i
  have after := back.station i
  have leaves : (v.station i).leaveService = (v.station i).stopIdle := by
    rw [Station.leaveService, if_neg]
    rw [here]
    exact working
  rw [leaves, lines, now, here] at after
  generalize (s.station i).woundUp s.stamp = w at path profile working after ⊢
  rw [after]
  refine ⟨rfl, path, profile, by rw [← profile], rfl, rfl, fun m => ?_⟩
  simp only [Lines.get_map]
  exact LineState.restart_clear _ _ _

/-! ### The records of the sessions settled -/

theorem State.mem_sessions {p : StationId × Session} : p ∈ s.sessions ↔ (s.station p.1).session = some p.2 := by
  obtain ⟨i, x⟩ := p
  have all (j : StationId) : j ∈ allStations := by revert j; decide
  simp only [State.sessions, List.mem_filterMap, all, true_and, Option.map_eq_some_iff, Prod.mk.injEq]
  constructor
  · rintro ⟨j, y, present, rfl, rfl⟩
    exact present
  · exact fun present => ⟨i, x, present, rfl, rfl⟩

/-- A session of the table as a restart finds it to settle: its path handed over (R112). -/
def State.handed (s : State) (p : StationId × Session) : StationId × Session :=
  (p.1, if (s.station p.1).path = [] then p.2 else p.2.handedOver (s.station p.1).path)

theorem Station.toSettle_of_none (absent : st.session = none) : st.toSettle = none := by
  rw [Station.toSettle, absent]
  rfl

theorem Station.toSettle_of_authorizing {x : Session} (present : st.session = some x) (phase : x.phase = .authorizing) :
    st.toSettle = none := by
  simp [Station.toSettle, present, phase]

theorem Station.toSettle_of_other {x : Session} (present : st.session = some x) (phase : x.phase ≠ .authorizing) :
    st.toSettle = some (if st.path = [] then x else x.handedOver st.path) := by
  simp [Station.toSettle, present, phase]

theorem Station.isSome_toSettle (st : Station) :
    st.toSettle.isSome ↔ ∃ x, st.session = some x ∧ x.phase ≠ .authorizing := by
  cases session : st.session with
  | none => simp [Station.toSettle_of_none session]
  | some x =>
      by_cases phase : x.phase = .authorizing
      · simp [Station.toSettle_of_authorizing session phase, phase]
      · simp [Station.toSettle_of_other session phase, phase]

/-- A restart settles the sessions that are not AUTHORIZING (R182, R184). -/
theorem State.sessionsToSettle_eq (s : State) : s.sessionsToSettle =
    (s.sessions.filter fun p => decide (p.2.phase ≠ .authorizing)).map s.handed := by
  have each (l : List StationId) : (l.filterMap fun i => (s.station i).toSettle.map fun x => (i, x)) =
      ((l.filterMap fun i => (s.station i).session.map fun x => (i, x)).filter fun p =>
        decide (p.2.phase ≠ .authorizing)).map s.handed := by
    induction l with
    | nil => rfl
    | cons i l ih =>
        cases session : (s.station i).session with
        | none => simpa [Station.toSettle_of_none session, session] using ih
        | some x =>
            by_cases phase : x.phase = .authorizing
            · simpa [Station.toSettle_of_authorizing session phase, session, phase] using ih
            · simpa [Station.toSettle_of_other session phase, State.handed, session, phase] using ih
  exact each allStations

/-- The handing over leaves what a record tells of the session, and counts its sheets as jammed (R112). -/
theorem State.handed_eq (counts : s.CountsKept) {p : StationId × Session} (mem : p ∈ s.sessions) :
    (s.handed p).1 = p.1 ∧ (s.handed p).2.serial = p.2.serial ∧ (s.handed p).2.hold = p.2.hold ∧
      (s.handed p).2.charged = p.2.charged ∧ (s.handed p).2.opened = p.2.opened ∧
      (s.handed p).2.phase = p.2.phase ∧
      (s.handed p).2.jammed = min 4294967295 (p.2.jammed +
        ((s.station p.1).path.filter fun e => decide (e.serial = some p.2.serial)).length) := by
  unfold State.handed
  split
  · rename_i empty
    obtain ⟨_, _, _, _, _, top, _⟩ := counts p.1 p.2 (State.mem_sessions.mp mem)
    refine ⟨rfl, rfl, rfl, rfl, rfl, rfl, ?_⟩
    rw [empty]
    exact (Nat.min_eq_right top).symm
  · refine ⟨rfl, Session.serial_handedOver _ _, ?_, Session.charged_handedOver _ _, ?_, Session.phase_handedOver _ _,
      Session.jammed_handedOver _ _⟩
    all_goals
      rw [Session.handedOver, Session.retier_eq]
      rfl

theorem State.Wound.settled (wound : s.Wound cause records v) (counts : s.CountsKept) (known : cause ≠ .retainLost) :
    List.Forall₂ (fun p q => ∃ r, q = .settle r ∧ r.station = p.1.val + 1 ∧ r.sessionSerial = p.2.serial ∧
        r.hold = p.2.hold ∧ r.charged = (p.2.charged + 5) / 10 ∧ r.opened = p.2.opened ∧ r.closed = s.stamp ∧
        r.jammed = min 4294967295 (p.2.jammed +
          ((s.station p.1).path.filter fun e => decide (e.serial = some p.2.serial)).length) ∧
        r.reason = (match p.2.phase with
          | .closing reason => reason
          | _ => if cause = .supply ∨ s.device = .shutdown then .power else .reset))
      (s.sessions.filter fun p => decide (p.2.phase ≠ .authorizing)) records := by
  have each := wound.made.each
  rw [State.sessionsToSettle_eq, List.forall₂_map_left_iff] at each
  obtain ⟨length, settles⟩ := List.forall₂_iff_zip.mp each
  refine List.forall₂_iff_zip.mpr ⟨length, fun {p q} pair => ?_⟩
  obtain ⟨serial, identity, parked, rfl⟩ := settles pair
  have mem := List.mem_of_mem_filter (List.of_mem_zip pair).1
  obtain ⟨station, serial', hold, charged, opened, phase, jammed⟩ := State.handed_eq counts mem
  refine ⟨_, rfl, congrArg (fun i : StationId => i.val + 1) station, serial', hold,
    congrArg (fun n => (n + 5) / 10) charged, opened, rfl, jammed, ?_⟩
  have why : (s.restartRecord cause).cause = .supply ∨ (s.restartRecord cause).cause = .retainLost ∨
      (s.restartRecord cause).before = .shutdown ↔ cause = .supply ∨ s.device = .shutdown :=
    ⟨fun h => h.imp_right fun h => h.resolve_left known, fun h => h.imp_right .inr⟩
  refine (restartReason_eq _ _).trans ?_
  rw [phase]
  cases p.2.phase with
  | closing reason => rfl
  | _ => exact if_congr why rfl rfl

/-- The newest record of a full journal takes a restart that settles nothing (R156). -/
theorem coalesceNewest_append (stamp : Nat) (cause : RestartCause) (r : RestartRecord) : ∀ older : List Record,
    coalesceNewest stamp cause 0 (older ++ [.restart r]) =
      older ++ [.restart { r with stamp := stamp, cause := cause, repeats := min 255 (r.repeats + 1) }]
  | [] => rfl
  | q :: older => by
      have more : ∃ q' rest, older ++ [.restart r] = q' :: rest := by
        cases older with
        | nil => exact ⟨_, _, rfl⟩
        | cons q' rest => exact ⟨_, _, rfl⟩
      have rest := coalesceNewest_append stamp cause r older
      obtain ⟨q', tail, same⟩ := more
      rw [List.cons_append, List.cons_append, ← rest, same]
      cases q <;> rfl

end Sys2Proof.Machine
end

section
/-! Restarts made whole, from the command that begins them (O53). -/

namespace Sys2Proof.Machine

variable {s t u v : State} {c : Option Nat → Instr} {cause : RestartCause} {records : List Record}

/-! ### A restart made whole of a sound part -/

/-- A command keeps what a step keeps: a step serves the command at the front of the queue. -/
theorem exec_keepsSound {c : Instr} (sound : s.Sound) (run : exec c s = .next t) : t.Sound := by
  obtain ⟨bounded, notices, slots, identities, holds, boundSlots, authorizations, journal, money, counts, jams, restart⟩ :=
    sound
  exact stepKeepsSound { s with pending := c :: s.pending } t ⟨bounded, notices, slots, identities, holds, boundSlots,
    authorizations, journal, money, counts, jams, restart⟩ run

/-- `t` is the part `s` after a restart made whole, which `v` is with its last piece left. -/
structure State.WoundDown (s : State) (cause : RestartCause) (records : List Record) (v t : State) : Prop where
  wound : s.Wound cause records v
  back : v.Back t
  lines : ∀ i, (v.station i).lines = (s.station i).lines.map fun _ l => l.clear
  now : v.now = s.now
  sound : t.Sound

theorem State.Sound.path_fits (sound : s.Sound) (i : StationId) : (s.station i).path.length ≤ 4294967295 :=
  (sound.bounded.1 i).1.trans (by decide)

theorem State.Begins.known (begins : s.Begins c cause) : cause ≠ .retainLost := by
  rcases begins with ⟨_, _, _, rfl⟩ | ⟨_, _, _, _, rfl⟩ | ⟨_, _, _, rfl⟩ <;> exact nofun

/-- A command that begins a restart, without PFAIL, makes it whole. -/
theorem State.woundDown_of_begins (begins : s.Begins c cause) (idle : s.restart = none) (sound : s.Sound)
    (valid : s.marker = true) (steady : cause = .supply ∨ s.pfail = false) :
    ∃ t records v, exec (c none) s = .next t ∧ s.WoundDown cause records v t := by
  obtain ⟨u, ⟨rest⟩, pfail, run⟩ := begins.exec idle
  have calm := pfail steady
  have whole := run none
  clear run pfail
  have after := exec_keepsSound sound whole
  obtain ⟨supply, flag, pin, up, reply, rfl⟩ : ∃ supply flag pin up reply, u = { s with
      mainSupply := supply, pfail := flag, resetPin := pin, cameUp := up, reply := reply } := ⟨_, _, _, _, _, rest⟩
  obtain ⟨records, wound⟩ := State.wound_restartSteps (s := { s with
    mainSupply := supply, pfail := flag, resetPin := pin, cameUp := up, reply := reply }) valid sound.slots
    sound.path_fits cause
  have underway := State.underway_restartSteps { s with
    mainSupply := supply, pfail := flag, resetPin := pin, cameUp := up, reply := reply } cause (Nat.le_refl 27)
  have back := State.back_doRestart { s with
    mainSupply := supply, pfail := flag, resetPin := pin, cameUp := up, reply := reply } cause calm
  obtain ⟨station, numbers, made, room, full, closed⟩ := wound
  exact ⟨_, records, _, whole,
    ⟨station, numbers, ⟨made.each, made.serials⟩, room, full, closed⟩, back, underway.lines, underway.now, after⟩

namespace State.WoundDown

variable (down : s.WoundDown cause records v t)

include down

theorem device : t.device = .running ∧ t.restart = none := by
  rw [down.back.rest]
  exact ⟨rfl, rfl⟩

theorem station (i : StationId) :
    (t.station i).session = none ∧ (t.station i).path = [] ∧ (t.station i).profile = (s.station i).profile ∧
      (t.station i).state = (if (s.station i).profile.autoStart then .notReady else .offline) ∧
      (t.station i).jam = ((s.station i).woundUp s.stamp).jam ∧
      (t.station i).meters = ((s.station i).woundUp s.stamp).meters ∧
      ∀ m : Line, (t.station i).lines.get m =
        { raw := ((s.station i).lines.get m).raw, level := false
          timing := if ((s.station i).lines.get m).raw then
              some ⟨s.now, decide (m = .feed ∨ m = .deliver)⟩ else none } :=
  down.back.station_woundUp down.wound (down.lines i) down.now

theorem sessions : t.sessions = [] := by
  refine List.eq_nil_iff_forall_not_mem.mpr fun p mem => ?_
  rw [State.mem_sessions, (down.station p.1).1] at mem
  exact nomatch mem

theorem reservations : t.reservations = 0 := by
  rw [down.sound.journal.1, down.sessions]
  rfl

/-- No station is left JAMMED, RECOVER or SAVE. -/
theorem state_ne (i : StationId) : (t.station i).state ≠ .ready ∧ (t.station i).state ≠ .save ∧
    ¬ ((t.station i).state = .jammed ∨ (t.station i).state = .recover) := by
  obtain ⟨_, _, _, state, _⟩ := down.station i
  rw [state]
  cases (s.station i).profile.autoStart <;> decide

theorem jamOpen (i : StationId) : (t.station i).jamOpen = false := by
  obtain ⟨_, _, working⟩ := down.state_ne i
  exact Bool.eq_false_iff.mpr fun opened => working ((down.sound.jams i).mp opened)

theorem outputs (i : StationId) : t.permit i = false ∧ t.pause i = false ∧ t.save i = false := by
  obtain ⟨session, _⟩ := down.station i
  obtain ⟨_, save, _⟩ := down.state_ne i
  simp [State.permit, State.pause, State.save, session, save]

theorem numbers : t.slots.map Prod.fst = s.slots.map Prod.fst := by
  rw [down.back.rest]
  exact down.wound.numbers

/-- Each session that is not AUTHORIZING gives one record in place of its reservation (R155). -/
theorem length_records : records.length = (s.sessions.filter fun p => decide (p.2.phase ≠ .authorizing)).length := by
  rw [← down.wound.made.each.length_eq, State.sessionsToSettle_eq, List.length_map]

theorem length_records_le (sound : s.Sound) : records.length ≤ s.reservations := by
  rw [down.length_records, sound.journal.1]
  exact List.length_filter_le _ _

theorem journal_of_room (sound : s.Sound) (room : s.journal.length + s.reservations < 512) :
    t.journal = s.journal ++ records ++ [.restart
      { serial := (s.recordSerial + records.length + 1) % 4294967296, stamp := s.stamp, cause := cause
        repeats := 1, settled := records.length }] := by
  have few := down.length_records_le sound
  rw [down.back.rest]
  exact down.wound.room (by omega)

/-- A full journal holds no place for a session, and its newest record takes the restart (R154, R156). -/
theorem journal_of_full (sound : s.Sound) {older : List Record} {r : RestartRecord}
    (newest : s.journal = older ++ [.restart r]) (full : s.journal.length = 512) :
    records = [] ∧ t.recordSerial = s.recordSerial ∧ t.journal = older ++ [.restart { r with
      stamp := s.stamp, cause := cause, repeats := min 255 (r.repeats + 1) }] := by
  have fits : s.journal.length + s.reservations ≤ 512 := sound.journal.2.1
  have few := down.length_records_le sound
  have none : records = [] := List.eq_nil_of_length_eq_zero (by omega)
  obtain ⟨journal, serial⟩ := down.wound.full full none
  rw [newest, coalesceNewest_append] at journal
  rw [down.back.rest]
  exact ⟨none, serial, journal⟩

theorem sessionClosed_iff (i : StationId) : ⟨.sessionClosed, i.val + 1⟩ ∈ t.notices ↔
    ∃ x, (s.station i).session = some x ∧ x.phase ≠ .authorizing := by
  rw [← Station.isSome_toSettle, ← down.wound.closed]
  refine ⟨fun pending => ?_, down.back.kept _⟩
  rcases down.back.posted _ pending with before | ⟨_, change⟩ | turned | ⟨low, _⟩
  · exact before
  · exact nomatch change
  · exact nomatch turned
  · exact nomatch low

/-- What became of the path of a station, on the meters and in its record (R183, R20, R29). -/
theorem written_off (sound : s.Sound) (i : StationId) :
    (t.station i).meters.jammed = (if (s.station i).path = [] then (s.station i).meters.jammed
        else ((s.station i).meters.jammed + (s.station i).path.length) % 100000000) ∧
      ((t.station i).meters.lost = if (s.station i).path = [] then (s.station i).lostClosed
        else ((s.station i).lostClosed + (s.station i).path.length) % 100000000) ∧
      ((s.station i).path ≠ [] → ∃ r, (t.station i).jam = some r ∧ r.cause = .restart ∧ r.stamp = s.stamp ∧
        r.inDoubt = (s.station i).path.length ∧ r.purged = 0 ∧ r.lost = some (s.station i).path.length) ∧
      ((s.station i).path = [] → ∀ r, (s.station i).jam = some r → (t.station i).jam = some { r with
        lost := some (r.lost.getD (r.inDoubt - r.purged)) }) := by
  obtain ⟨_, _, _, _, jam, meters, _⟩ := down.station i
  rw [jam, meters]
  by_cases empty : (s.station i).path = []
  · obtain ⟨record, jammed, lost⟩ := Station.woundUp_of_empty (sound.jams i) empty s.stamp
    rw [if_pos empty, if_pos empty, record]
    exact ⟨jammed, lost, fun path => absurd empty path, fun _ r some => by rw [some]; rfl⟩
  · obtain ⟨record, jammed, lost⟩ := Station.woundUp_of_path (sound.jams i) empty (sound.path_fits i) s.stamp
    rw [if_neg empty, if_neg empty]
    exact ⟨jammed, lost, fun _ => record, fun path => absurd path empty⟩

end State.WoundDown

/-! ### The obligation -/

/-- What a session charges in cents lies within its hold (R86). -/
theorem State.MoneyKept.charge_le (money : s.MoneyKept) {p : StationId × Session} (mem : p ∈ s.sessions) :
    (p.2.charged + 5) / 10 ≤ p.2.hold := by
  obtain ⟨_, _, bound, _⟩ := (Station.moneyKept_of_some (State.mem_sessions.mp mem)).mp (money p.1)
  omega

/-- Where two lists are related element by element, each element on the right has its own on the left. -/
theorem exists_of_forall₂_right {α β : Type} {R : α → β → Prop} {as : List α} {bs : List β} (all : List.Forall₂ R as bs)
    {b : β} (mem : b ∈ bs) : ∃ a ∈ as, R a b := by
  induction all with
  | nil => exact absurd mem List.not_mem_nil
  | cons first _ ih =>
      rcases List.mem_cons.mp mem with rfl | later
      · exact ⟨_, List.mem_cons_self, first⟩
      · obtain ⟨a, among, related⟩ := ih later
        exact ⟨a, List.mem_cons_of_mem _ among, related⟩

/-- The three commands of the statement begin a restart, and PFAIL is not recognized then. -/
theorem State.begins_of_trigger {c : Instr}
    (trigger : (c = .supplyReturn none ∧ s.resetPin = false ∧ (s.mainSupply = false ∨ s.device = .shutdown) ∧
          cause = .supply) ∨
        (c = .resetPinDeasserted none ∧ s.resetPin = true ∧ s.mainSupply = true ∧ s.cameUp = false ∧
          s.pfail = false ∧ cause = .pin) ∨
        (c = .replySent none ∧ s.alive = true ∧ s.pfail = false ∧ (∃ r, s.reply = some r ∧ r.restarts = true) ∧
          cause = .command)) :
    ∃ f : Option Nat → Instr, c = f none ∧ s.Begins f cause ∧ (cause = .supply ∨ s.pfail = false) := by
  rcases trigger with ⟨rfl, pin, needed, rfl⟩ | ⟨rfl, pin, supplied, up, steady, rfl⟩ | ⟨rfl, alive, steady, sending, rfl⟩
  · exact ⟨.supplyReturn, rfl, .inl ⟨rfl, pin, needed, rfl⟩, .inl rfl⟩
  · exact ⟨.resetPinDeasserted, rfl, .inr (.inl ⟨rfl, pin, supplied, up, rfl⟩), .inr steady⟩
  · exact ⟨.replySent, rfl, .inr (.inr ⟨rfl, alive, sending, rfl⟩), .inr steady⟩

/-- Settles O53: a restart made whole is the three passes over the stations, the RESTART record, the notices, and the last
piece; made by steps it makes the same pieces; and PFAIL, which no piece looks at, is added at its end. -/
theorem restartWindsDown : Obligations.RestartWindsDown := by
  refine ⟨?_, ?_, ?_, fun s u n c quiet idle command => exec_restart_pieces quiet idle command, ?_,
    fun s r p supplied present => exec_pfail_in_restart supplied present p, ?_⟩
  · intro s sound valid off pin idle room
    have begins : s.Begins .supplyReturn .supply := .inl ⟨rfl, pin, .inl off, rfl⟩
    obtain ⟨t, records, v, run, down⟩ := State.woundDown_of_begins begins idle sound valid (.inl rfl)
    have settled := down.wound.settled sound.counts begins.known
    refine ⟨t, _, records, run, down.device.1, down.device.2, down.reservations, down.sessions, down.numbers,
      down.journal_of_room sound room, down.length_records, fun q mem => ?_, rfl, rfl, rfl, rfl, fun i => ?_⟩
    · obtain ⟨p, among, x, rfl, _, _, hold, charged, _⟩ := exists_of_forall₂_right settled mem
      refine ⟨x, rfl, ?_⟩
      rw [hold, charged]
      exact sound.money.charge_le (List.mem_of_mem_filter among)
    · obtain ⟨_, path, profile, state, _⟩ := down.station i
      exact ⟨path, down.jamOpen i, state, profile, down.outputs i⟩
  · intro s c cause sound valid idle trigger
    obtain ⟨f, rfl, begins, steady⟩ := State.begins_of_trigger trigger
    obtain ⟨t, records, v, run, down⟩ := State.woundDown_of_begins begins idle sound valid steady
    refine ⟨t, records, run, down.device.1, down.device.2, down.reservations, down.sessions,
      down.wound.settled sound.counts begins.known, down.wound.made.serials, down.journal_of_room sound,
      fun older r => down.journal_of_full sound, down.sessionClosed_iff, fun i => ?_⟩
    obtain ⟨_, path, _, state, _, _, lines⟩ := down.station i
    obtain ⟨jammed, lost, record, closed⟩ := down.written_off sound i
    exact ⟨path, down.jamOpen i, state, down.back.changed i, lines, jammed, fun before same => same ▸ lost, record, closed⟩
  · intro s r i quiet present
    refine ⟨fun x next session phase => step_endAuthorization quiet present next session phase,
      fun x next session phase => step_no_authorization quiet present next session phase,
      fun e rest next path room => step_writeOff quiet present next path room, fun x ref next session payment => ?_,
      fun next room => step_record quiet present next room⟩
    have settles := step_settle quiet present next session payment
    rw [restartReason_eq] at settles
    exact settles
  · intro s c idle trigger
    have begins : ∃ f cause, c = f none ∧ s.Begins f cause ∧ (cause = .supply ∨ s.pfail = false) := by
      rcases trigger with ⟨rfl, pin, needed⟩ | ⟨rfl, pin, supplied, up, steady⟩ | ⟨rfl, alive, steady, sending⟩
      · exact ⟨.supplyReturn, .supply, rfl, .inl ⟨rfl, pin, needed, rfl⟩, .inl rfl⟩
      · exact ⟨.resetPinDeasserted, .pin, rfl, .inr (.inl ⟨rfl, pin, supplied, up, rfl⟩), .inr steady⟩
      · exact ⟨.replySent, .command, rfl, .inr (.inr ⟨rfl, alive, sending, rfl⟩), .inr steady⟩
    obtain ⟨f, cause, rfl, begins, steady⟩ := begins
    obtain ⟨u, _, pfail, run⟩ := begins.exec idle
    exact ⟨_, run none, u.journalLow_doRestart cause (pfail steady)⟩
  · intro s u run recognized restarts without
    obtain ⟨t, shut, same, stations⟩ := u.enterShutdown_after
    exact ⟨t, (restart_meets_pfail recognized restarts without).trans (congrArg Host.Outcome.next shut), same, stations⟩

end Sys2Proof.Machine
end
